-- ==== Sys2Proof/Word.lean ====
section
/-! DEFINITION. The words of the RSM-2040: bytes of memory and the 32-bit counts. -/

namespace Sys2Proof

/-- One byte of memory (00_scope.md section 5: pixel samples and record bytes are 8-bit). -/
abbrev Byte := BitVec 8

/-- A 32-bit count that wraps (frame number, drop, degraded, fault and compare counts). -/
abbrev Count := BitVec 32

end Sys2Proof
end

