-- ==== Sys2Proof/Syntax.lean ====
section
/-! DEFINITION. The commands of the RSM-2040: one constructor for each row of spec/opcode_table.json. -/

namespace Sys2Proof

/-- Direction of a transaction (01 section 1.1). -/
inductive Dir where
  | read
  | write
  deriving DecidableEq, Repr

/-- The response of a transaction (01 section 1.1). -/
inductive Resp where
  | okay
  | error
  deriving DecidableEq, Repr

/-- Output A or output B. -/
inductive OutId where
  | a
  | b
  deriving DecidableEq, Repr

/-- An upstream transaction (01 section 1.1): a 36-bit byte address, a direction, a length of 16 to 256
bytes in units of 16, and the data of a write. `id` names the transaction on the upstream link, so that
its response can be told from another's (log 6). -/
structure Txn where
  id : Nat
  dir : Dir
  addr : Nat
  len : Nat
  data : List Byte
  deriving DecidableEq, Repr

/-- The rows of the opcode table. A directive's operands are its parameters at the widths of R187; a step
that takes a temperature sample carries the die sensor's reading in whole degrees (`die`, R165). -/
inductive Instr where
  /-- RESET_N, with the value on CPBASE[3:0] (R17). -/
  | resetN (cpbase : BitVec 4)
  /-- FORWARDED_TRANSACTION (R9). -/
  | forwardedTransaction (t : Txn)
  /-- CLASS_B_RESPONSE to the upstream transaction `id` of direction `d` (R2). -/
  | classBResponse (d : Dir) (id : Nat) (r : Resp) (data : List Byte)
  /-- SUBMIT_WORD (R20). -/
  | submitWord (v : BitVec 32)
  /-- ACKNOWLEDGE_WORD (R176). -/
  | acknowledgeWord (v : BitVec 32)
  /-- NOTICE_RECORD_READ (R175). -/
  | noticeRecordRead
  /-- STATUS_RECORD_READ (R168). -/
  | statusRecordRead
  /-- STRADDLING_ACCESS (R5). -/
  | straddlingAccess (t : Txn)
  /-- OUTPUT_WINDOW_WRITE (R6). -/
  | outputWindowWrite (t : Txn)
  /-- OUTPUT_WINDOW_READ (R114). -/
  | outputWindowRead (t : Txn)
  /-- OUTPUT_READ_SERVED by output `x` (R124). -/
  | outputReadServed (x : OutId)
  /-- OUTPUT_FRAME_START of output `x` (R116). -/
  | outputFrameStart (x : OutId) (die : Int)
  /-- CAPTURE_WINDOW_READ (R8). -/
  | captureWindowRead (t : Txn)
  /-- CAPTURE_WRITE (R59). -/
  | captureWrite (t : Txn) (die : Int)
  /-- FRAME_START (R58). -/
  | frameStart (t : Txn) (die : Int)
  /-- TEAR_FINISHED (R63). -/
  | tearFinished (die : Int)
  /-- FRAME_COMPLETION (R62). -/
  | frameCompletion (die : Int)
  /-- DOWNSTREAM_GRANT (R12). -/
  | downstreamGrant
  /-- LOSS_COUNT_GRANT (R14). -/
  | lossCountGrant
  /-- LUMA_WRITE_RESPONSE to the class C write at `addr` (R79). -/
  | lumaWriteResponse (addr : Nat) (r : Resp)
  /-- CHROMA_WRITE_RESPONSE to the redirected write of the upstream transaction `id` (R80). -/
  | chromaWriteResponse (id : Nat) (r : Resp)
  /-- SOURCE_ROW_FETCH_RESPONSE to the class A read of output `x` at `addr` (R127). -/
  | sourceRowFetchResponse (x : OutId) (addr : Nat) (r : Resp) (data : List Byte)
  /-- DIRECTIVE_FETCH_RESPONSE (R22). -/
  | directiveFetchResponse (r : Resp) (data : List Byte)
  /-- DIRECTIVE_STATUS_WRITE_RESPONSE (R24). -/
  | directiveStatusWriteResponse (r : Resp)
  /-- RECORD_WRITE_RESPONSE to the record write at `addr` (R182). -/
  | recordWriteResponse (addr : Nat) (r : Resp)
  /-- RESUME_READ_RESPONSE (R137). -/
  | resumeReadResponse (r : Resp) (data : List Byte)
  /-- CHUNK_READ_RESPONSE to the class E read at `addr` (R156). -/
  | chunkReadResponse (addr : Nat) (r : Resp) (data : List Byte)
  /-- CHUNK_WRITE_RESPONSE to the class E write at `addr` (R156). -/
  | chunkWriteResponse (addr : Nat) (r : Resp)
  /-- WAIT_LIMIT_TIMEOUT (R153). -/
  | waitLimitTimeout
  /-- AUTO_REQUEST (R148). -/
  | autoRequest
  /-- AUTO_ANSWER (R90). -/
  | autoAnswer
  /-- UNKNOWN_DIRECTIVE_TYPE (R23). -/
  | unknownDirectiveType (ty : BitVec 8)
  /-- CONFIGURE_CAPTURE (R53). -/
  | configureCapture (w h : BitVec 16) (window region : BitVec 64)
  /-- START_CAPTURE (R54). -/
  | startCapture
  /-- STOP_CAPTURE (R55). -/
  | stopCapture (die : Int)
  /-- SET_ENHANCE (R56). -/
  | setEnhance (gain coring levelling darkFloor : BitVec 8)
  /-- CONFIGURE_OUTPUT (R106). -/
  | configureOutput (sel : BitVec 8) (ow oh : BitVec 16) (window : BitVec 64)
  /-- ENABLE_OUTPUT (R107). -/
  | enableOutput (sel : BitVec 8)
  /-- DISABLE_OUTPUT (R108). -/
  | disableOutput (sel : BitVec 8)
  /-- SET_VIEW (R118). -/
  | setView (sel flip : BitVec 8) (zt ramp cx cy : BitVec 16)
  /-- LIVE (R110). -/
  | live (sel : BitVec 8)
  /-- FREEZE (R111). -/
  | freeze (sel : BitVec 8)
  /-- BLANK (R110). -/
  | blank (sel : BitVec 8)
  /-- RECALL (R112). -/
  | recallEntry (sel useView : BitVec 8) (pos : BitVec 16)
  /-- SET_MONITOR (R84). -/
  | setMonitor (delta k hold scan standby : BitVec 8) (idle presence : BitVec 16) (auto : BitVec 8)
  /-- WAKE (R96). -/
  | wake
  /-- OPEN_STORE (R135). -/
  | openStore (policy resume wait : BitVec 8) (e : BitVec 16) (base : BitVec 64)
  /-- CLOSE_STORE (R139). -/
  | closeStore
  /-- BEGIN_LESSON (R144). -/
  | beginLesson
  /-- END_LESSON (R145). -/
  | endLesson
  /-- SNAPSHOT (R147). -/
  | snapshot (source keep : BitVec 8)
  /-- CLAIM (R159). -/
  | claim (pos : BitVec 16)
  /-- RELEASE (R159). -/
  | release (pos : BitVec 16)
  /-- KEEP (R160). -/
  | keep (pos : BitVec 16)
  /-- UNKEEP (R160). -/
  | unkeep (pos : BitVec 16)
  /-- DELETE (R160). -/
  | delete (pos : BitVec 16)
  /-- SET_NOTICE (R177). -/
  | setNotice (threshold : BitVec 8) (setMask clearMask : BitVec 16)
  /-- RESTART (R30). -/
  | restart (die : Int)
  deriving DecidableEq, Repr

/-- The directive without the sensor reading: what a directive record can say (R187). -/
def Instr.bare : Instr → Instr
  | .stopCapture _ => .stopCapture 0
  | .restart _ => .restart 0
  | c => c

end Sys2Proof
end

