-- ==== Sys2Proof/Decode.lean ====
section
/-! DEFINITION. Reading commands from bits and bytes. No row of spec/opcode_table.json gives bits, so
`decodeTableWord` reads none. The directive record of 10 section 10.2 is the part's own encoding of the
directives: `decodeDirective` reads it (R187) and `encodeDirective` writes it. -/

namespace Sys2Proof

/-- The value of a little-endian field (00_scope.md section 5). -/
def leNat : List Byte → Nat
  | [] => 0
  | b :: bs => b.toNat + 256 * leNat bs

/-- The `n` bytes of a little-endian field with value `v`. -/
def leBytes : Nat → Nat → List Byte
  | 0, _ => []
  | n + 1, v => BitVec.ofNat 8 v :: leBytes n (v / 256)

/-- The field of `n` bytes at offset `off` of a record. -/
def fieldAt (rec : List Byte) (off n : Nat) : Nat := leNat ((rec.drop off).take n)

/-- The fields of one, two and eight bytes that a directive record has (R187). -/
def byteAt (rec : List Byte) (off : Nat) : BitVec 8 := BitVec.ofNat 8 (fieldAt rec off 1)
def halfAt (rec : List Byte) (off : Nat) : BitVec 16 := BitVec.ofNat 16 (fieldAt rec off 2)
def addrAt (rec : List Byte) (off : Nat) : BitVec 64 := BitVec.ofNat 64 (fieldAt rec off 8)

/-- The directive a fetched record names (R23, R187; table of 10 section 10.2). -/
def decodeDirective (rec : List Byte) : Instr :=
  match fieldAt rec 0 1 with
  | 1 => .configureCapture (halfAt rec 0x04) (halfAt rec 0x06) (addrAt rec 0x08) (addrAt rec 0x10)
  | 2 => .startCapture
  | 3 => .stopCapture 0
  | 4 => .setEnhance (byteAt rec 0x03) (byteAt rec 0x04) (byteAt rec 0x05) (byteAt rec 0x06)
  | 5 => .configureOutput (byteAt rec 0x03) (halfAt rec 0x04) (halfAt rec 0x06) (addrAt rec 0x08)
  | 6 => .enableOutput (byteAt rec 0x03)
  | 7 => .disableOutput (byteAt rec 0x03)
  | 8 => .setView (byteAt rec 0x03) (byteAt rec 0x04) (halfAt rec 0x06) (halfAt rec 0x08)
      (halfAt rec 0x0A) (halfAt rec 0x0C)
  | 9 => .live (byteAt rec 0x03)
  | 10 => .freeze (byteAt rec 0x03)
  | 11 => .blank (byteAt rec 0x03)
  | 12 => .recallEntry (byteAt rec 0x03) (byteAt rec 0x04) (halfAt rec 0x06)
  | 13 => .setMonitor (byteAt rec 0x03) (byteAt rec 0x04) (byteAt rec 0x05) (byteAt rec 0x06)
      (byteAt rec 0x07) (halfAt rec 0x08) (halfAt rec 0x0A) (byteAt rec 0x0C)
  | 14 => .wake
  | 15 => .openStore (byteAt rec 0x03) (byteAt rec 0x04) (byteAt rec 0x05) (halfAt rec 0x06)
      (addrAt rec 0x08)
  | 16 => .closeStore
  | 17 => .beginLesson
  | 18 => .endLesson
  | 19 => .snapshot (byteAt rec 0x03) (byteAt rec 0x04)
  | 20 => .claim (halfAt rec 0x06)
  | 21 => .release (halfAt rec 0x06)
  | 22 => .keep (halfAt rec 0x06)
  | 23 => .unkeep (halfAt rec 0x06)
  | 24 => .delete (halfAt rec 0x06)
  | 25 => .setNotice (byteAt rec 0x03) (halfAt rec 0x04) (halfAt rec 0x06)
  | 26 => .restart 0
  | _ => .unknownDirectiveType (byteAt rec 0)

/-- A 32-byte directive record: type, flags, status 0, the parameters from offset 3, zero bytes to the end. -/
def directiveRecord (ty : Nat) (flags : BitVec 8) (params : List Byte) : List Byte :=
  ([BitVec.ofNat 8 ty, flags, 0] ++ params) ++ List.replicate (29 - params.length) 0

/-- The record software writes for a directive (10 section 10.2); a command that is no directive has none. -/
def encodeDirective (flags : BitVec 8) : Instr → Option (List Byte)
  | .configureCapture w h cw sr => some (directiveRecord 1 flags
      ([0] ++ leBytes 2 w.toNat ++ leBytes 2 h.toNat ++ leBytes 8 cw.toNat ++ leBytes 8 sr.toNat))
  | .startCapture => some (directiveRecord 2 flags [])
  | .stopCapture _ => some (directiveRecord 3 flags [])
  | .setEnhance g c l d => some (directiveRecord 4 flags [g, c, l, d])
  | .configureOutput x ow oh wb => some (directiveRecord 5 flags
      ([x] ++ leBytes 2 ow.toNat ++ leBytes 2 oh.toNat ++ leBytes 8 wb.toNat))
  | .enableOutput x => some (directiveRecord 6 flags [x])
  | .disableOutput x => some (directiveRecord 7 flags [x])
  | .setView x f zt r cx cy => some (directiveRecord 8 flags
      ([x, f, 0] ++ leBytes 2 zt.toNat ++ leBytes 2 r.toNat ++ leBytes 2 cx.toNat ++ leBytes 2 cy.toNat))
  | .live x => some (directiveRecord 9 flags [x])
  | .freeze x => some (directiveRecord 10 flags [x])
  | .blank x => some (directiveRecord 11 flags [x])
  | .recallEntry x u p => some (directiveRecord 12 flags ([x, u, 0] ++ leBytes 2 p.toNat))
  | .setMonitor dl k ho sc sb i p a => some (directiveRecord 13 flags
      ([dl, k, ho, sc, sb] ++ leBytes 2 i.toNat ++ leBytes 2 p.toNat ++ [a]))
  | .wake => some (directiveRecord 14 flags [])
  | .openStore po re wl e b => some (directiveRecord 15 flags
      ([po, re, wl] ++ leBytes 2 e.toNat ++ leBytes 8 b.toNat))
  | .closeStore => some (directiveRecord 16 flags [])
  | .beginLesson => some (directiveRecord 17 flags [])
  | .endLesson => some (directiveRecord 18 flags [])
  | .snapshot so ke => some (directiveRecord 19 flags [so, ke])
  | .claim p => some (directiveRecord 20 flags ([0, 0, 0] ++ leBytes 2 p.toNat))
  | .release p => some (directiveRecord 21 flags ([0, 0, 0] ++ leBytes 2 p.toNat))
  | .keep p => some (directiveRecord 22 flags ([0, 0, 0] ++ leBytes 2 p.toNat))
  | .unkeep p => some (directiveRecord 23 flags ([0, 0, 0] ++ leBytes 2 p.toNat))
  | .delete p => some (directiveRecord 24 flags ([0, 0, 0] ++ leBytes 2 p.toNat))
  | .setNotice th se cl => some (directiveRecord 25 flags
      ([th] ++ leBytes 2 se.toNat ++ leBytes 2 cl.toNat))
  | .restart _ => some (directiveRecord 26 flags [])
  | _ => none

/-- The command a word of table bits spells: no row of spec/opcode_table.json gives bits. -/
def decodeTableWord (_nbits _w : Nat) : Option Instr := none

end Sys2Proof
end

