-- ==== Sys2Proof/Config.lean ====
section
/-! DEFINITION. What the RSM-2040 fixes once (areas of the control page, depths, limits) and the free values. -/

namespace Sys2Proof.Config

/-- One past the last byte of the 36-bit space (00_scope.md section 5). -/
def addressSpace : Nat := 2 ^ 36

/-- Boundary no transaction crosses (01 section 1.1). -/
def page : Nat := 4096

/-- The longest transaction (01 section 1.1). -/
def maxTransfer : Nat := 256

/-- Places of the forwarding queue in each direction (R2). -/
def forwardDepth : Nat := 16

/-- The class E loss count at which class E is granted (R14). -/
def lossLimit : Nat := 32

/-- Emitted lines at which class C goes ahead of class B (R13). -/
def lumaPressure : Nat := 3

/-- Directive records in the ring (02 section 2.1). -/
def ringRecords : Nat := 32

/-- Places in the luma line buffer (04 section 4.4). -/
def linePlaces : Nat := 4

/-- Places of each plane's line cache (R126). -/
def cachePlaces : Nat := 4

/-- Requests the snapshot queue holds (R149). -/
def snapshotDepth : Nat := 4

/-- Tiles of the statistics grid (R76). -/
def tiles : Nat := 192

/-- Control-page offsets (10 section 10.1). -/
def submitOffset : Nat := 0x400
def headOffset : Nat := 0x410
def acknowledgeOffset : Nat := 0x420
def noticeOffset : Nat := 0x480
def statusOffset : Nat := 0x500
def signatureOffset : Nat := 0x600
def faultOffset : Nat := 0x700

/-- The store marker of the header (10 section 10.5). -/
def storeMarker : Nat := 0x20405354

/-- FREE VALUE. Half of an odd width or height (R120, R123 with the record of R190): the spec names no
rounding for it (log 13). -/
opaque oddHalf : Nat → Nat

/-- FREE VALUE. The clamp of centre value `v` into an axis of no pixels, 0..−1 (R118 with the record of
R190): the range is empty and the spec states no result (log 14). -/
opaque centreInEmptyAxis : Nat → Nat

/-- `n/2` as the spec writes Ws/2 and Hs/2: a free value when `n` is odd. -/
def half (n : Nat) : Nat := if n % 2 = 0 then n / 2 else oddHalf n

end Sys2Proof.Config
end

