-- ==== Sys2Proof/Machine/State.lean ====
section
/-! DEFINITION. The state of the RSM-2040: every register, queue, buffer, mark and count of its ten blocks,
as plain data, and the machine right after RESET_N. -/

namespace Sys2Proof.Machine

/-- Why the part stops with a fault. The spec gives every error of the part an effect on its state (a fault
record, HALTED), so no command ends in a fault of the model; the type has the one reason the interface
needs and nothing raises it. Safe. -/
inductive Fault where
  /-- Raised by nobody. Safe: the model never stops this way. -/
  | none
  deriving DecidableEq, Repr

/-- Why a command is refused by the model. -/
inductive Refusal where
  /-- Raised by `exec` for an instruction that has no meaning yet. Safe. -/
  | notModelled (mnemonic : String)
  /-- Raised by the upstream rows for a transaction that is none of the link's (01 section 1.1: length,
  alignment, 36-bit space, 4 KiB boundary, direction, write data). The spec gives it no effect. Safe (log 7). -/
  | illegalTransaction
  /-- Raised by the response rows for a read response that does not carry the data of its read
  (01 section 1.1). The spec gives it no effect. Safe (log 7). -/
  | malformedResponse
  /-- Raised by UNKNOWN_DIRECTIVE_TYPE for a type byte that names a directive (R187). Safe (log 7). -/
  | knownDirectiveType
  deriving DecidableEq, Repr

/-! ### Names shared by the blocks -/

/-- The status codes of 02 section 2.4, in the order of the refusals (R27 names the order). -/
inductive Status where
  | done
  | adjusted
  | refusedState
  | refusedBusy
  | refusedRange
  | refusedFormat
  | refusedNoFrame
  | refusedFull
  | refusedEntry
  deriving DecidableEq, Repr

/-- The sixteen event kinds of 09 section 9.1. -/
inductive EventKind where
  | directiveDone
  | pageMotion
  | frameDropped
  | frameDegraded
  | presence
  | thermalClear
  | pageSettled
  | standby
  | snapDone
  | woken
  | strayAccess
  | snapMissed
  | snapFailed
  | outputDamaged
  | thermal
  | fault
  deriving DecidableEq, Repr

/-- The fault kinds of 10 section 10.4. -/
inductive FaultKind where
  | captureWrite
  | outputFetch
  | copyRead
  | copyWrite
  | ringRead
  | catalogRead
  | catalogWrite
  | recordWrite
  deriving DecidableEq, Repr

/-- The blocks as fault records name them (10 section 10.4). -/
inductive BlockId where
  | path
  | directive
  | slots
  | enhancer
  | monitor
  | outputA
  | outputB
  | store
  | governor
  | notice
  deriving DecidableEq, Repr

/-- The position of a fault record (R189): none, a slot index, an entry position. -/
inductive FaultPos where
  | none
  | slot (k : Nat)
  | entry (p : Nat)
  deriving DecidableEq, Repr

/-- The kind of a frame (03 section 3.2). -/
inductive FrameKind where
  | enhanced
  | plain
  | degraded
  deriving DecidableEq, Repr

/-! ### Path Unit (chapter 1) -/

/-- What an observed control-page access tells its owner (R10, R11). -/
inductive Obs where
  | submit (v : BitVec 32)
  | acknowledge (v : BitVec 32)
  | noticeRead
  | statusRead
  deriving DecidableEq, Repr

/-- An entry of the forwarding queue (R2): an upstream transaction as it is issued downstream. `chroma` marks
a redirected chroma write of the Capture Enhancer (R7); `obs` is what it is observed for (R10, R11). -/
structure FwdEntry where
  id : Nat
  dir : Dir
  addr : Nat
  len : Nat
  data : List Byte
  chroma : Bool
  obs : List Obs
  granted : Bool
  resp : Option (Resp × List Byte)
  deriving DecidableEq, Repr

/-- A response given upstream. -/
structure UpResponse where
  id : Nat
  dir : Dir
  resp : Resp
  data : List Byte
  deriving DecidableEq, Repr

/-- The Path Unit (R17). The window table's capture and output entries are not stored a second time: they
are present exactly while capture is RUNNING and the output ENABLED (R3), with the owner's geometry. -/
structure PathUnit where
  /-- Base of the control page entry. -/
  cpBase : Nat
  /-- Upstream reads and writes that wait untaken, the head first (R1). -/
  upReads : List Txn
  upWrites : List Txn
  /-- The forwarding queue, in the order of taking. -/
  fwd : List FwdEntry
  /-- Every observation handed to its owner since RESET_N, oldest first: the model's record of the handings
  (R10, R11; log 9). -/
  handed : List Obs
  /-- The engine of the last class A grant (R12). -/
  lastA : OutId
  /-- The class E loss count (R14). -/
  lossCount : Nat
  /-- Every response given upstream since RESET_N, oldest first: the model's record of the port (log 6). -/
  upLog : List UpResponse
  deriving DecidableEq, Repr

/-! ### Directive Unit (chapter 2) -/

/-- The ring states of 02 section 2.2. -/
inductive RingState where
  | idle
  | fetching
  | stalled
  deriving DecidableEq, Repr

/-- How far the record in flight has come: its fetch raised; dispatched with the bytes fetched; accepted by
an owner that answers later (R25, R55, R108, R30); answered, its status write raised (R24). -/
inductive Phase where
  | fetch
  | dispatched (rec : List Byte)
  | accepted (rec : List Byte)
  | answered (rec : List Byte)
  deriving DecidableEq, Repr

/-- The record in flight (02 section 2.2). -/
structure RecordInFlight where
  index : Nat
  phase : Phase
  deriving DecidableEq, Repr

/-- The Directive Unit (R29). -/
structure Ring where
  head : Nat
  tail : Nat
  state : RingState
  flight : Option RecordInFlight
  errors : Nat
  /-- The owners of RESTART have begun it and not every one has reported (R23, R30). -/
  restarting : Bool
  /-- The status code an owner gave most recently: the model's own field (log 8). -/
  lastStatus : Option Status
  deriving DecidableEq, Repr

/-! ### Slot Table (chapter 3) -/

inductive SlotState where
  | free
  | filling
  | ready
  deriving DecidableEq, Repr

/-- A slot record (03 section 3.2). -/
structure Slot where
  state : SlotState
  frame : Count
  kind : FrameKind
  showA : Bool
  showB : Bool
  freezeA : Bool
  freezeB : Bool
  copies : Nat
  width : Nat
  height : Nat
  deriving DecidableEq, Repr

/-- The Slot Table's configuration (R32). -/
structure SlotGeom where
  base : Nat
  w : Nat
  h : Nat
  frameSize : Nat
  deriving DecidableEq, Repr

/-- The Slot Table (R49): six slot records, the READY list (head oldest), the drop count. -/
structure SlotTable where
  geom : Option SlotGeom
  slots : List Slot
  ready : List Nat
  drops : Count
  deriving DecidableEq, Repr

/-! ### Capture Enhancer (chapter 4) -/

inductive Levelling where
  | off
  | on
  | hold
  deriving DecidableEq, Repr

/-- The enhancement settings (04 section 4.2). -/
structure Settings where
  gain : Nat
  coring : Nat
  levelling : Levelling
  darkFloor : Nat
  deriving DecidableEq, Repr

/-- Position tracker states (04 section 4.3). -/
inductive Tracker where
  | none
  | receiving
  | draining
  deriving DecidableEq, Repr

/-- Conditions of a line buffer place (04 section 4.4). -/
inductive LineCond where
  | receiving
  | complete
  | emitted
  | neighbour
  deriving DecidableEq, Repr

/-- An occupied place of the line buffer: a line with its number, its condition and its captured bytes, and
how many of its class C writes are not yet granted. `unit` marks a place that holds one write of a frame
whose order broke (R69) instead of a line. -/
structure Place where
  line : Nat
  unit : Bool
  cond : LineCond
  raw : List Byte
  unsent : Nat
  deriving DecidableEq, Repr

/-- A class C write: slot address, bytes, and the line buffer place it comes from (R66). -/
structure LumaWrite where
  addr : Nat
  data : List Byte
  place : Nat
  deriving DecidableEq, Repr

/-- The capture configuration (R53). -/
structure CapGeom where
  base : Nat
  w : Nat
  h : Nat
  deriving DecidableEq, Repr

/-- The Capture Enhancer (R81). -/
structure Capture where
  geom : Option CapGeom
  running : Bool
  tracker : Tracker
  expected : Nat
  dropped : Bool
  broken : Bool
  degraded : Bool
  frameLevelling : Levelling
  /-- The frame kind, G_eff and C_eff fixed at the frame start (R57). -/
  frameKind : FrameKind
  gEff : Nat
  cEff : Nat
  /-- The slot of the stored frame in progress (R58 step 7). -/
  slot : Option Nat
  /-- A tear waits for the responses of the torn frame's writes (R63). -/
  tearing : Bool
  /-- A STOP_CAPTURE waits for a tear or a completion (R55). -/
  stopping : Bool
  staged : Settings
  live : Settings
  sums : List Nat
  whites : List Nat
  whiteMap : List Nat
  gains : List Nat
  /-- The four places of the line buffer; `none` is a free place. -/
  places : List (Option Place)
  /-- The number of the next line to emit (R65: lines are emitted in increasing order). -/
  nextEmit : Nat
  frameNo : Count
  degradedCount : Count
  /-- Class C: writes raised and not granted, and writes granted whose response has not returned. -/
  lumaWaiting : List LumaWrite
  lumaFlight : List LumaWrite
  deriving DecidableEq, Repr

/-! ### Page Monitor (chapter 5) -/

inductive MonState where
  | off
  | motion
  | active
  | standby
  deriving DecidableEq, Repr

/-- A frame's signature (R78): 192 means, the frame number, the slot index or the dropped mark. -/
structure Signature where
  means : List Nat
  frame : Count
  slot : Option Nat
  deriving DecidableEq, Repr

/-- The monitor's settings (05 section 5.2). -/
structure MonSettings where
  delta : Nat
  k : Nat
  hold : Nat
  idle : Nat
  scan : Nat
  presence : Nat
  standby : Bool
  auto : Bool
  deriving DecidableEq, Repr

/-- What the Lesson Store Controller sends the monitor (R90, R100): an answer to an AUTO request with the
means it carried, a BEGIN_LESSON notice, a notice of a taken SNAPSHOT NEWEST. `stale`: taken before a
RESTART (R90). -/
inductive MonNotice where
  | taken (means : List Nat) (stale : Bool)
  | refused
  | lessonBegun
  | newestSaved (stale : Bool)
  deriving DecidableEq, Repr

/-- An AUTO request (R89): the means of the settling frame it carries. `stale`: it was raised before a RESTART, so
its answer leaves the saved signature absent (R104, log 37). -/
structure AutoRequest where
  means : List Nat
  stale : Bool
  deriving DecidableEq, Repr

/-- The Page Monitor (R103). -/
structure Monitor where
  state : MonState
  last : Option Signature
  previous : Option (List Nat)
  reference : Option (List Nat)
  saved : Option (List Nat)
  stable : Nat
  idle : Nat
  scan : Nat
  presence : Nat
  lastScore : Nat
  compares : Count
  settings : MonSettings
  holdA : Bool
  holdB : Bool
  /-- AUTO requests raised and not yet taken by the controller (R89). -/
  autoRequests : List AutoRequest
  /-- The controller's answers and notices on their way, oldest first (R90). -/
  inbox : List MonNotice
  deriving DecidableEq, Repr

/-! ### Output Engines (chapter 6) -/

inductive OutState where
  | unconfigured
  | disabled
  | enabled
  deriving DecidableEq, Repr

/-- The sources of 06 section 6.2. -/
inductive Source where
  | live
  | frozen (slot : Nat)
  | held (slot : Nat)
  | heldNone
  | recalled (entry : Nat)
  | blank
  deriving DecidableEq, Repr

/-- The view of 06 section 6.4; a centre of `none` is centred. -/
structure View where
  zt : Nat
  zc : Nat
  ramp : Nat
  cx : Option Nat
  cy : Option Nat
  flip : Bool
  deriving DecidableEq, Repr

structure OutGeom where
  base : Nat
  ow : Nat
  oh : Nat
  deriving DecidableEq, Repr

/-- What a frame latch holds: a slot or a store entry. -/
inductive Latched where
  | slot (k : Nat)
  | entry (p : Nat)
  deriving DecidableEq, Repr

/-- A frame latch that holds a frame (06 section 6.1, R116, R119), with the flip the frame is shown with, which
like the step and the origins stands until the next output frame start (R117, R118). -/
structure Latch where
  what : Latched
  addr : Nat
  ws : Nat
  hs : Nat
  frame : Count
  step : Nat
  x0 : Int
  y0 : Int
  flip : Bool
  deriving DecidableEq, Repr

/-- A window read in the read queue (R114); `started`: the output frame start it brings has been taken. -/
structure QueuedRead where
  id : Nat
  off : Nat
  len : Nat
  started : Bool
  deriving DecidableEq, Repr

inductive Plane where
  | luma
  | chroma
  deriving DecidableEq, Repr

/-- Conditions of a line cache place (R126). -/
inductive CacheCond where
  | fetching
  | valid
  | marked
  | failed
  deriving DecidableEq, Repr

/-- Why a place is being fetched (R126, R127). -/
inductive FetchKind where
  | prefetch
  | demand
  | refetch
  deriving DecidableEq, Repr

/-- One read of a segment: waiting for its response, returned OKAY with data, or returned ERROR. -/
inductive PieceResult where
  | waiting
  | ok (data : List Byte)
  | bad
  deriving DecidableEq, Repr

structure Piece where
  addr : Nat
  len : Nat
  result : PieceResult
  deriving DecidableEq, Repr

/-- A line cache place (R126): a source row's segment. `failAddr` is the first read that returned ERROR. -/
structure CachePlace where
  row : Nat
  cond : CacheCond
  kind : FetchKind
  pieces : List Piece
  failAddr : Option Nat
  deriving DecidableEq, Repr

/-- A computed output row: its number in raster order and its bytes. -/
structure RowBuffer where
  row : Nat
  bytes : List Byte
  deriving DecidableEq, Repr

/-- One plane's line cache (places in the order they were taken, oldest first), row buffers, the rows whose fetch
waits for a place with the kind of the fetch (R126, log 40), and the rows that are FAILED until the next output frame
start, with the address of the failing refetch read (R124, R126, R127). -/
structure PlaneCache where
  places : List CachePlace
  current : Option RowBuffer
  previous : Option RowBuffer
  waiting : List (Nat × FetchKind)
  failed : List (Nat × Nat)
  deriving DecidableEq, Repr

/-- A class A read; `stale`: raised before the last output frame start, DISABLE_OUTPUT or RESTART, its response is
dropped (R108, R116). -/
structure RowFetch where
  addr : Nat
  len : Nat
  plane : Plane
  row : Nat
  stale : Bool
  deriving DecidableEq, Repr

/-- An Output Engine (R130). -/
structure Engine where
  state : OutState
  geom : Option OutGeom
  source : Source
  view : View
  latch : Option Latch
  queue : List QueuedRead
  luma : PlaneCache
  chroma : PlaneCache
  /-- The MODEL's own: the output row computed last, of either plane, since the output frame start (R126). -/
  computed : Option (Plane × Nat)
  damaged : Bool
  /-- A DISABLE_OUTPUT or RESTART first answers the reads in the queue (R108, R131). -/
  leaving : Bool
  fetchWaiting : List RowFetch
  fetchFlight : List RowFetch
  deriving DecidableEq, Repr

/-! ### Lesson Store Controller (chapter 7) -/

inductive StoreState where
  | closed
  | opening
  | opened
  deriving DecidableEq, Repr

inductive RecState where
  | free
  | copying
  | saved
  deriving DecidableEq, Repr

/-- A saved view (07 section 7.3); a centred axis is 65535. -/
structure SavedView where
  zc : Nat
  cx : Nat
  cy : Nat
  flip : Bool
  deriving DecidableEq, Repr

/-- A catalog record (07 section 7.3) with its marks; its position is its place in the catalog. -/
structure Rec where
  state : RecState
  seq : Nat
  lesson : Nat
  page : Nat
  frame : Count
  auto : Bool
  kind : FrameKind
  width : Nat
  height : Nat
  kept : Bool
  view : Option SavedView
  claimed : Bool
  recallA : Bool
  recallB : Bool
  wanted : Bool
  deriving DecidableEq, Repr

/-- A snapshot request (R147). -/
structure Request where
  slot : Nat
  frame : Count
  kind : FrameKind
  width : Nat
  height : Nat
  auto : Bool
  keep : Bool
  lesson : Nat
  page : Nat
  view : Option SavedView
  deriving DecidableEq, Repr

/-- The copy engine's states (07 section 7.6), each with the position of the record it concerns. -/
inductive CopyState where
  | idle
  | waiting (p : Nat)
  | copying (p : Nat)
  | paused (p : Nat)
  deriving DecidableEq, Repr

/-- A class E transaction; `stale`: granted before a RESTART that abandoned its copy (R163). -/
structure ChunkTxn where
  dir : Dir
  addr : Nat
  data : List Byte
  stale : Bool
  deriving DecidableEq, Repr

/-- The copy engine: chunk index, chunk buffer (offset in the chunk and bytes), the first failing address of
the chunk, the wait count, and class E. -/
structure CopyEngine where
  state : CopyState
  chunk : Nat
  buffer : List (Nat × List Byte)
  writing : Bool
  failAddr : Option Nat
  waitCount : Nat
  waiting : List ChunkTxn
  flight : List ChunkTxn
  deriving DecidableEq, Repr

inductive Outcome where
  | none
  | saved
  | storeFull
  | held
  | io
  deriving DecidableEq, Repr

structure StoreGeom where
  base : Nat
  e : Nat
  entrySize : Nat
  deriving DecidableEq, Repr

/-- A resume in progress (R137): the bytes read so far, whether the wait limit was clamped, and the policy and the wait
limit of before the directive, which a resume that ends refused restores (R23, log 34). -/
structure Resume where
  got : List Byte
  clamped : Bool
  keepAll : Bool
  waitLimit : Nat
  deriving DecidableEq, Repr

/-- The Lesson Store Controller (R162). -/
structure Store where
  state : StoreState
  geom : Option StoreGeom
  keepAll : Bool
  waitLimit : Nat
  catalog : List Rec
  /-- The ordered catalog: positions, oldest first (R141). -/
  order : List Nat
  /-- Next sequence; `none` is exhausted. -/
  nextSeq : Option Nat
  /-- The open lesson's number; `none` is CLOSED. -/
  lesson : Option Nat
  nextLesson : Nat
  page : Nat
  queue : List Request
  engine : CopyEngine
  outcome : Outcome
  resume : Option Resume
  deriving DecidableEq, Repr

/-! ### Temperature Governor (chapter 8) -/

inductive TempState where
  | normal
  | reduced
  | critical
  deriving DecidableEq, Repr

/-- The Temperature Governor (R171). -/
structure Governor where
  state : TempState
  sample : Option Int
  flag : Bool
  deriving DecidableEq, Repr

/-! ### Notice Unit and Record Writer (chapter 9) -/

/-- The targets of the record write queue (09 section 9.3). -/
inductive Target where
  | status
  | notice
  | head
  | signature
  | directive (i : Nat)
  | fault (k : Nat)
  | header
  | catalog (p : Nat)
  deriving DecidableEq, Repr

/-- Class D work raised and not granted: a record write whose content is taken at the grant; one whose
content was given at the request (R178); one fixed by CLOSE_STORE (R139); a directive fetch; a resume read. -/
inductive RecWork where
  | record (t : Target)
  | given (t : Target) (data : List Byte)
  | closed (t : Target) (addr : Nat) (data : List Byte)
  | fetch (addr : Nat)
  | resume (addr len : Nat)
  deriving DecidableEq, Repr

/-- Class D work granted whose response has not returned. -/
inductive RecFlight where
  | write (t : Target) (addr : Nat) (data : List Byte)
  | fetch (addr : Nat)
  | resume (addr len : Nat)
  deriving DecidableEq, Repr

/-- The six write error latches (R182). -/
structure Latches where
  status : Bool
  notice : Bool
  head : Bool
  signature : Bool
  directive : Bool
  store : Bool
  deriving DecidableEq, Repr

/-- The Notice Unit (R184). ATTN is `State.attn`, a function of these fields (R174). -/
structure NoticeUnit where
  pending : BitVec 16
  enable : BitVec 16
  threshold : Nat
  seen : Bool
  place : Nat
  faults : Count
  latches : Latches
  halted : Bool
  deriving DecidableEq, Repr

/-- Class D of the arbiter (01 section 1.6), the record write queue included (R178). -/
structure RecordWriter where
  waiting : List RecWork
  flight : List RecFlight
  deriving DecidableEq, Repr

/-- The machine. -/
structure State where
  path : PathUnit
  recs : RecordWriter
  ring : Ring
  slots : SlotTable
  cap : Capture
  mon : Monitor
  outA : Engine
  outB : Engine
  store : Store
  gov : Governor
  notice : NoticeUnit
  /-- The commands that wait, first in first out: the model's own field. -/
  pending : List Instr
  deriving DecidableEq, Repr

/-! ### One update for each block -/

def State.onPath (f : PathUnit → PathUnit) (s : State) : State := { s with path := f s.path }
def State.onRecs (f : RecordWriter → RecordWriter) (s : State) : State := { s with recs := f s.recs }
def State.onRing (f : Ring → Ring) (s : State) : State := { s with ring := f s.ring }
def State.onSlots (f : SlotTable → SlotTable) (s : State) : State := { s with slots := f s.slots }
def State.onCap (f : Capture → Capture) (s : State) : State := { s with cap := f s.cap }
def State.onMon (f : Monitor → Monitor) (s : State) : State := { s with mon := f s.mon }
def State.onOutA (f : Engine → Engine) (s : State) : State := { s with outA := f s.outA }
def State.onOutB (f : Engine → Engine) (s : State) : State := { s with outB := f s.outB }
def State.onStore (f : Store → Store) (s : State) : State := { s with store := f s.store }
def State.onGov (f : Governor → Governor) (s : State) : State := { s with gov := f s.gov }
def State.onNotice (f : NoticeUnit → NoticeUnit) (s : State) : State := { s with notice := f s.notice }

/-- Output Engine `x`. -/
def State.out (s : State) : OutId → Engine
  | .a => s.outA
  | .b => s.outB

/-- An update of Output Engine `x` alone. -/
def State.onOut (x : OutId) (f : Engine → Engine) (s : State) : State :=
  match x with
  | .a => s.onOutA f
  | .b => s.onOutB f

/-! ### Reset values -/

def Slot.reset : Slot :=
  { state := .free, frame := 0, kind := .enhanced, showA := false, showB := false, freezeA := false,
    freezeB := false, copies := 0, width := 0, height := 0 }

/-- R49. -/
def SlotTable.reset : SlotTable :=
  { geom := none, slots := List.replicate 6 Slot.reset, ready := [], drops := 0 }

/-- The default settings (04 section 4.2). -/
def Settings.default : Settings := { gain := 16, coring := 4, levelling := .off, darkFloor := 64 }

/-- R81. The kind, G_eff and C_eff of the frame in progress have no reset value in the spec (log 5). -/
def Capture.reset : Capture :=
  { geom := none, running := false, tracker := .none, expected := 0, dropped := false, broken := false,
    degraded := false, frameLevelling := .off, frameKind := .enhanced, gEff := 16, cEff := 4, slot := none,
    tearing := false, stopping := false, staged := Settings.default, live := Settings.default,
    sums := List.replicate Config.tiles 0, whites := List.replicate Config.tiles 0,
    whiteMap := List.replicate Config.tiles 235, gains := List.replicate Config.tiles 256,
    places := List.replicate Config.linePlaces none, nextEmit := 0, frameNo := 0, degradedCount := 0,
    lumaWaiting := [], lumaFlight := [] }

/-- The default settings (05 section 5.2). -/
def MonSettings.default : MonSettings :=
  { delta := 12, k := 8, hold := 20, idle := 9000, scan := 8, presence := 0, standby := false, auto := false }

/-- R103. -/
def Monitor.reset : Monitor :=
  { state := .off, last := none, previous := none, reference := none, saved := none, stable := 0, idle := 0,
    scan := 0, presence := 0, lastScore := 0, compares := 0, settings := MonSettings.default, holdA := false,
    holdB := false, autoRequests := [], inbox := [] }

/-- The empty line cache and row buffers of one plane. -/
def PlaneCache.empty : PlaneCache :=
  { places := [], current := none, previous := none, waiting := [], failed := [] }

/-- R130. -/
def Engine.reset : Engine :=
  { state := .unconfigured, geom := none, source := .live,
    view := { zt := 256, zc := 256, ramp := 16, cx := none, cy := none, flip := false }, latch := none,
    queue := [], luma := PlaneCache.empty, chroma := PlaneCache.empty, computed := none, damaged := false,
    leaving := false,
    fetchWaiting := [], fetchFlight := [] }

/-- The idle copy engine (R162); the buffer is empty (log 5). -/
def CopyEngine.reset : CopyEngine :=
  { state := .idle, chunk := 0, buffer := [], writing := false, failAddr := none, waitCount := 0,
    waiting := [], flight := [] }

/-- A FREE catalog record: every field but its position zero, no marks (R136). -/
def Rec.blank : Rec :=
  { state := .free, seq := 0, lesson := 0, page := 0, frame := 0, auto := false, kind := .enhanced, width := 0,
    height := 0, kept := false, view := none, claimed := false, recallA := false, recallB := false,
    wanted := false }

/-- R162. -/
def Store.reset : Store :=
  { state := .closed, geom := none, keepAll := false, waitLimit := 60, catalog := [], order := [],
    nextSeq := some 1, lesson := none, nextLesson := 1, page := 0, queue := [], engine := CopyEngine.reset,
    outcome := .none, resume := none }

/-- R171. -/
def Governor.reset : Governor := { state := .normal, sample := none, flag := false }

/-- R184. -/
def NoticeUnit.reset : NoticeUnit :=
  { pending := 0, enable := 0xFFFF, threshold := 0, seen := true, place := 0, faults := 0,
    latches := { status := false, notice := false, head := false, signature := false, directive := false,
                 store := false },
    halted := false }

/-- R29. -/
def Ring.reset : Ring :=
  { head := 0, tail := 0, state := .idle, flight := none, errors := 0, restarting := false, lastStatus := none }

/-- R17: the control page entry lies at (n + 1) × 256 MiB − 4 KiB. -/
def PathUnit.reset (cpbase : BitVec 4) : PathUnit :=
  { cpBase := (cpbase.toNat + 1) * 2 ^ 28 - 4096, upReads := [], upWrites := [], fwd := [], handed := [],
    lastA := .b, lossCount := 0, upLog := [] }

/-- The machine at the release of RESET_N with `cpbase` on CPBASE[3:0]: every block at its reset values, and
the Head unit write and the start-up status record requested (R29, R184; log 4). -/
def State.resetWith (cpbase : BitVec 4) : State :=
  { path := PathUnit.reset cpbase, recs := { waiting := [.record .head, .record .status], flight := [] },
    ring := Ring.reset, slots := SlotTable.reset, cap := Capture.reset, mon := Monitor.reset,
    outA := Engine.reset, outB := Engine.reset, store := Store.reset, gov := Governor.reset,
    notice := NoticeUnit.reset, pending := [] }

/-- The machine right after reset. The spec leaves the CPBASE pins to the board: 0 here (DESIGN CHOICE,
unsafe, log 3); the command RESET_N samples any value. -/
def State.reset : State := State.resetWith 0

end Sys2Proof.Machine
end

