-- ==== Sys2Proof/WellFormed.lean ====
section
/-! DEFINITION. Which commands are well formed. A directive's operands have the widths of R187 and need no
check; an upstream transaction has the form of 01 section 1.1. -/

namespace Sys2Proof

/-- 01 section 1.1: 16 to 256 bytes in units of 16, aligned to 16, inside the 36-bit space, not across a
4 KiB boundary; a write carries all the bytes it covers, a read carries none. -/
def Txn.legal (t : Txn) : Bool :=
  decide (16 ≤ t.len) && decide (t.len ≤ Config.maxTransfer) && decide (t.len % 16 = 0)
    && decide (t.addr % 16 = 0) && decide (t.addr + t.len ≤ Config.addressSpace)
    && decide (t.addr % Config.page + t.len ≤ Config.page)
    && decide (t.data.length = match t.dir with
        | .read => 0
        | .write => t.len)

/-- R23, R187: the type bytes that name a directive. -/
def knownType (ty : BitVec 8) : Bool := decide (1 ≤ ty.toNat) && decide (ty.toNat ≤ 26)

/-- A command the sender may give: each transaction row carries a legal transaction of its row's
direction, and UNKNOWN_DIRECTIVE_TYPE carries a type that names no directive. -/
def Instr.wellFormed : Instr → Bool
  | .forwardedTransaction t => t.legal
  | .straddlingAccess t => t.legal
  | .outputWindowWrite t => t.legal && decide (t.dir = .write)
  | .outputWindowRead t => t.legal && decide (t.dir = .read)
  | .captureWindowRead t => t.legal && decide (t.dir = .read)
  | .captureWrite t _ => t.legal && decide (t.dir = .write)
  | .frameStart t _ => t.legal && decide (t.dir = .write)
  | .unknownDirectiveType ty => !knownType ty
  | _ => true

end Sys2Proof
end

