-- ==== Sys2Proof/Machine/Operands.lean ====
section
/-! DEFINITION. Operand handling of the directives and addresses: clamping and refusal order (R27), selectors
(R105), regions and their overlaps, frame and store geometry, and the splitting of a span into transactions. -/

namespace Sys2Proof.Machine

/-- Clamping into a range (00_scope.md section 5): `a` below, `b` above, the value itself between. -/
def clamp (a b v : Nat) : Nat := if v < a then a else if b < v then b else v

/-- The first refusal that holds, the conditions listed in the order R27 gives the codes. -/
def firstRefusal : List (Bool × Status) → Option Status
  | [] => none
  | (c, st) :: rest => if c then some st else firstRefusal rest

/-- DONE, or ADJUSTED when any value was clamped (R27). -/
def doneOr (clamped : Bool) : Status := if clamped then .adjusted else .done

/-- R105: 0 is output A, 1 is output B, any other selector is out of range. -/
def selected (sel : BitVec 8) : Option OutId :=
  if sel = 0 then some .a else if sel = 1 then some .b else none

/-- The other output. -/
def otherOut : OutId → OutId
  | .a => .b
  | .b => .a

/-- `n` rounded up to a multiple of 4096. -/
def roundPage (n : Nat) : Nat := (n + (Config.page - 1)) / Config.page * Config.page

/-- Bytes of a frame, W × H × 3/2 (00_scope.md section 5). -/
def frameBytes (w h : Nat) : Nat := w * h * 3 / 2

/-- The frame size of a slot: the frame bytes rounded up to a multiple of 4096 (03 section 3.1). -/
def frameSize (w h : Nat) : Nat := roundPage (frameBytes w h)

/-- A region of memory: its first byte and its length. -/
structure Region where
  base : Nat
  len : Nat
  deriving DecidableEq, Repr

/-- Two regions share a byte. -/
def Region.overlaps (a b : Region) : Bool :=
  decide (0 < a.len) && decide (0 < b.len) && decide (a.base < b.base + b.len)
    && decide (b.base < a.base + a.len)

/-- The region's last byte lies in the 36-bit space. -/
def Region.inSpace (a : Region) : Bool := decide (a.base + a.len ≤ Config.addressSpace)

/-- `addr .. addr + len − 1` lies wholly inside the region. -/
def Region.holds (a : Region) (addr len : Nat) : Bool :=
  decide (a.base ≤ addr) && decide (addr + len ≤ a.base + a.len)

/-- The address lies inside the region. -/
def Region.at (a : Region) (addr : Nat) : Bool :=
  decide (a.base ≤ addr) && decide (addr < a.base + a.len)

/-- A region overlaps one that may be absent. -/
def Region.overlaps? (a : Region) : Option Region → Bool
  | none => false
  | some b => a.overlaps b

/-! ### The part's regions -/

def State.controlPage (s : State) : Region := ⟨s.path.cpBase, Config.page⟩

/-- The capture window of the capture configuration (R53). -/
def CapGeom.window (g : CapGeom) : Region := ⟨g.base, frameBytes g.w g.h⟩

def State.captureWindow? (s : State) : Option Region := s.cap.geom.map CapGeom.window

/-- The slot region: six slots of the frame size (03 section 3.1). -/
def SlotGeom.region (g : SlotGeom) : Region := ⟨g.base, 6 * g.frameSize⟩

def State.slotRegion? (s : State) : Option Region := s.slots.geom.map SlotGeom.region

/-- The window of an output that is not UNCONFIGURED (R106). -/
def OutGeom.window (g : OutGeom) : Region := ⟨g.base, frameBytes g.ow g.oh⟩

def Engine.window? (e : Engine) : Option Region := e.geom.map OutGeom.window

/-- The catalog end A = 4096 × ceil((64 + 64 × E)/4096) (R134). -/
def catalogEnd (e : Nat) : Nat := roundPage (64 + 64 * e)

/-- The store's extent (R134). -/
def StoreGeom.extent (g : StoreGeom) : Region := ⟨g.base, catalogEnd g.e + g.e * g.entrySize⟩

/-- Entry `p` begins at store base + A + p × entry size (R134). -/
def StoreGeom.entryAddr (g : StoreGeom) (p : Nat) : Nat := g.base + catalogEnd g.e + p * g.entrySize

/-- The store while it is OPENING or OPEN. -/
def State.store? (s : State) : Option Region :=
  if s.store.state = .closed then none else s.store.geom.map StoreGeom.extent

/-- Slot `k` begins at slot region base + k × frame size (R34). -/
def State.slotAddr (s : State) (k : Nat) : Nat :=
  match s.slots.geom with
  | some g => g.base + k * g.frameSize
  | none => 0

/-- Entry `p`'s address (R161). -/
def State.entryAddr (s : State) (p : Nat) : Nat :=
  match s.store.geom with
  | some g => g.entryAddr p
  | none => 0

/-! ### Splitting a span into transactions -/

/-- The longest transaction at `addr` of at most 256 bytes that stays before `limit` and does not cross a
4 KiB boundary (R66, R125). -/
def pieceLen (addr limit : Nat) : Nat :=
  min Config.maxTransfer (min (limit - addr) (Config.page - addr % Config.page))

/-- The transactions that cover `addr .. limit − 1` in increasing address; `fuel` bounds their number. -/
def splitSpan : Nat → Nat → Nat → List (Nat × Nat)
  | 0, _, _ => []
  | fuel + 1, addr, limit =>
    if limit ≤ addr then [] else (addr, pieceLen addr limit) :: splitSpan fuel (addr + pieceLen addr limit) limit

/-- The transactions of a span of `len` bytes from `addr`. -/
def spanOf (addr len : Nat) : List (Nat × Nat) := splitSpan len addr (addr + len)

end Sys2Proof.Machine
end

