-- ==== Sys2Proof/Machine/Enhance.lean ====
section
/-! DEFINITION. The enhancement arithmetic, exact to the last rounding (04 sections 4.5 to 4.7), and the tile
statistics. Every division is a floor; on `Int` the division by a positive number is the floor. -/

namespace Sys2Proof.Machine

/-- R70: weights 1 2 1, 2 4 2, 1 2 1 over sixteen, rounded. The arguments are the nine captured values, the
line above first. -/
def blur (nw n ne w c e sw s se : Nat) : Nat :=
  (nw + 2 * n + ne + 2 * w + 4 * c + 2 * e + sw + 2 * s + se + 8) / 16

/-- R71: coring narrows the detail toward zero by C_eff. -/
def core (cEff : Nat) (d : Int) : Int :=
  if (cEff : Int) < d then d - cEff else if d < -(cEff : Int) then d + cEff else 0

/-- R71: the sharpened value s = y₀ + floor((d′ × G_eff + 8)/16). -/
def sharpen (gEff cEff y0 b : Nat) : Int :=
  (y0 : Int) + (core cEff ((y0 : Int) - b) * gEff + 8) / 16

/-- R72: v = floor((s × L + 128)/256). -/
def level (s : Int) (gain : Nat) : Int := (s * gain + 128) / 256

/-- R72: the clamp to 0..255. -/
def clampByte (v : Int) : Nat := if v < 0 then 0 else if 255 < v then 255 else v.toNat

/-- R73: the gain of a tile with white estimate `wt` under dark floor `d`. -/
def tileGain (d wt : Nat) : Nat :=
  if wt < d then 256 else clamp 256 1024 ((60160 + wt / 2) / wt)

/-- R74, R75: floor((a × (256 − w) + b × w + 128)/256). -/
def mix256 (a b w : Nat) : Nat := (a * (256 - w) + b * w + 128) / 256

/-- R74, R75: the value at `at` between `n` centres that stand `pitch` apart from pitch/2. -/
def between (value : Nat → Nat) (n pitch pos : Nat) : Nat :=
  if pos < pitch / 2 then value 0
  else if (n - 1) * pitch + pitch / 2 ≤ pos then value (n - 1)
  else
    let i0 := (pos - pitch / 2) / pitch
    mix256 (value i0) (value (i0 + 1)) ((pos - (i0 * pitch + pitch / 2)) * 256 / pitch)

/-- R74: the column value Lv(i) of line `y`. -/
def columnGain (gains : List Nat) (th y i : Nat) : Nat :=
  between (fun j => gains.getD (j * 16 + i) 256) 12 th y

/-- R75: the gain of pixel `x` from the line's sixteen column values. -/
def pixelGain (columns : List Nat) (tw x : Nat) : Nat :=
  between (fun i => columns.getD i 256) 16 tw x

/-- One enhanced pixel (R70 to R72). -/
def enhancePixel (gEff cEff gain : Nat) (nw n ne w c e sw s se : Nat) : Nat :=
  clampByte (level (sharpen gEff cEff c (blur nw n ne w c e sw s se)) gain)

/-- The enhanced bytes of a line of `w` pixels from the raw lines above, at and below it (R65, R70 to R75);
`columns` is empty when levelling is OFF. -/
def enhanceLine (w gEff cEff tw : Nat) (columns : Option (List Nat)) (up mid down : List Byte) : List Byte :=
  let v := fun (row : List Byte) (x : Nat) => (row.getD x 0).toNat
  (List.range w).map fun x =>
    let l := x - 1
    let r := min (x + 1) (w - 1)
    let gain := match columns with
      | some lv => pixelGain lv tw x
      | none => 256
    BitVec.ofNat 8 (enhancePixel gEff cEff gain (v up l) (v up x) (v up r) (v mid l) (v mid x) (v mid r)
      (v down l) (v down x) (v down r))

/-- R57, R169: G_eff and C_eff of an ENHANCED frame. -/
def effGain (t : TempState) (g : Nat) : Nat := if t = .normal then g else min g 16
def effCoring (t : TempState) (c : Nat) : Nat := if t = .normal then c else max c 6

/-- R57, R169: the frame kind fixed at a frame start. -/
def kindAtStart (m : MonState) (t : TempState) : FrameKind :=
  if m = .standby ∨ t = .critical then .plain else .enhanced

/-! ### Tile statistics (R76 to R78) -/

/-- The tile of luma pixel (x, y). -/
def tileOf (w h x y : Nat) : Nat := y / (h / 12) * 16 + x / (w / 16)

/-- The two accumulators of every tile. -/
structure Tiles where
  sums : List Nat
  whites : List Nat
  deriving DecidableEq, Repr

/-- R76: one aligned group of four pixels is added to its tile's sum, and its floor mean raises the white. -/
def Tiles.feedGroup (n : Nat) (g : List Byte) (t : Tiles) : Tiles :=
  let total := (g.map BitVec.toNat).sum
  { sums := t.sums.modify n (· + total), whites := t.whites.modify n (max (total / 4)) }

/-- R76: feeds `fuel` groups of four captured luma bytes that start at plane offset `off`. -/
def Tiles.feed (w h : Nat) : Nat → Nat → List Byte → Tiles → Tiles
  | 0, _, _, t => t
  | fuel + 1, off, data, t =>
    Tiles.feed w h fuel (off + 4) (data.drop 4) (t.feedGroup (tileOf w h (off % w) (off / w)) (data.take 4))

/-- R76: the tile means floor(sum/(TW × TH)). -/
def tileMeans (w h : Nat) (sums : List Nat) : List Nat := sums.map (· / (w / 16 * (h / 12)))

/-- R77: floor((3 × W_old + T + 2)/4) for each tile. -/
def updateWhites (old whites : List Nat) : List Nat :=
  List.zipWith (fun o t => (3 * o + t + 2) / 4) old whites

end Sys2Proof.Machine
end

