-- ==== Sys2Proof/Machine/Flags.lean ====
section
/-! DEFINITION. The event kinds' numbers and levels, the pending set and the ATTN line (09 sections 9.1, 9.2). -/

namespace Sys2Proof.Machine

/-- The kind's number (table of 09 section 9.1, R173). -/
def EventKind.number : EventKind → Nat
  | .directiveDone => 0
  | .pageMotion => 1
  | .frameDropped => 2
  | .frameDegraded => 3
  | .presence => 4
  | .thermalClear => 5
  | .pageSettled => 6
  | .standby => 7
  | .snapDone => 8
  | .woken => 9
  | .strayAccess => 10
  | .snapMissed => 11
  | .snapFailed => 12
  | .outputDamaged => 13
  | .thermal => 14
  | .fault => 15

/-- The level of kind number `n` (table of 09 section 9.1). -/
def levelOf (n : Nat) : Nat := [1, 1, 2, 2, 2, 2, 3, 3, 3, 4, 4, 4, 5, 5, 6, 7].getD n 0

/-- The kind's level (R173). -/
def EventKind.level (k : EventKind) : Nat := levelOf k.number

/-- The kind's bit in the pending set, the enable set and the masks. -/
def EventKind.bit (k : EventKind) : BitVec 16 := BitVec.ofNat 16 (2 ^ k.number)

/-- The kind is in the pending set. -/
def NoticeUnit.isPending (n : NoticeUnit) (k : EventKind) : Bool := n.pending.getLsbD k.number

/-- Kind number `i` is pending, enabled and above the threshold (R174). -/
def NoticeUnit.raisesAttn (n : NoticeUnit) (i : Nat) : Bool :=
  n.pending.getLsbD i && n.enable.getLsbD i && decide (n.threshold < levelOf i)

/-- R174: high while HALTED; otherwise while the seen flag is clear and an enabled kind above the threshold,
or FAULT whatever the enables, is pending. -/
def NoticeUnit.attn (n : NoticeUnit) : Bool :=
  n.halted || (!n.seen && ((List.range 16).any n.raisesAttn || n.isPending .fault))

/-- The ATTN pin. -/
def State.attn (s : State) : Bool := s.notice.attn

/-- R179: the highest level among pending enabled kinds, FAULT counted whenever pending; 0 when none. -/
def NoticeUnit.highestLevel (n : NoticeUnit) : Nat :=
  ((List.range 16).filter fun i =>
      n.pending.getLsbD i && (n.enable.getLsbD i || decide (i = 15))).foldl
    (fun m i => max m (levelOf i)) 0

end Sys2Proof.Machine
end

