-- ==== Sys2Proof/Machine/Records.lean ====
section
/-! DEFINITION. The records the part writes, byte for byte (chapter 10), and where each lies (R186). -/

namespace Sys2Proof.Machine

/-- One byte with value `v`. -/
def b1 (v : Nat) : List Byte := leBytes 1 v
/-- A field of two bytes. -/
def b2 (v : Nat) : List Byte := leBytes 2 v
/-- A field of four bytes. -/
def b4 (v : Nat) : List Byte := leBytes 4 v
/-- A field of eight bytes. -/
def b8 (v : Nat) : List Byte := leBytes 8 v
/-- Bytes marked zero. -/
def zeros (n : Nat) : List Byte := List.replicate n 0

def boolCode (b : Bool) : Nat := if b then 1 else 0

/-- The values of 02 section 2.4. -/
def Status.code : Status → Nat
  | .done => 1
  | .adjusted => 2
  | .refusedState => 3
  | .refusedBusy => 4
  | .refusedRange => 5
  | .refusedFormat => 6
  | .refusedNoFrame => 7
  | .refusedFull => 8
  | .refusedEntry => 9

def RingState.code : RingState → Nat
  | .idle => 0
  | .fetching => 1
  | .stalled => 2

def MonState.code : MonState → Nat
  | .off => 0
  | .motion => 1
  | .active => 2
  | .standby => 3

def TempState.code : TempState → Nat
  | .normal => 0
  | .reduced => 1
  | .critical => 2

def StoreState.code : StoreState → Nat
  | .closed => 0
  | .opening => 1
  | .opened => 2

def Outcome.code : Outcome → Nat
  | .none => 0
  | .saved => 1
  | .storeFull => 2
  | .held => 3
  | .io => 4

def OutState.code : OutState → Nat
  | .unconfigured => 0
  | .disabled => 1
  | .enabled => 2

/-- The source's code and its slot or entry field (output summary of 10 section 10.3). -/
def Source.code : Source → Nat × Nat
  | .live => (0, 0xFFFF)
  | .frozen k => (1, k)
  | .held k => (2, k)
  | .heldNone => (3, 0xFFFF)
  | .recalled p => (4, p)
  | .blank => (5, 0xFFFF)

def SlotState.code : SlotState → Nat
  | .free => 0
  | .filling => 1
  | .ready => 2

def FrameKind.code : FrameKind → Nat
  | .enhanced => 0
  | .plain => 1
  | .degraded => 2

def RecState.code : RecState → Nat
  | .free => 0
  | .copying => 1
  | .saved => 2

def FaultKind.code : FaultKind → Nat
  | .captureWrite => 1
  | .outputFetch => 2
  | .copyRead => 3
  | .copyWrite => 4
  | .ringRead => 5
  | .catalogRead => 6
  | .catalogWrite => 7
  | .recordWrite => 8

def BlockId.code : BlockId → Nat
  | .path => 1
  | .directive => 2
  | .slots => 3
  | .enhancer => 4
  | .monitor => 5
  | .outputA => 6
  | .outputB => 7
  | .store => 8
  | .governor => 9
  | .notice => 10

/-- Position type and position (R189). -/
def FaultPos.code : FaultPos → Nat × Nat
  | .none => (0, 0)
  | .slot k => (1, k)
  | .entry p => (2, p)

/-- R188: an absent sample is 0x8000, any other its two's complement in 16 bits. -/
def sampleCode : Option Int → Nat
  | none => 0x8000
  | some t => (BitVec.ofInt 16 t).toNat

/-- The Head unit (R186). -/
def headUnit (r : Ring) : List Byte := b1 r.head ++ b1 r.tail ++ b1 r.state.code ++ zeros 13

/-- The notice record (R179, 10 section 10.3). -/
def noticeRecord (n : NoticeUnit) : List Byte :=
  b2 n.pending.toNat ++ b2 n.enable.toNat ++ b1 n.threshold ++ b1 n.highestLevel ++ zeros 26

/-- An output summary (10 section 10.3). -/
def outputSummary (e : Engine) : List Byte :=
  b1 e.state.code ++ b1 e.source.code.1 ++ b2 e.source.code.2 ++ b2 e.view.zc ++ zeros 10

/-- The tags byte of a slot summary. -/
def Slot.tagCode (s : Slot) : Nat :=
  boolCode s.showA + 2 * boolCode s.showB + 4 * boolCode s.freezeA + 8 * boolCode s.freezeB

/-- A slot summary (10 section 10.3). -/
def slotSummary (s : Slot) : List Byte :=
  b1 s.state.code ++ b1 s.kind.code ++ b1 s.tagCode ++ b1 s.copies ++ b4 s.frame.toNat ++ b2 s.width
    ++ b2 s.height ++ zeros 4

/-- The status record (R180, 10 section 10.3). -/
def statusRecord (s : State) : List Byte :=
  b1 (boolCode s.cap.running) ++ b1 s.mon.state.code ++ b1 s.gov.state.code ++ b1 (boolCode s.gov.flag)
    ++ b2 (sampleCode s.gov.sample) ++ b1 s.mon.lastScore ++ b1 s.store.state.code
    ++ b4 s.cap.frameNo.toNat ++ b4 s.slots.drops.toNat ++ b4 s.cap.degradedCount.toNat
    ++ b4 s.notice.faults.toNat ++ b2 s.ring.errors ++ b2 s.store.order.length
    ++ b1 s.store.queue.length ++ b1 s.store.outcome.code ++ zeros 2
    ++ outputSummary s.outA ++ outputSummary s.outB
    ++ (s.slots.slots.map slotSummary).flatten ++ zeros 96

/-- The signature a score was taken against (10 section 10.3). -/
inductive Against where
  | previous
  | reference
  | saved
  deriving DecidableEq, Repr

def Against.code : Against → Nat
  | .previous => 0
  | .reference => 1
  | .saved => 2

/-- The signature record as a score of `sig` leaves it (R101). -/
def signatureRecord (m : Monitor) (sig : Signature) (a : Against) : List Byte :=
  b4 m.compares.toNat ++ b4 sig.frame.toNat ++ b1 (sig.slot.getD 0xFF) ++ b1 a.code ++ b1 m.lastScore
    ++ b1 m.state.code ++ b1 m.stable ++ zeros 1 ++ b2 m.idle ++ zeros 48
    ++ (sig.means.map fun v => BitVec.ofNat 8 v)

/-- A fault record (R181, 10 section 10.4); bits 36 to 63 of the address field are zero. -/
def faultRecord (count : Count) (k : FaultKind) (b : BlockId) (addr : Nat) (frame : Count) (pos : FaultPos) :
    List Byte :=
  b4 count.toNat ++ b1 k.code ++ b1 b.code ++ b1 pos.code.1 ++ zeros 1 ++ b8 (addr % Config.addressSpace) ++ b4 frame.toNat
    ++ b2 pos.code.2 ++ zeros 10

/-- The store header (10 section 10.5). -/
def headerRecord (g : StoreGeom) (nextLesson : Nat) : List Byte :=
  b4 Config.storeMarker ++ b2 g.e ++ zeros 2 ++ b4 g.entrySize ++ b2 nextLesson ++ zeros 50

/-- The flags byte of a catalog record. -/
def Rec.flagCode (r : Rec) : Nat :=
  boolCode r.kept + 2 * boolCode r.auto + 4 * boolCode r.view.isSome
    + 8 * (match r.view with
      | some v => boolCode v.flip
      | none => 0)

/-- The view bytes of a catalog record: zero without a saved view. -/
def viewBytes : Option SavedView → List Byte
  | some v => b2 v.zc ++ b2 v.cx ++ b2 v.cy
  | none => zeros 6

/-- Catalog record `p` (10 section 10.5); a FREE record has its position and state and zero bytes (R142). -/
def catalogRecord (p : Nat) (r : Rec) : List Byte :=
  if r.state = .free then b2 p ++ zeros 62
  else b2 p ++ b1 r.state.code ++ b1 r.flagCode ++ b4 r.seq ++ b4 r.frame.toNat ++ b2 r.lesson ++ b2 r.page
    ++ b1 r.kind.code ++ zeros 1 ++ b2 r.width ++ b2 r.height ++ viewBytes r.view ++ zeros 36

/-- The record at position `p`; a position outside the catalog reads as FREE. -/
def Store.recAt (st : Store) (p : Nat) : Rec := st.catalog.getD p Rec.blank

/-- Where a target lies (R186). -/
def recordAddr (s : State) : Target → Nat
  | .status => s.path.cpBase + Config.statusOffset
  | .notice => s.path.cpBase + Config.noticeOffset
  | .head => s.path.cpBase + Config.headOffset
  | .signature => s.path.cpBase + Config.signatureOffset
  | .directive i => s.path.cpBase + i * 32
  | .fault k => s.path.cpBase + Config.faultOffset + k * 32
  | .header => (s.store.geom.map (·.base)).getD 0
  | .catalog p => (s.store.geom.map (·.base)).getD 0 + 64 + p * 64

/-- The content a write takes from the blocks at its grant (R178). The targets whose content is given at the
request never come here. -/
def recordContent (s : State) : Target → List Byte
  | .status => statusRecord s
  | .notice => noticeRecord s.notice
  | .head => headUnit s.ring
  | .header => headerRecord (s.store.geom.getD ⟨0, 0, 0⟩) s.store.nextLesson
  | .catalog p => catalogRecord p (s.store.recAt p)
  | .signature => []
  | .directive _ => []
  | .fault _ => []

end Sys2Proof.Machine
end

