-- ==== Sys2Proof/Machine/Ops.lean ====
section
/-! DEFINITION. The operations the commands share: record write requests, events, faults, the answering of
directives, upstream responses, holder tags and the entry into HALTED. -/

namespace Sys2Proof.Machine

/-! ### Record write queue (R178) -/

/-- A request to write `t` with the content of its grant: joins a waiting write of `t`, else the tail. -/
def RecordWriter.request (t : Target) (w : RecordWriter) : RecordWriter :=
  if w.waiting.contains (.record t) then w else { w with waiting := w.waiting ++ [.record t] }

/-- The work is a waiting write of `t` whose content was given at its request. -/
def RecWork.isGiven (t : Target) : RecWork → Bool
  | .given t' _ => decide (t' = t)
  | _ => false

/-- A request to write `t` with the content given: replaces the content of a waiting write of `t`, which
keeps its place, else joins the tail. -/
def RecordWriter.give (t : Target) (data : List Byte) (w : RecordWriter) : RecordWriter :=
  if w.waiting.any (RecWork.isGiven t) then
    { w with waiting := w.waiting.map fun x => if x.isGiven t then .given t data else x }
  else { w with waiting := w.waiting ++ [.given t data] }

/-- Raises other class D work at the tail. -/
def RecordWriter.raiseWork (x : RecWork) (w : RecordWriter) : RecordWriter :=
  { w with waiting := w.waiting ++ [x] }

def State.request (t : Target) (s : State) : State := s.onRecs (·.request t)

/-- R180: a rewrite of the status record is requested. -/
def State.requestStatus (s : State) : State := s.request .status

/-! ### Events and faults -/

/-- R173: the kind joins the pending set, the seen flag clears and a notice rewrite is requested; a kind
already pending changes nothing, but for FAULT. -/
def State.raise (k : EventKind) (s : State) : State :=
  if s.notice.isPending k && decide (k ≠ .fault) then s
  else (s.onNotice fun n => { n with pending := n.pending ||| k.bit, seen := false }).request .notice

/-- R181, in its order: the count, the record, its write and the ring place, FAULT, the status rewrite. -/
def State.logFault (k : FaultKind) (b : BlockId) (addr : Nat) (frame : Count) (pos : FaultPos) (s : State) :
    State :=
  let count := s.notice.faults + 1
  let place := s.notice.place
  (((s.onNotice fun n => { n with faults := count, place := (place + 1) % 8 }).onRecs
      (·.give (.fault place) (faultRecord count k b addr frame pos))).raise .fault).requestStatus

/-! ### Upstream responses -/

/-- A response is given upstream. -/
def State.respond (r : UpResponse) (s : State) : State :=
  s.onPath fun p => { p with upLog := p.upLog ++ [r] }

/-! ### Answering directives (R23 to R25) -/

/-- The bytes of a status write: the first 16 bytes as fetched, with the status byte set (R24). -/
def statusWrite (rec : List Byte) (st : Status) : List Byte :=
  rec.take 2 ++ b1 st.code ++ (rec.drop 3).take 13

/-- The record dispatched is the directive `c` (log 8). -/
def Ring.isDispatched (r : Ring) (c : Instr) : Bool :=
  match r.flight with
  | some ⟨_, .dispatched rec⟩ => decide (decodeDirective rec = c.bare)
  | _ => false

/-- R163, R22: a RESTART is dispatched and not every owner has reported. It is dispatched from the OKAY response of its
record's fetch on; one given without such a record (log 8), from its own command on. -/
def Ring.restartDispatched (r : Ring) : Bool := r.restarting || r.isDispatched (.restart 0)

/-- Answers record `i` with bytes `rec`: its status write is raised (R24). -/
def State.answerRecord (i : Nat) (rec : List Byte) (st : Status) (s : State) : State :=
  (s.onRing fun r => { r with flight := some ⟨i, .answered rec⟩ }).onRecs
    (·.give (.directive i) (statusWrite rec st))

/-- An owner gives its status for the directive `c`: the record dispatched, when it is `c`, is answered. What the owner's
effects request in the same step is requested before the status write (DESIGN CHOICE, log 41). -/
def State.answer (c : Instr) (st : Status) (s : State) : State :=
  let s1 := s.onRing fun r => { r with lastStatus := some st }
  match s.ring.flight with
  | some ⟨i, .dispatched rec⟩ => if s.ring.isDispatched c then s1.answerRecord i rec st else s1
  | _ => s1

/-- An owner accepts the directive `c` and will answer later: the record stays in flight (R25). -/
def State.accept (c : Instr) (s : State) : State :=
  match s.ring.flight with
  | some ⟨i, .dispatched rec⟩ =>
    if s.ring.isDispatched c then s.onRing fun r => { r with flight := some ⟨i, .accepted rec⟩ } else s
  | _ => s

/-- The later answer to a directive of type `ty` that an owner accepted, its status write after what the step requested
before (DESIGN CHOICE, log 41). -/
def State.answerAccepted (ty : Nat) (st : Status) (s : State) : State :=
  let s1 := s.onRing fun r => { r with lastStatus := some st }
  match s.ring.flight with
  | some ⟨i, .accepted rec⟩ => if fieldAt rec 0 1 = ty then s1.answerRecord i rec st else s1
  | _ => s1

/-! ### Slot records and holder tags (03 section 3.6) -/

/-- An update of slot record `k`. -/
def SlotTable.onSlot (k : Nat) (f : Slot → Slot) (t : SlotTable) : SlotTable :=
  { t with slots := t.slots.modify k f }

/-- Slot record `k`. -/
def SlotTable.slot (t : SlotTable) (k : Nat) : Slot := t.slots.getD k Slot.reset

def Slot.setShow (x : OutId) (v : Bool) (sl : Slot) : Slot :=
  match x with
  | .a => { sl with showA := v }
  | .b => { sl with showB := v }

def Slot.setFreeze (x : OutId) (v : Bool) (sl : Slot) : Slot :=
  match x with
  | .a => { sl with freezeA := v }
  | .b => { sl with freezeB := v }

/-- The slot carries a holder tag (03 section 3.2). -/
def Slot.isHeld (sl : Slot) : Bool :=
  sl.showA || sl.showB || sl.freezeA || sl.freezeB || decide (0 < sl.copies)

/-- Takes SHOW_x on slot `k` (R41); a tag is taken on a READY slot (R44). -/
def SlotTable.takeShow (x : OutId) (k : Nat) (t : SlotTable) : SlotTable :=
  if (t.slot k).state = .ready then t.onSlot k (Slot.setShow x true) else t

/-- Releases SHOW_x from slot `k`; an absent tag leaves the record unchanged (R44). -/
def SlotTable.dropShow (x : OutId) (k : Nat) (t : SlotTable) : SlotTable := t.onSlot k (Slot.setShow x false)

/-- Takes FREEZE_x on slot `k` (R42, R44). -/
def SlotTable.takeFreeze (x : OutId) (k : Nat) (t : SlotTable) : SlotTable :=
  if (t.slot k).state = .ready then t.onSlot k (Slot.setFreeze x true) else t

/-- Releases FREEZE_x from slot `k` (R42). -/
def SlotTable.dropFreeze (x : OutId) (k : Nat) (t : SlotTable) : SlotTable :=
  t.onSlot k (Slot.setFreeze x false)

/-- Adds 1 to the COPY count of slot `k` (R43). -/
def SlotTable.takeCopy (k : Nat) (t : SlotTable) : SlotTable :=
  t.onSlot k fun sl => { sl with copies := sl.copies + 1 }

/-- Subtracts 1 from the COPY count of slot `k`; a count of 0 stays 0 (R43, R44). -/
def SlotTable.dropCopy (k : Nat) (t : SlotTable) : SlotTable :=
  t.onSlot k fun sl => { sl with copies := sl.copies - 1 }

/-- The newest READY slot: the tail of the READY list (R34). -/
def SlotTable.newest (t : SlotTable) : Option Nat := t.ready.getLast?

/-! ### HALTED (R16, R183) -/

/-- The slot an engine's frame latch holds (R129); `none` when it holds an entry or nothing. -/
def Engine.latchedSlot (e : Engine) : Option Nat :=
  match e.latch with
  | some l => match l.what with
    | .slot k => some k
    | .entry _ => none
  | none => none

/-- What HALTED does to an engine: its queued reads are answered (by `haltAnswers`), its fetches dropped. -/
def Engine.halt (e : Engine) : Engine := { e with queue := [], fetchWaiting := [], fetchFlight := [] }

/-- The ERROR answers, with data of all zero, to an engine's queued reads (R16). -/
def haltAnswers (e : Engine) : List UpResponse :=
  e.queue.map fun q => ⟨q.id, .read, .error, zeros q.len⟩

/-- The double fault (R183): the halted flag is set; the waiting transactions of classes A, C, D and E and
the line buffer's data are discarded; the responses of the part's own granted transactions will be dropped;
the engines' queued reads are answered ERROR (R16), output A's before output B's (DESIGN CHOICE, log 33: the spec
orders each engine's reads and names no order between the engines). Everything else keeps its value. -/
def State.enterHalted (s : State) : State :=
  let answers := haltAnswers s.outA ++ haltAnswers s.outB
  { s with
    notice := { s.notice with halted := true }
    recs := { waiting := [], flight := [] }
    path := { s.path with upLog := s.path.upLog ++ answers }
    cap := { s.cap with
      places := List.replicate Config.linePlaces none, lumaWaiting := [], lumaFlight := [] }
    outA := s.outA.halt
    outB := s.outB.halt
    store := { s.store with engine := { s.store.engine with waiting := [], flight := [] } } }

/-- A command that the part takes no notice of while HALTED (R16, R30, R51, R83, R104, R132, R164, R172, R183). -/
def State.unlessHalted (s : State) (f : State → State) : Host.Outcome State Fault Refusal :=
  .next (if s.notice.halted then s else f s)

end Sys2Proof.Machine
end

