-- ==== Sys2Proof/Machine/Monitor.lean ====
section
/-! DEFINITION. The Page Monitor (chapter 5): signatures and scores, the four states, standby and waking, the
saved signature, and the meanings of SET_MONITOR, WAKE and AUTO_ANSWER. -/

namespace Sys2Proof.Machine

/-- R86: the number of tiles whose means differ by more than Δ. -/
def score (delta : Nat) (a b : List Nat) : Nat :=
  ((a.zip b).filter fun (x, y) => decide (delta < (x - y) + (y - x))).length

/-- R86: a score taken becomes the last score, and the compare count increases by 1. -/
def Monitor.tookScore (sc : Nat) (m : Monitor) : Monitor :=
  { m with lastScore := sc, compares := m.compares + 1 }

/-- R101: the signature record is written with the content the score leaves. Where the step that takes the score also
requests the notice and the status record, the spec orders none of them: the signature record is requested before them
at PAGE_SETTLED and PAGE_MOTION and after them at the entry into STANDBY, WOKEN and PRESENCE (DESIGN CHOICE, log 43). -/
def State.writeSignature (sig : Signature) (a : Against) (s : State) : State :=
  s.onRecs (·.give .signature (signatureRecord s.mon sig a))

/-- The output's mark on the hold list. -/
def Monitor.onHold (m : Monitor) : OutId → Bool
  | .a => m.holdA
  | .b => m.holdB

def Monitor.setHold (x : OutId) (v : Bool) (m : Monitor) : Monitor :=
  match x with
  | .a => { m with holdA := v }
  | .b => { m with holdB := v }

/-! ### The standby hold and the wake (R93, R97) -/

/-- R93: the standby hold on output `x`. -/
def State.holdOutput (x : OutId) (s : State) : State :=
  match (s.out x).source with
  | .live =>
    match (s.out x).latchedSlot with
    | some k =>
      ((s.onOut x fun e => { e with source := .held k }).onSlots (·.takeFreeze x k)).onMon (·.setHold x true)
    | none => (s.onOut x fun e => { e with source := .heldNone }).onMon (·.setHold x true)
  | _ => s

/-- R97: output `x`, when it is on the hold list, returns to LIVE, its FREEZE_x released. -/
def State.unholdOutput (x : OutId) (s : State) : State :=
  if s.mon.onHold x then
    let s1 := match (s.out x).source with
      | .held k => (s.onOut x fun e => { e with source := .live }).onSlots (·.dropFreeze x k)
      | .heldNone => s.onOut x fun e => { e with source := .live }
      | _ => s
    s1.onMon (·.setHold x false)
  else s

/-- R97, R98: the hold list is emptied. -/
def State.unholdAll (s : State) : State := (s.unholdOutput .a).unholdOutput .b

/-- R96: the wake to ACTIVE by a directive. The notice record of WOKEN is requested before the status record (DESIGN
CHOICE, log 47). -/
def State.wakeActive (s : State) : State :=
  (((s.onMon fun m => { m with state := .active, idle := 0, scan := 0, presence := 0 }).raise .woken).unholdAll).requestStatus

/-- R28, R96: the wake or idle reset of WAKE and of the wake-first directives. -/
def State.touch (s : State) : State :=
  if s.mon.state = .standby then s.wakeActive else s.onMon fun m => { m with idle := 0 }

/-! ### Evaluated frames (R85 to R95) -/

/-- R89: the request for an AUTO snapshot of the settling frame. -/
def State.requestAuto (sig : Signature) (s : State) : State :=
  s.onMon fun m => { m with autoRequests := m.autoRequests ++ [⟨sig.means, false⟩] }

/-- R89: the auto-snapshot test at a settling. -/
def State.autoTest (sig : Signature) (s : State) : State :=
  if s.mon.settings.auto && s.store.lesson.isSome then
    match s.mon.saved with
    | none => s.requestAuto sig
    | some sv =>
      let sc := score s.mon.settings.delta sig.means sv
      let s1 := (s.onMon (·.tookScore sc)).writeSignature sig .saved
      if s.mon.settings.k ≤ sc then s1.requestAuto sig else s1
  else s

/-- R88: an evaluated frame in MOTION. The signature record's place among the requests: log 43; at PAGE_SETTLED the notice
record is requested before the status record (DESIGN CHOICE, log 47). -/
def State.motionFrame (sig : Signature) (s : State) : State :=
  match s.mon.previous with
  | none => s.onMon fun m => { m with previous := some sig.means }
  | some prev =>
    let sc := score s.mon.settings.delta sig.means prev
    let stable := if sc < s.mon.settings.k then s.mon.stable + 1 else 0
    let s1 := s.onMon fun m => { m.tookScore sc with stable := stable, previous := some sig.means }
    if s.mon.settings.hold ≤ stable then
      ((((s1.onMon fun m => { m with reference := some sig.means, state := .active, idle := 0 }).writeSignature
        sig .previous).raise .pageSettled).autoTest sig).requestStatus
    else s1.writeSignature sig .previous

/-- R92: entry into STANDBY. The notice record is requested before the status record (DESIGN CHOICE, log 47). -/
def State.enterStandby (s : State) : State :=
  ((((s.onMon fun m => { m with state := .standby, scan := 0, presence := 0 }).raise .standby).holdOutput
    .a).holdOutput .b).requestStatus

/-- R91: an evaluated frame in ACTIVE. The signature record's place among the requests: log 43; at PAGE_MOTION the notice
record is requested before the status record (DESIGN CHOICE, log 47). -/
def State.activeFrame (sig : Signature) (s : State) : State :=
  match s.mon.reference with
  | none => s
  | some ref =>
    let sc := score s.mon.settings.delta sig.means ref
    let s1 := s.onMon (·.tookScore sc)
    if s.mon.settings.k ≤ sc then
      (((s1.onMon fun m =>
        { m with state := .motion, stable := 0, previous := some sig.means }).writeSignature sig
          .reference).raise .pageMotion).requestStatus
    else
      let idle := min (s.mon.idle + 1) 65535
      let s2 := s1.onMon fun m => { m with idle := idle }
      if s.mon.settings.idle ≠ 0 ∧ s.mon.settings.standby = true ∧ s.mon.settings.idle ≤ idle then
        s2.enterStandby.writeSignature sig .reference
      else s2.writeSignature sig .reference

/-- R95: a compared frame in STANDBY wakes the monitor to MOTION. The notice record of WOKEN is requested before the
status record (DESIGN CHOICE, log 47). -/
def State.wakeMotion (sig : Signature) (s : State) : State :=
  (((s.onMon fun m => { m with
      state := .motion, previous := some sig.means, stable := 0, idle := 0, scan := 0, presence := 0 }).raise
    .woken).unholdAll).requestStatus

/-- R94: an evaluated frame in STANDBY. The signature record's place among the requests: log 43. -/
def State.standbyFrame (sig : Signature) (s : State) : State :=
  let scan := s.mon.scan + 1
  if s.mon.settings.scan ≤ scan then
    match s.mon.reference with
    | none => s.onMon fun m => { m with scan := 0 }
    | some ref =>
      let sc := score s.mon.settings.delta sig.means ref
      let s1 := s.onMon fun m => { m.tookScore sc with scan := 0 }
      if s.mon.settings.k ≤ sc then (s1.wakeMotion sig).writeSignature sig .reference
      else
        let presence := min (s.mon.presence + 1) 65535
        if s.mon.settings.presence ≠ 0 ∧ s.mon.settings.presence ≤ presence then
          ((s1.onMon fun m => { m with presence := 0 }).raise .presence).writeSignature sig .reference
        else (s1.onMon fun m => { m with presence := presence }).writeSignature sig .reference
  else s.onMon fun m => { m with scan := scan }

/-- R85: the monitor receives the signature of an evaluated frame. -/
def State.receiveSignature (sig : Signature) (s : State) : State :=
  let s1 := s.onMon fun m => { m with last := some sig }
  match s.mon.state with
  | .off => s
  | .motion => s1.motionFrame sig
  | .active => s1.activeFrame sig
  | .standby => s1.standbyFrame sig

/-! ### Capture starts and stops (R87) -/

/-- R87: START_CAPTURE is taken. -/
def State.monitorStart (s : State) : State :=
  (s.onMon fun m => { m with state := .motion, previous := none, stable := 0 }).requestStatus

/-- R87, R99: STOP_CAPTURE is taken. The status record is rewritten when the state changes. A stop in STANDBY releases
FREEZE_x of the HELD outputs, where R40 has the stop keep every holder tag (DEDUCED, log 50). -/
def State.monitorStop (s : State) : State :=
  let s1 := s.unholdAll.onMon fun m =>
    { m with state := .off, previous := none, stable := 0, scan := 0, presence := 0 }
  if s.mon.state = .off then s1 else s1.requestStatus

/-- R104: the answers and notices taken before a RESTART. -/
def MonNotice.makeStale : MonNotice → MonNotice
  | .taken m _ => .taken m true
  | .newestSaved _ => .newestSaved true
  | n => n

/-- R104: an AUTO request raised before a RESTART. -/
def AutoRequest.makeStale (a : AutoRequest) : AutoRequest := { a with stale := true }

/-- R104: RESTART. The AUTO requests the controller has not taken yet stand (DESIGN CHOICE, log 37), and their answers
leave the saved signature absent, so that the first page to settle meets the auto test whatever it shows. -/
def Monitor.restart (m : Monitor) : Monitor :=
  { m with
    state := .off, last := none, previous := none, reference := none, saved := none, stable := 0, idle := 0,
    scan := 0, presence := 0, lastScore := 0, holdA := false, holdB := false,
    autoRequests := m.autoRequests.map AutoRequest.makeStale, inbox := m.inbox.map MonNotice.makeStale }

def State.monitorRestart (s : State) : State :=
  let s1 := s.onMon Monitor.restart
  if s.mon.state = .off then s1 else s1.requestStatus

/-! ### The controller's notices (R90, R100) -/

/-- The notice is an answer to an AUTO request, which the step AUTO_ANSWER takes. -/
def MonNotice.isAnswer : MonNotice → Bool
  | .taken _ _ => true
  | .refused => true
  | _ => false

/-- A notice acts on the saved signature: BEGIN_LESSON and SNAPSHOT NEWEST by R100, an answer by R90. -/
def Monitor.hear (n : MonNotice) (m : Monitor) : Monitor :=
  match n with
  | .taken means stale => if stale then m else { m with saved := some means }
  | .refused => m
  | .lessonBegun => { m with saved := none }
  | .newestSaved stale =>
    if stale then m
    else match m.last with
      | some sig => { m with saved := some sig.means }
      | none => m

/-- The notices at the front of the inbox that are no answers are heard, in order (R90). -/
def Monitor.hearLeading : List MonNotice → Monitor → Monitor
  | [], m => { m with inbox := [] }
  | n :: rest, m => if n.isAnswer then { m with inbox := n :: rest } else Monitor.hearLeading rest (m.hear n)

/-- The controller sends the monitor a notice: it is heard behind the answers still on their way (R90). -/
def State.tellMonitor (n : MonNotice) (s : State) : State :=
  s.onMon fun m => Monitor.hearLeading (m.inbox ++ [n]) m

/-! ### Meanings -/

/-- AUTO_ANSWER (R90): the answer at the front reaches the monitor. Without one there is nothing to take
(log 1). A refused request raises SNAP_MISSED in OFF too, where R87 lets the monitor raise no event (DEDUCED,
log 36). -/
def execAutoAnswer (s : State) : Host.Outcome State Fault Refusal :=
  s.unlessHalted fun s =>
    match s.mon.inbox with
    | [] => s
    | n :: rest =>
      let s1 := s.onMon fun m => Monitor.hearLeading rest (m.hear n)
      if n = .refused then s1.raise .snapMissed else s1

/-- SET_MONITOR takes its eight settings, clamped (R84); STANDBY is left when they forbid it (R99),
the notice record of WOKEN requested before the status record (DESIGN CHOICE, log 47). -/
def State.takeMonitorSettings (n : MonSettings) (s : State) : State :=
  let s1 := s.onMon fun m => { m with settings := n }
  if s.mon.state = .standby ∧ (n.standby = false ∨ n.idle = 0) then
    (((s1.onMon fun m => { m with state := .active, idle := 0 }).raise .woken).unholdAll).requestStatus
  else s1

/-- SET_MONITOR (R84, R99). -/
def execSetMonitor (delta k hold scan standby : BitVec 8) (idle presence : BitVec 16) (auto : BitVec 8)
    (s : State) : Host.Outcome State Fault Refusal :=
  s.unlessHalted fun s =>
    let c := Instr.setMonitor delta k hold scan standby idle presence auto
    match firstRefusal [(decide (1 < standby.toNat ∨ 1 < auto.toNat), .refusedRange)] with
    | some st => s.answer c st
    | none =>
      let n : MonSettings :=
        { delta := clamp 1 64 delta.toNat, k := clamp 1 192 k.toNat, hold := clamp 1 255 hold.toNat,
          idle := idle.toNat, scan := clamp 1 64 scan.toNat, presence := presence.toNat,
          standby := decide (standby = 1), auto := decide (auto = 1) }
      let clamped := decide (n.delta ≠ delta.toNat ∨ n.k ≠ k.toNat ∨ n.hold ≠ hold.toNat ∨ n.scan ≠ scan.toNat)
      (s.takeMonitorSettings n).answer c (doneOr clamped)

/-- WAKE (R96). -/
def execWake (s : State) : Host.Outcome State Fault Refusal :=
  s.unlessHalted fun s => s.touch.answer .wake .done

end Sys2Proof.Machine
end

