-- ==== Sys2Proof/Machine/Copy.lean ====
section
/-! DEFINITION. The copy engine (07 section 7.6): target choice, copy start, chunks, completion, failure, waiting
and handover; and the restart bookkeeping every owner reports to (R30). -/

namespace Sys2Proof.Machine

/-! ### Small updates of the store -/

def Store.onRec (p : Nat) (f : Rec → Rec) (st : Store) : Store := { st with catalog := st.catalog.modify p f }

def Store.onEngine (f : CopyEngine → CopyEngine) (st : Store) : Store := { st with engine := f st.engine }

def Rec.recalled (r : Rec) : OutId → Bool
  | .a => r.recallA
  | .b => r.recallB

def Rec.setRecall (x : OutId) (v : Bool) (r : Rec) : Rec :=
  match x with
  | .a => { r with recallA := v }
  | .b => { r with recallB := v }

/-- The record carries a CLAIMED or RECALL mark. -/
def Rec.marked (r : Rec) : Bool := r.claimed || r.recallA || r.recallB

/-- The record becomes FREE and leaves the ordered catalog (R141, R142). -/
def Store.freeRec (p : Nat) (st : Store) : Store :=
  { st.onRec p fun _ => Rec.blank with order := st.order.erase p }

/-! ### Chunks (R156) -/

/-- The number of chunks of a frame (R156). -/
def chunkCount (w h : Nat) : Nat := frameSize w h / 4096

/-- The offsets of a chunk's sixteen transactions. -/
def chunkOffsets : List Nat := (List.range 16).map (· * 256)

/-- The sixteen reads of chunk `k` of the slot at `base`. -/
def chunkReads (base k : Nat) : List ChunkTxn :=
  chunkOffsets.map fun o => ⟨.read, base + k * 4096 + o, [], false⟩

/-- The bytes the chunk buffer holds at offset `o`. -/
def bufferAt (b : List (Nat × List Byte)) (o : Nat) : List Byte :=
  match b.find? fun e => decide (e.1 = o) with
  | some e => e.2
  | none => []

/-- The sixteen writes of chunk `k` to the entry at `base`, from the buffer (R156). Those of the last chunk also write the
bytes beyond the frame, up to the rounded frame size (DESIGN CHOICE, log 45). -/
def chunkWrites (base k : Nat) (b : List (Nat × List Byte)) : List ChunkTxn :=
  chunkOffsets.map fun o => ⟨.write, base + k * 4096 + o, bufferAt b o, false⟩

/-- The engine raises the reads of the chunk at its chunk index from the slot of the head request. -/
def State.raiseChunk (p : Nat) (s : State) : State :=
  match s.store.queue with
  | [] => s
  | r :: _ => s.onStore (·.onEngine fun e =>
      { e with state := .copying p, buffer := [], writing := false, failAddr := none,
               waiting := chunkReads (s.slotAddr r.slot) e.chunk })

/-- R170: at a copy start and at a chunk boundary the chunk is raised only in NORMAL; else the engine pauses. -/
def State.raiseOrPause (p : Nat) (s : State) : State :=
  if s.gov.state = .normal then s.raiseChunk p
  else s.onStore (·.onEngine fun e => { e with state := .paused p })

/-- R170: the return to NORMAL reaches the copy engine. -/
def State.copyResume (s : State) : State :=
  match s.store.engine.state with
  | .paused p => s.raiseChunk p
  | _ => s

/-! ### Target, start and end of a request -/

/-- The outcome of the choice of R151. -/
inductive Choice where
  | full
  | target (p : Nat)
  | waitOn (p : Nat)
  deriving DecidableEq, Repr

/-- The FREE record with the lowest position. -/
def Store.lowestFree (st : Store) : Option Nat :=
  (List.range st.catalog.length).find? fun p => decide ((st.recAt p).state = .free)

/-- The oldest record of the ordered catalog that is not KEPT. -/
def Store.oldestUnkept (st : Store) : Option Nat := st.order.find? fun p => !(st.recAt p).kept

/-- R151. -/
def Store.choose (st : Store) : Choice :=
  match st.nextSeq with
  | none => .full
  | some _ =>
    match st.lowestFree with
    | some p => .target p
    | none =>
      if st.keepAll then .full
      else match st.oldestUnkept with
        | none => .full
        | some p => if (st.recAt p).marked then .waitOn p else .target p

/-- The record a copy starts with (R155 steps 1 and 2). -/
def Request.copyingRec (r : Request) (seq : Nat) : Rec :=
  { state := .copying, seq := seq, lesson := r.lesson, page := r.page, frame := r.frame, auto := r.auto,
    kind := r.kind, width := r.width, height := r.height, kept := r.keep, view := r.view, claimed := false,
    recallA := false, recallB := false, wanted := false }

/-- The sequence after `n`: exhausted after 0xFFFF_FFFF (R155). -/
def seqAfter (n : Nat) : Option Nat := if n = 0xFFFFFFFF then none else some (n + 1)

/-- R155: the copy of the head request starts into record `p`; the status record is rewritten when the ordered
catalog grows (R141), requested after the COPYING record when this step has not requested it before (DESIGN CHOICE,
log 47). -/
def State.startCopy (p : Nat) (s : State) : State :=
  match s.store.queue, s.store.nextSeq with
  | r :: _, some n =>
    let s1 := s.onStore fun st =>
      { st.onRec p fun _ => r.copyingRec n with
        order := st.order.erase p ++ [p], nextSeq := seqAfter n
        engine := { st.engine with chunk := 0 } }
    let s2 := s1.request (.catalog p)
    (if s.store.order.contains p then s2 else s2.requestStatus).raiseOrPause p
  | _, _ => s

/-- The head request leaves the queue with an outcome: its COPY tag is released, the event raised and the status
rewritten (R149, R157, R158). The notice record is requested before the status record (DESIGN CHOICE, log 47). -/
def State.popHead (o : Outcome) (k : EventKind) (s : State) : State :=
  match s.store.queue with
  | [] => s
  | r :: rest =>
    (((s.onStore fun st => { st with queue := rest, outcome := o }).onSlots (·.dropCopy r.slot)).raise
      k).requestStatus

/-- The engine becomes IDLE. -/
def State.copyIdle (s : State) : State := s.onStore (·.onEngine fun e => { e with state := .idle })

/-- R150, R151: the engine takes the request at the head; `fuel` bounds the requests that fail in turn. -/
def State.serveQueue : Nat → State → State
  | 0, s => s.copyIdle
  | fuel + 1, s =>
    match s.store.queue with
    | [] => s.copyIdle
    | _ :: _ =>
      match s.store.choose with
      | .target p => s.startCopy p
      | .waitOn p => s.onStore fun st =>
          (st.onRec p fun r => { r with wanted := true }).onEngine fun e =>
            { e with state := .waiting p, waitCount := 0 }
      | .full => State.serveQueue fuel (s.popHead .storeFull .snapFailed)

/-- R150: the engine begins the request at the head. -/
def State.nextRequest (s : State) : State := s.serveQueue s.store.queue.length

/-- A request joins the queue at the tail, with its COPY tag (R147, R149); an IDLE engine begins it (R150). The status
record for the longer queue is requested before what the engine then requests, the COPYING record or the notice record of
SNAP_FAILED (DESIGN CHOICE, log 47). -/
def State.joinQueue (r : Request) (s : State) : State :=
  let s1 := ((s.onStore fun st => { st with queue := st.queue ++ [r] }).onSlots
    (·.takeCopy r.slot)).requestStatus
  if s.store.engine.state = .idle then s1.nextRequest else s1

/-- R157: the copy into record `p` completes. -/
def State.copyComplete (p : Nat) (s : State) : State :=
  (((s.onStore (·.onRec p fun r => { r with state := .saved })).request (.catalog p)).popHead .saved
    .snapDone).nextRequest

/-- R158: the copy into record `p` fails with an error on its chunk: the record becomes FREE and is written, the
fault is logged with the first failing address, and the request leaves. The FREE record is requested before the fault's
records (DESIGN CHOICE, log 47). -/
def State.copyFailed (p : Nat) (k : FaultKind) (addr : Nat) (s : State) : State :=
  let frame := (s.store.queue.head?.map (·.frame)).getD 0
  (((((s.onStore (·.freeRec p)).request (.catalog p)).logFault k .store addr frame (.entry p)).popHead .io
    .snapFailed)).nextRequest

/-! ### Waiting, handover, timeout (R152, R153) -/

/-- R153: the wait has reached its limit, so WAIT_LIMIT_TIMEOUT is due and has been taken first (log 11). -/
def State.waitOver (s : State) : Bool := decide (s.store.waitLimit ≤ s.store.engine.waitCount)

/-- R153: a removal that leaves a WANTED record unmarked hands it over, but not once the wait is over, nor from the moment
RESTART is dispatched (R163): the record then stays SAVED, and the RESTART clears its WANTED mark. -/
def State.handover (p : Nat) (s : State) : State :=
  let r := s.store.recAt p
  if r.wanted && !r.marked && !s.ring.restartDispatched && !s.waitOver then s.startCopy p else s

/-- An update of record `p`'s marks by a removal, and what follows it (R143). -/
def State.unmark (p : Nat) (f : Rec → Rec) (s : State) : State := (s.onStore (·.onRec p f)).handover p

/-- R152: a capture frame end reaches the engine: the wait count of a WANTED record increases, up to the limit
at which WAIT_LIMIT_TIMEOUT is due (log 11). -/
def State.copyFrameEnd (s : State) : State :=
  match s.store.engine.state with
  | .waiting _ => s.onStore fun st => st.onEngine fun e => { e with waitCount := min (e.waitCount + 1) st.waitLimit }
  | _ => s

/-! ### RESTART's end (R23, R30) -/

/-- Every owner has reported: no tear, no engine answering queued reads, no class E response to come. -/
def State.restartSettled (s : State) : Bool :=
  !s.cap.tearing && !s.outA.leaving && !s.outB.leaving && s.store.engine.flight.isEmpty

/-- R30: RESTART is answered DONE when every owner has reported. -/
def State.finishRestart (s : State) : State :=
  if s.ring.restarting && s.restartSettled then
    (s.onRing fun r => { r with restarting := false }).answerAccepted 26 .done
  else s

/-! ### Responses of class E -/

/-- The transaction answers a response of direction `d` at `addr`. -/
def ChunkTxn.answers (d : Dir) (addr : Nat) (t : ChunkTxn) : Bool := decide (t.dir = d ∧ t.addr = addr)

/-- No transaction of the chunk is waiting or in flight. -/
def CopyEngine.chunkDone (e : CopyEngine) : Bool := e.waiting.isEmpty && e.flight.all (·.stale)

/-- The chunk's reads have all returned: the writes are raised, or the request fails (R156, R158). -/
def State.readsReturned (p : Nat) (s : State) : State :=
  match s.store.engine.failAddr with
  | some a => s.copyFailed p .copyRead a
  | none => s.onStore (·.onEngine fun e =>
      { e with writing := true, waiting := chunkWrites (s.entryAddr p) e.chunk e.buffer })

/-- The chunk's writes have all returned: the index advances, and the copy goes on, pauses, completes or fails
(R156 to R158). -/
def State.writesReturned (p : Nat) (s : State) : State :=
  match s.store.engine.failAddr with
  | some a => s.copyFailed p .copyWrite a
  | none =>
    let total := match s.store.queue with
      | r :: _ => chunkCount r.width r.height
      | [] => 0
    let s1 := s.onStore (·.onEngine fun e => { e with chunk := e.chunk + 1, writing := false })
    if total ≤ s1.store.engine.chunk then s1.copyComplete p else s1.raiseOrPause p

/-- What a class E response does once its transaction `t` is out of flight. -/
def State.chunkReturned (t : ChunkTxn) (r : Resp) (data : List Byte) (s : State) : State :=
  match s.store.engine.state with
  | .copying p =>
    let s1 := s.onStore (·.onEngine fun e =>
      match r with
      | .error => { e with failAddr := some (e.failAddr.getD t.addr) }
      | .okay => if t.dir = .read then { e with buffer := e.buffer ++ [(t.addr % 4096, data)] } else e)
    if s1.store.engine.chunkDone then
      (if t.dir = .read then s1.readsReturned p else s1.writesReturned p)
    else s1
  | _ => s

/-- A class E response: it returns to the copy engine; that of a copy a RESTART abandoned is dropped (R163), and
one that answers nothing in flight is dropped (R16, R17). -/
def State.chunkResponse (d : Dir) (addr : Nat) (r : Resp) (data : List Byte) (s : State) : State :=
  match s.store.engine.flight.find? (ChunkTxn.answers d addr) with
  | none => s
  | some t =>
    let s1 := s.onStore (·.onEngine fun e => { e with flight := e.flight.erase t })
    (if t.stale then s1 else s1.chunkReturned t r data).finishRestart

/-- CHUNK_READ_RESPONSE (R156, R158). -/
def execChunkReadResponse (addr : Nat) (r : Resp) (data : List Byte) (s : State) :
    Host.Outcome State Fault Refusal :=
  if r = .okay ∧ data.length ≠ 256 then .refused .malformedResponse
  else s.unlessHalted (·.chunkResponse .read addr r data)

/-- CHUNK_WRITE_RESPONSE (R156, R157, R158). -/
def execChunkWriteResponse (addr : Nat) (r : Resp) (s : State) : Host.Outcome State Fault Refusal :=
  s.unlessHalted (·.chunkResponse .write addr r [])

/-- WAIT_LIMIT_TIMEOUT (R153): the WANTED mark clears and the request fails with HELD. It is due when the wait
count has reached the wait limit (log 11). -/
def execWaitLimitTimeout (s : State) : Host.Outcome State Fault Refusal :=
  s.unlessHalted fun s =>
    match s.store.engine.state with
    | .waiting p =>
      if s.waitOver then
        ((s.onStore (·.onRec p fun r => { r with wanted := false })).popHead .held .snapFailed).nextRequest
      else s
    | _ => s

end Sys2Proof.Machine
end

