-- ==== Sys2Proof/Machine/Governor.lean ====
section
/-! DEFINITION. The Temperature Governor (chapter 8): samples, states and the thermal flag. -/

namespace Sys2Proof.Machine

/-- R165: a reading clamped to −40..150. -/
def clampSample (t : Int) : Int := if t < -40 then -40 else if 150 < t then 150 else t

/-- R166: the state after a sample. -/
def TempState.after (st : TempState) (t : Int) : TempState :=
  if t ≤ 95 then .normal
  else match st with
    | .normal => if 120 ≤ t then .critical else if 105 ≤ t then .reduced else .normal
    | .reduced => if 120 ≤ t then .critical else .reduced
    | .critical => if t ≤ 110 then .reduced else .critical

/-- The degrade level of a state. -/
def TempState.rank : TempState → Nat
  | .normal => 0
  | .reduced => 1
  | .critical => 2

/-- R167: the effects of a change of state from `before` to `after`, in the table's order: the flag, the event,
the copy engine, the status rewrite. -/
def State.thermalChange (before after : TempState) (s : State) : State :=
  let s1 := if after = .normal then s else s.onGov fun g => { g with flag := true }
  let s2 := if before.rank < after.rank then s1.raise .thermal
    else if after = .normal then (s1.raise .thermalClear).copyResume else s1
  s2.requestStatus

/-- R165: the governor takes a sample. -/
def State.sampleDie (reading : Int) (s : State) : State :=
  let t := clampSample reading
  let after := s.gov.state.after t
  let s1 := s.onGov fun g => { g with sample := some t, state := after }
  if after = s.gov.state then s1 else s1.thermalChange s.gov.state after

/-- R168: an observed read of the status record reaches the governor. -/
def State.statusReadSeen (s : State) : State :=
  if s.gov.state = .normal ∧ s.gov.flag = true then
    (s.onGov fun g => { g with flag := false }).requestStatus
  else s

end Sys2Proof.Machine
end

