-- ==== Sys2Proof/Machine/Path.lean ====
section
/-! DEFINITION. The Path Unit (chapter 1): the window table, classification, the forwarding queue, observations, the
relaying of responses, and the rows of the upstream port that belong to no window of the capture side. -/

namespace Sys2Proof.Machine

/-! ### The window table (R3) and classification (R4) -/

/-- The capture window entry, present while capture is RUNNING (R3). -/
def State.captureEntry? (s : State) : Option Region := if s.cap.running then s.captureWindow? else none

/-- Output `x`'s entry, present while it is ENABLED (R3); an output that is leaving has had it removed (R108). -/
def State.outputEntry? (x : OutId) (s : State) : Option Region :=
  if (s.out x).state = .enabled ∧ (s.out x).leaving = false then (s.out x).window? else none

/-- The treatments of R4. -/
inductive Treatment where
  | forward
  | enhancer (off : Nat)
  | redirect (off : Nat)
  | engine (x : OutId) (off : Nat)
  | refuse
  | straddle
  deriving DecidableEq, Repr

/-- R4 for the entry of output `x` alone; `none` when the transaction does not start in it. -/
def State.classifyOutput (x : OutId) (t : Txn) (s : State) : Option Treatment :=
  match s.outputEntry? x with
  | none => none
  | some g =>
    if g.at t.addr then
      some (if g.holds t.addr t.len then
        (match t.dir with
          | .read => .engine x (t.addr - g.base)
          | .write => .refuse)
      else .straddle)
    else none

/-- R4 for the capture window entry alone. -/
def State.classifyCapture (t : Txn) (s : State) : Option Treatment :=
  match s.captureEntry? with
  | none => none
  | some g =>
    if g.at t.addr then
      some (if g.holds t.addr t.len then
        (match t.dir with
          | .read => .redirect (t.addr - g.base)
          | .write => .enhancer (t.addr - g.base))
      else .straddle)
    else none

/-- R4: the treatment of a transaction by the window table as it stands. While HALTED the table is not consulted
(R16). A transaction in the control page is forwarded. -/
def State.classify (t : Txn) (s : State) : Treatment :=
  if s.notice.halted then .forward
  else if s.controlPage.at t.addr then .forward
  else match s.classifyCapture t with
    | some k => k
    | none => match s.classifyOutput .a t with
      | some k => k
      | none => (s.classifyOutput .b t).getD .forward

/-! ### Taking (R1) -/

/-- The upstream transactions of direction `d` that wait untaken. -/
def State.untaken (d : Dir) (s : State) : List Txn :=
  match d with
  | .read => s.path.upReads
  | .write => s.path.upWrites

def State.setUntaken (d : Dir) (l : List Txn) (s : State) : State :=
  match d with
  | .read => s.onPath fun p => { p with upReads := l }
  | .write => s.onPath fun p => { p with upWrites := l }

/-- R1: transaction `t` is the next of its direction: nothing waits ahead of it. -/
def State.isNext (t : Txn) (s : State) : Bool :=
  match s.untaken t.dir with
  | [] => true
  | h :: _ => decide (h = t)

/-- `t` waits untaken, behind those that arrived before it (log 6). -/
def State.holdUntaken (t : Txn) (s : State) : State :=
  if (s.untaken t.dir).contains t then s else s.setUntaken t.dir (s.untaken t.dir ++ [t])

/-- `t`, when it waited, waits no longer. -/
def State.leaveUntaken (t : Txn) (s : State) : State := s.setUntaken t.dir ((s.untaken t.dir).drop 1)

/-- R1: `t` is taken when it is next and its destination accepts it; else it waits. -/
def State.present (t : Txn) (accepts : Bool) (take : State → State) (s : State) : State :=
  if s.isNext t && accepts then take (s.leaveUntaken t) else s.holdUntaken t

/-- R2: the forwarding queue has room in direction `d`. -/
def State.hasRoom (d : Dir) (s : State) : Bool :=
  decide ((s.path.fwd.filter fun e => decide (e.dir = d)).length < Config.forwardDepth)

/-! ### Observations (R10, R11) -/

/-- The transaction covers the 16-byte unit at control-page offset `off`. -/
def coversUnit (t : Txn) (base off : Nat) : Bool := (⟨t.addr, t.len⟩ : Region).at (base + off)

/-- The 32-bit word a write puts at control-page offset `off`. -/
def wordOf (t : Txn) (base off : Nat) : BitVec 32 := BitVec.ofNat 32 (fieldAt t.data (base + off - t.addr) 4)

/-- R10, R11: what a forwarded transaction is observed for; nothing while HALTED (R16). -/
def State.observe (t : Txn) (s : State) : List Obs :=
  let cp := s.path.cpBase
  if s.notice.halted then []
  else match t.dir with
    | .write =>
      (if coversUnit t cp Config.submitOffset then [.submit (wordOf t cp Config.submitOffset)] else [])
        ++ (if coversUnit t cp Config.acknowledgeOffset then [.acknowledge (wordOf t cp Config.acknowledgeOffset)]
            else [])
    | .read =>
      (if coversUnit t cp Config.noticeOffset then [.noticeRead] else [])
        ++ (if coversUnit t cp Config.statusOffset then [.statusRead] else [])

/-! ### The forwarding queue (R2) -/

/-- A transaction joins the forwarding queue, to be issued at `addr`. -/
def State.enqueue (t : Txn) (addr : Nat) (s : State) : State :=
  s.onPath fun p => { p with fwd := p.fwd ++
    [⟨t.id, t.dir, addr, t.len, t.data, false, s.observe t, false, none⟩] }

/-- R9: the transaction is forwarded unchanged. -/
def State.forward (t : Txn) (s : State) : State := s.enqueue t t.addr

/-- The treatment of a transaction given by a row other than its own (log 25): plain forwarding is done by any row;
else the transaction waits untaken for the row of its treatment. -/
def State.otherwise (t : Txn) (s : State) : State :=
  match s.classify t with
  | .forward => s.present t (s.hasRoom t.dir) (·.forward t)
  | _ => s.holdUntaken t

/-- R8: the address a capture-window read at offset `off` is issued at. -/
def State.redirected (t : Txn) (off : Nat) (s : State) : Nat :=
  match (List.range s.slots.slots.length).find? fun k => decide ((s.slots.slot k).state = .filling) with
  | some k => s.slotAddr k + off
  | none => t.addr

/-! ### Rows of the upstream port -/

/-- FORWARDED_TRANSACTION (R1, R2, R9, R16). -/
def execForwardedTransaction (t : Txn) (s : State) : Host.Outcome State Fault Refusal :=
  if t.legal then .next (s.otherwise t) else .refused .illegalTransaction

/-- STRADDLING_ACCESS (R5): forwarded unchanged, with STRAY_ACCESS. -/
def execStraddlingAccess (t : Txn) (s : State) : Host.Outcome State Fault Refusal :=
  if t.legal then
    .next (match s.classify t with
      | .straddle => s.present t (s.hasRoom t.dir) fun s => (s.forward t).raise .strayAccess
      | _ => s.otherwise t)
  else .refused .illegalTransaction

/-- OUTPUT_WINDOW_WRITE (R6): refused, answered ERROR, with STRAY_ACCESS. -/
def execOutputWindowWrite (t : Txn) (s : State) : Host.Outcome State Fault Refusal :=
  if t.legal && decide (t.dir = .write) then
    .next (match s.classify t with
      | .refuse => s.present t true fun s => (s.respond ⟨t.id, .write, .error, []⟩).raise .strayAccess
      | _ => s.otherwise t)
  else .refused .illegalTransaction

/-- OUTPUT_WINDOW_READ (R6, R114): the read joins the engine's read queue. -/
def execOutputWindowRead (t : Txn) (s : State) : Host.Outcome State Fault Refusal :=
  if t.legal && decide (t.dir = .read) then
    .next (match s.classify t with
      | .engine x off => s.present t true fun s =>
          s.onOut x fun e => { e with queue := e.queue ++ [⟨t.id, off, t.len, false⟩] }
      | _ => s.otherwise t)
  else .refused .illegalTransaction

/-- CAPTURE_WINDOW_READ (R8): redirected to the FILLING slot, or forwarded unchanged. -/
def execCaptureWindowRead (t : Txn) (s : State) : Host.Outcome State Fault Refusal :=
  if t.legal && decide (t.dir = .read) then
    .next (match s.classify t with
      | .redirect off => s.present t (s.hasRoom .read) fun s => s.enqueue t (s.redirected t off)
      | _ => s.otherwise t)
  else .refused .illegalTransaction

/-! ### Responses to class B (R2) -/

/-- The entry was granted, has no response yet, and is that of upstream transaction `id` of direction `d`; `chroma`
tells a redirected chroma write from the rest. -/
def FwdEntry.awaits (d : Dir) (id : Nat) (chroma : Bool) (e : FwdEntry) : Bool :=
  decide (e.dir = d) && decide (e.id = id) && decide (e.chroma = chroma) && e.granted && e.resp.isNone

/-- The first entry that fits receives its response. -/
def setResponse (old : FwdEntry) (r : Resp) (data : List Byte) : List FwdEntry → List FwdEntry
  | [] => []
  | e :: rest => if e = old then { e with resp := some (r, data) } :: rest else e :: setResponse old r data rest

/-- R2: the response of entry `e` is returned upstream and its place freed. -/
def State.relayOne (e : FwdEntry) (r : Resp) (data : List Byte) (s : State) : State :=
  s.onPath fun p => { p with fwd := p.fwd.erase e, upLog := p.upLog ++ [⟨e.id, e.dir, r, data⟩] }

/-- R10, R11: entry `e` is observed and its response is OKAY, so it is relayed together with the handing, by the row of
the observation (log 9); not while HALTED, where nothing is handed (R16). -/
def State.handsOver (e : FwdEntry) (r : Resp) (s : State) : Bool :=
  decide (r = .okay) && !e.obs.isEmpty && !s.notice.halted

/-- R2: the entry of direction `d` whose response is returned next. -/
def State.nextRelayed (d : Dir) (s : State) : Option FwdEntry := s.path.fwd.find? fun e => decide (e.dir = d)

/-- R2: the responses of direction `d` are returned in taking order, as far as they have come and none is to be handed
over first. -/
def State.relay (d : Dir) : Nat → State → State
  | 0, s => s
  | n + 1, s =>
    match s.nextRelayed d with
    | none => s
    | some e =>
      match e.resp with
      | none => s
      | some (r, data) => if s.handsOver e r then s else State.relay d n (s.relayOne e r data)

/-- A response to entry `e` comes from downstream. -/
def State.responded (e : FwdEntry) (r : Resp) (data : List Byte) (s : State) : State :=
  (s.onPath fun p => { p with fwd := setResponse e r data p.fwd }).relay e.dir s.path.fwd.length

/-- CLASS_B_RESPONSE (R2, R9 to R11, R16): a response that answers nothing in flight is dropped (R17). -/
def execClassBResponse (d : Dir) (id : Nat) (r : Resp) (data : List Byte) (s : State) :
    Host.Outcome State Fault Refusal :=
  match s.path.fwd.find? (FwdEntry.awaits d id false) with
  | none => .next s
  | some e =>
    if d = .read ∧ r = .okay ∧ data.length ≠ e.len then .refused .malformedResponse
    else .next (s.responded e r (if d = .read then data else []))

/-- R63, R80: an ERROR on a redirected chroma write logs CAPTURE_WRITE, unless its frame is torn or the part
HALTED. -/
def State.chromaError (e : FwdEntry) (s : State) : State :=
  if s.cap.tearing || s.notice.halted then s
  else s.logFault .captureWrite .enhancer e.addr s.cap.frameNo
    (match s.cap.slot with
      | some k => .slot k
      | none => .none)

/-- CHROMA_WRITE_RESPONSE (R7, R80, R63): relayed upstream as the response of the capture write. -/
def execChromaWriteResponse (id : Nat) (r : Resp) (s : State) : Host.Outcome State Fault Refusal :=
  match s.path.fwd.find? (FwdEntry.awaits .write id true) with
  | none => .next s
  | some e =>
    .next ((if r = .error then s.chromaError e else s).responded e r [])

end Sys2Proof.Machine
end

