-- ==== Sys2Proof/Machine/Capture.lean ====
section
/-! DEFINITION. The Slot Table's fills and endings (chapter 3) and the Capture Enhancer (chapter 4): the position
tracker, the luma line buffer, frame starts, ends and tears, and the meanings of the capture rows. -/

namespace Sys2Proof.Machine

/-! ### Slot Table (R35 to R39) -/

/-- R34: the FILLING slot. -/
def SlotTable.filling (t : SlotTable) : Option Nat :=
  (List.range t.slots.length).find? fun k => decide ((t.slot k).state = .filling)

/-- R38: the FILLING slot, when there is one, is torn. -/
def SlotTable.tear (t : SlotTable) : SlotTable :=
  match t.filling with
  | some k => t.onSlot k fun sl => { sl with state := .free }
  | none => t

/-- R35 item 1: the FREE slot with the lowest index. -/
def SlotTable.lowestFree (t : SlotTable) : Option Nat :=
  (List.range t.slots.length).find? fun k => decide ((t.slot k).state = .free)

/-- R35 item 2: the READY slot nearest the head that is not held and not at the tail. -/
def SlotTable.oldestUnheld (t : SlotTable) : Option Nat := t.ready.dropLast.find? fun k => !(t.slot k).isHeld

/-- R35: the slot to fill. -/
def SlotTable.chooseFill (t : SlotTable) : Option Nat :=
  match t.lowestFree with
  | some k => some k
  | none => t.oldestUnheld

/-- R35: slot `k` becomes FILLING and leaves the READY list. -/
def SlotTable.fill (k : Nat) (frame : Count) (kind : FrameKind) (t : SlotTable) : SlotTable :=
  { t.onSlot k fun _ =>
      { state := .filling, frame := frame, kind := kind, showA := false, showB := false, freezeA := false,
        freezeB := false, copies := 0, width := (t.geom.map (·.w)).getD 0,
        height := (t.geom.map (·.h)).getD 0 } with
    ready := t.ready.erase k }

/-- R37: the FILLING slot becomes READY and joins the READY list at the tail. -/
def SlotTable.complete (t : SlotTable) : SlotTable :=
  match t.filling with
  | some k => { t.onSlot k fun sl => { sl with state := .ready } with ready := t.ready ++ [k] }
  | none => t

/-- R39: the FILLING slot's kind becomes DEGRADED. -/
def SlotTable.degrade (t : SlotTable) : SlotTable :=
  match t.filling with
  | some k => t.onSlot k fun sl => { sl with kind := .degraded }
  | none => t

/-- R32, R50: every slot record as after RESET_N and an empty READY list; the drop count is kept. -/
def SlotTable.cleared (t : SlotTable) : SlotTable := { t with slots := List.replicate 6 Slot.reset, ready := [] }

/-- R35, R36: the fill request of the frame that starts; without a slot the frame is dropped. -/
def State.fillRequest (s : State) : State :=
  let t := s.slots.tear
  match t.chooseFill with
  | some k =>
    (s.onSlots fun _ => t.fill k s.cap.frameNo s.cap.frameKind).onCap fun c =>
      { c with slot := some k, dropped := false }
  | none =>
    ((s.onSlots fun _ => { t with drops := t.drops + 1 }).raise .frameDropped).onCap fun c =>
      { c with slot := none, dropped := true }

/-! ### The luma line buffer (R65 to R69) -/

/-- The line buffer with every place free. -/
def freePlaces : List (Option Place) := List.replicate Config.linePlaces none

/-- The place that holds line `y`. -/
def Capture.placeOf (c : Capture) (y : Nat) : Option Nat :=
  (List.range c.places.length).find? fun k =>
    match c.places.getD k none with
    | some p => !p.unit && decide (p.line = y)
    | none => false

/-- A free place. -/
def Capture.freePlace (c : Capture) : Option Nat :=
  (List.range c.places.length).find? fun k => (c.places.getD k none).isNone

def Capture.freeCount (c : Capture) : Nat := c.places.countP (·.isNone)

/-- The place of line `y`. -/
def Capture.line? (c : Capture) (y : Nat) : Option Place := (c.placeOf y).bind fun k => c.places.getD k none

def Capture.setPlace (k : Nat) (p : Option Place) (c : Capture) : Capture := { c with places := c.places.set k p }

/-- R68: the places whose writes are raised and not all granted. -/
def Capture.emittedLines (c : Capture) : Nat :=
  c.places.countP fun
    | some p => decide (p.cond = .emitted)
    | none => false

/-- R66: the class C writes of a line's bytes from place `k`, the first byte at `addr`. -/
def lineWrites (k addr : Nat) (bytes : List Byte) : List LumaWrite :=
  (spanOf addr bytes.length).map fun (a, n) => ⟨a, (bytes.drop (a - addr)).take n, k⟩

/-- Raises the class C writes of `bytes` at `addr` from place `k`, which becomes EMITTED (R66). -/
def Capture.raiseWrites (k addr : Nat) (bytes : List Byte) (p : Place) (c : Capture) : Capture :=
  let writes := lineWrites k addr bytes
  { c.setPlace k (some { p with cond := .emitted, unsent := writes.length }) with
    lumaWaiting := c.lumaWaiting ++ writes }

/-- R65: the place of line `y`, once all its writes are granted, is freed. -/
def Capture.freeNeighbour (y : Nat) (c : Capture) : Capture :=
  match c.placeOf y with
  | none => c
  | some k =>
    match c.places.getD k none with
    | some p => if p.cond = .neighbour then c.setPlace k none else c
    | none => c

/-- The enhanced bytes of line `y` from the raw lines in the buffer (R65, R70 to R75). -/
def Capture.enhanced (g : CapGeom) (y : Nat) (mid : List Byte) (c : Capture) : List Byte :=
  let raw := fun n => ((c.line? n).map (·.raw)).getD mid
  let up := if y = 0 then mid else raw (y - 1)
  let down := if y + 1 = g.h then mid else raw (y + 1)
  let columns := if c.frameLevelling = .off then none
    else some ((List.range 16).map (columnGain c.gains (g.h / 12) y))
  enhanceLine g.w c.gEff c.cEff (g.w / 16) columns up mid down

/-- The bytes line `y` is written with: enhanced, or as captured in a PLAIN frame (R69). -/
def Capture.lineBytes (g : CapGeom) (y : Nat) (mid : List Byte) (c : Capture) : List Byte :=
  if c.frameKind = .plain then mid else c.enhanced g y mid

/-- R65, R66: line `y` is emitted to the slot at `base`. -/
def Capture.emit (g : CapGeom) (base y : Nat) (c : Capture) : Capture :=
  match c.placeOf y with
  | none => c
  | some k =>
    match c.places.getD k none with
    | none => c
    | some p =>
      let c1 := (c.raiseWrites k (base + y * g.w) (c.lineBytes g y p.raw) p).freeNeighbour (y - 1)
      { c1 with nextEmit := y + 1 }

/-- Line `y` is in the buffer and COMPLETE. -/
def Capture.isComplete (c : Capture) (y : Nat) : Bool :=
  match c.line? y with
  | some p => decide (p.cond = .complete)
  | none => false

/-- R65, R69: the next line may be emitted. -/
def Capture.emitDue (h : Nat) (c : Capture) : Bool :=
  if c.frameKind = .plain ∨ c.nextEmit + 1 = h then c.isComplete c.nextEmit else c.isComplete (c.nextEmit + 1)

/-- Emits the lines that are due, at most `fuel`. -/
def Capture.emitAll (g : CapGeom) (base : Nat) : Nat → Capture → Capture
  | 0, c => c
  | fuel + 1, c => if c.emitDue g.h then Capture.emitAll g base fuel (c.emit g base c.nextEmit) else c

/-- The condition of a line that holds `n` of its `w` bytes. -/
def lineCond (w n : Nat) : LineCond := if n < w then .receiving else .complete

/-- R65: bytes of line `y` enter its place, which is taken for the line's first byte. -/
def Capture.addToLine (w y : Nat) (bytes : List Byte) (c : Capture) : Capture :=
  match c.placeOf y with
  | some k =>
    match c.places.getD k none with
    | some p =>
      let raw := p.raw ++ bytes
      c.setPlace k (some { p with raw := raw, cond := lineCond w raw.length })
    | none => c
  | none =>
    match c.freePlace with
    | some k => c.setPlace k (some ⟨y, false, lineCond w bytes.length, bytes, 0⟩)
    | none => c

/-- R59, R65: in-order luma from plane offset `off` enters the buffer line by line, and each line that becomes COMPLETE
emits what it makes due. -/
def Capture.acceptLuma (g : CapGeom) (base : Nat) : Nat → Nat → List Byte → Capture → Capture
  | 0, _, _, c => c
  | fuel + 1, off, data, c =>
    if data.isEmpty then c
    else
      let n := min data.length (g.w - off % g.w)
      Capture.acceptLuma g base fuel (off + n) (data.drop n)
        ((c.addToLine g.w (off / g.w) (data.take n)).emitAll g base 2)

/-- R69: line `y`, RECEIVING or COMPLETE, is emitted as captured. -/
def Capture.flushLine (w base y : Nat) (c : Capture) : Capture :=
  match c.placeOf y with
  | none => c
  | some k =>
    match c.places.getD k none with
    | none => c
    | some p => if p.cond = .receiving ∨ p.cond = .complete then c.raiseWrites k (base + y * w) p.raw p else c

/-- R69: the buffer changes mode: NEIGHBOUR places are freed, RECEIVING and COMPLETE lines emitted as captured, in
line order (log 32). -/
def Capture.flush (w base : Nat) (c : Capture) : Capture :=
  let c1 := { c with places := c.places.map fun
    | some p => if p.cond = .neighbour then none else some p
    | none => none }
  ((List.range Config.linePlaces).map (c.nextEmit + ·)).foldl (fun c y => c.flushLine w base y) c1

/-- R69: the luma bytes of one write of a frame whose order broke take a free place and are raised at once. -/
def Capture.addUnit (w base off : Nat) (bytes : List Byte) (c : Capture) : Capture :=
  match c.freePlace with
  | some k => if bytes.isEmpty then c else
    { c.setPlace k (some ⟨off / w, true, .emitted, bytes, 1⟩) with
      lumaWaiting := c.lumaWaiting ++ [⟨base + off, bytes, k⟩] }
  | none => c

/-- R65, R69: a class C write from place `k` is granted. -/
def Capture.lumaGranted (k : Nat) (c : Capture) : Capture :=
  match c.places.getD k none with
  | none => c
  | some p =>
    if 1 < p.unsent then c.setPlace k (some { p with unsent := p.unsent - 1 })
    else if p.unit || c.broken || decide (c.frameKind = .plain) || decide (p.line + 1 < c.nextEmit)
        || decide (p.line + 1 = (c.geom.map (·.h)).getD 0) then c.setPlace k none
    else c.setPlace k (some { p with unsent := 0, cond := .neighbour })

/-! ### Frame ends (R62 to R64) -/

/-- A redirected chroma write has no downstream response yet. The response counts as returned when it comes from
downstream, not when it is relayed upstream behind earlier ones (DESIGN CHOICE, log 42). -/
def State.chromaOut (s : State) : Bool := s.path.fwd.any fun e => e.chroma && e.resp.isNone

/-- A capture frame end: the governor samples, the copy engine counts it (R152), and the status record is rewritten
(log 12). -/
def State.captureFrameEnd (die : Int) (s : State) : State := ((s.sampleDie die).copyFrameEnd).requestStatus

/-- R77. -/
def State.updateWhiteMap (s : State) : State :=
  if s.cap.degraded || decide (s.cap.frameLevelling = .hold) then s
  else s.onCap fun c => { c with whiteMap := updateWhites c.whiteMap c.whites }

/-- The width and height captured; 0 when not configured. -/
def Capture.size (c : Capture) : Nat × Nat :=
  match c.geom with
  | some g => (g.w, g.h)
  | none => (0, 0)

/-- R78: the signature of the frame that ends. -/
def Capture.signature (c : Capture) : Signature :=
  ⟨tileMeans c.size.1 c.size.2 c.sums, c.frameNo, if c.dropped then none else c.slot⟩

/-- R78: an evaluated frame's signature goes to the Page Monitor. -/
def State.giveSignature (s : State) : State :=
  if s.cap.degraded then s else s.receiveSignature s.cap.signature

/-- R62, R64: what the end of a completed or dropped frame does after the slot's completion, in its order. -/
def State.frameEnded (die : Int) (s : State) : State :=
  ((s.updateWhiteMap.giveSignature).captureFrameEnd die).onCap fun c => { c with tracker := .none, slot := none }

/-- R60, R79: the frame is degraded, once. -/
def State.degradeFrame (s : State) : State :=
  if s.cap.degraded then s
  else ((s.onCap fun c => { c with degraded := true, degradedCount := c.degradedCount + 1 }).raise
    .frameDegraded).onSlots SlotTable.degrade

/-! ### Tears (R63) and stops (R55) -/

/-- R63: the frame is torn: its slot becomes FREE and its lines not granted are discarded. -/
def State.tearFrame (s : State) : State :=
  (s.onSlots SlotTable.tear).onCap fun c =>
    { c with places := freePlaces, lumaWaiting := [], slot := none, tearing := true }

/-- R63: every response of the torn frame's writes has returned; a chroma response that waits to be relayed has
(log 42). -/
def State.tearSettled (s : State) : Bool := s.cap.lumaFlight.isEmpty && !s.chromaOut

/-- R63: the tear has finished; it counts as a capture frame end. -/
def State.tearEnded (die : Int) (s : State) : State :=
  (s.onCap fun c => { c with tearing := false, tracker := .none }).captureFrameEnd die

/-- R55: capture becomes STOPPED, and STOP_CAPTURE is answered, the status record requested before the directive's status
write (DESIGN CHOICE, log 41). -/
def State.finishStop (s : State) : State :=
  (((s.onCap fun c => { c with running := false, tracker := .none, stopping := false, live := c.staged }).monitorStop).requestStatus).answerAccepted
    3 .done

/-- The stop that waited for the frame's end proceeds. -/
def State.finishStopping (s : State) : State := if s.cap.stopping then s.finishStop else s

/-! ### Capture writes (R58 to R61) -/

/-- The luma bytes of a write at window offset `off` (R59). -/
def CapGeom.lumaPart (g : CapGeom) (off : Nat) (data : List Byte) : List Byte := data.take (g.w * g.h - off)

/-- The chroma bytes of a write at window offset `off` (R59). -/
def CapGeom.chromaPart (g : CapGeom) (off : Nat) (data : List Byte) : List Byte := data.drop (g.w * g.h - off)

/-- The luma lines a write touches. -/
def CapGeom.linesOf (g : CapGeom) (off n : Nat) : List Nat :=
  if n = 0 then [] else (List.range ((off + n - 1) / g.w + 1)).drop (off / g.w)

/-- R67: the line buffer accepts `n` luma bytes in order from `off`. -/
def Capture.acceptsLines (g : CapGeom) (off n : Nat) (c : Capture) : Bool :=
  decide (((g.linesOf off n).filter fun y => (c.placeOf y).isNone).length ≤ c.freeCount)

/-- R67, R1: a write in RECEIVING, not at offset 0, is accepted. Once its order has broken, and for the write that
breaks it, luma needs one free place (logs 18, 19); chroma needs room in the forwarding queue. -/
def State.acceptsWrite (g : CapGeom) (off : Nat) (data : List Byte) (s : State) : Bool :=
  s.cap.dropped
    || ((if s.cap.broken = false ∧ off = s.cap.expected then
          s.cap.acceptsLines g off (g.lumaPart off data).length
        else (g.lumaPart off data).isEmpty || s.cap.freePlace.isSome)
      && ((g.chromaPart off data).isEmpty || s.hasRoom .write))

/-- The slot address of the frame in progress. -/
def State.frameBase (s : State) : Nat :=
  match s.cap.slot with
  | some k => s.slotAddr k
  | none => 0

/-- R60: the order of the frame breaks, once. -/
def State.breakOrder (g : CapGeom) (s : State) : State :=
  if s.cap.broken then s
  else
    let s1 := (s.onCap fun c => { c with broken := true }).degradeFrame
    if s.cap.dropped then s1 else s1.onCap (·.flush g.w s.frameBase)

/-- R76: luma bytes are fed to the tile accumulators unless the order broke. -/
def Capture.feedTiles (g : CapGeom) (off : Nat) (luma : List Byte) (c : Capture) : Capture :=
  if c.broken then c
  else
    let t := Tiles.feed g.w g.h (luma.length / 4) off luma ⟨c.sums, c.whites⟩
    { c with sums := t.sums, whites := t.whites }

/-- R59, R69: luma of a stored frame enters the line buffer. -/
def Capture.storeLuma (g : CapGeom) (base off : Nat) (luma : List Byte) (c : Capture) : Capture :=
  if c.broken then c.addUnit g.w base off luma else c.acceptLuma g base luma.length off luma

/-- R7, R59: chroma is redirected to the same offset of the FILLING slot. -/
def State.redirectChroma (t : Txn) (addr : Nat) (chroma : List Byte) (s : State) : State :=
  s.onPath fun p => { p with fwd := p.fwd ++
    [⟨t.id, .write, addr, chroma.length, chroma, true, [], false, none⟩] }

/-- R59: a write without chroma, or of a dropped frame, is answered OKAY as it is accepted; chroma is redirected and
its response answers the write. -/
def State.answerWrite (t : Txn) (g : CapGeom) (off : Nat) (s : State) : State :=
  let chroma := g.chromaPart off t.data
  if s.cap.dropped || chroma.isEmpty then s.respond ⟨t.id, .write, .okay, []⟩
  else s.redirectChroma t (s.frameBase + max off (g.w * g.h)) chroma

/-- R62, R64: a write that ends at the frame's last chroma byte ends receipt. -/
def State.receiptEnd (g : CapGeom) (endOff : Nat) (die : Int) (s : State) : State :=
  if endOff = frameBytes g.w g.h then
    if s.cap.dropped then s.frameEnded die else s.onCap fun c => { c with tracker := .draining }
  else s

/-- R59, R60, R64: a write of the frame in progress is handled. -/
def State.frameWrite (t : Txn) (g : CapGeom) (off : Nat) (die : Int) (s : State) : State :=
  let s1 := if off = s.cap.expected then s else s.breakOrder g
  let luma := g.lumaPart off t.data
  let s2 := s1.onCap fun c =>
    let c1 := c.feedTiles g off luma
    { (if c1.dropped then c1 else c1.storeLuma g s.frameBase off luma) with expected := off + t.len }
  (s2.answerWrite t g off).receiptEnd g (off + t.len) die

/-- R61: a write that belongs to no frame. -/
def State.strayWrite (t : Txn) (s : State) : State :=
  (s.respond ⟨t.id, .write, .okay, []⟩).raise .strayAccess

/-- R58: the frame start, in its order. -/
def State.startFrame (s : State) : State :=
  let s1 := s.onCap fun c => { c with
    frameNo := c.frameNo + 1, live := c.staged, frameLevelling := c.staged.levelling,
    frameKind := kindAtStart s.mon.state s.gov.state, gEff := effGain s.gov.state c.staged.gain,
    cEff := effCoring s.gov.state c.staged.coring, gains := c.whiteMap.map (tileGain c.staged.darkFloor),
    sums := List.replicate Config.tiles 0, whites := List.replicate Config.tiles 0, broken := false,
    degraded := false, places := freePlaces, nextEmit := 0 }
  s1.fillRequest.onCap fun c => { c with tracker := .receiving, expected := 0 }

/-! ### Meanings of the capture writes -/

/-- CAPTURE_WRITE (R59 to R61, R64, R67) when R4 gives the write to the enhancer at offset `off`, not 0. While a tear
is in progress and the window entry stands, a capture write waits (log 17). -/
def State.captureWrite (t : Txn) (g : CapGeom) (off : Nat) (die : Int) (s : State) : State :=
  if s.cap.tearing then s.holdUntaken t
  else match s.cap.tracker with
    | .receiving => s.present t (s.acceptsWrite g off t.data) (·.frameWrite t g off die)
    | .none => s.present t true (·.strayWrite t)
    | .draining => s.present t true (·.strayWrite t)

def execCaptureWrite (t : Txn) (die : Int) (s : State) : Host.Outcome State Fault Refusal :=
  if t.legal && decide (t.dir = .write) then
    .next (match s.classify t, s.cap.geom with
      | .enhancer off, some g => if off = 0 then s.holdUntaken t else s.captureWrite t g off die
      | _, _ => s.otherwise t)
  else .refused .illegalTransaction

/-- FRAME_START (R58): in RECEIVING the frame in progress is torn first, and the start is taken once the tear has
finished; in DRAINING it waits (R67). -/
def State.frameStart (t : Txn) (g : CapGeom) (die : Int) (s : State) : State :=
  if s.cap.tearing then s.holdUntaken t
  else match s.cap.tracker with
    | .none => s.present t true fun s => s.startFrame.frameWrite t g 0 die
    | .draining => s.holdUntaken t
    | .receiving =>
      if s.isNext t then
        let s1 := s.tearFrame
        if s1.tearSettled then ((s1.tearEnded die).leaveUntaken t).startFrame.frameWrite t g 0 die
        else s1.holdUntaken t
      else s.holdUntaken t

def execFrameStart (t : Txn) (die : Int) (s : State) : Host.Outcome State Fault Refusal :=
  if t.legal && decide (t.dir = .write) then
    .next (match s.classify t, s.cap.geom with
      | .enhancer off, some g => if off = 0 then s.frameStart t g die else s.holdUntaken t
      | _, _ => s.otherwise t)
  else .refused .illegalTransaction

/-- TEAR_FINISHED (R63): due when every response of the torn frame has returned (log 1); the stop or the RESTART that
waited proceeds. A tear that outlasts a RESTART is sampled here as any other, with capture already STOPPED (DESIGN CHOICE,
log 48). -/
def execTearFinished (die : Int) (s : State) : Host.Outcome State Fault Refusal :=
  s.unlessHalted fun s =>
    if s.cap.tearing && s.tearSettled then ((s.tearEnded die).finishStopping).finishRestart else s

/-- R62: every luma and chroma write of the draining frame has its response. -/
def State.completionDue (s : State) : Bool :=
  decide (s.cap.tracker = .draining) && s.cap.lumaWaiting.isEmpty && s.cap.lumaFlight.isEmpty && !s.chromaOut

/-- FRAME_COMPLETION (R62): due when the draining frame has all its responses (log 1). -/
def execFrameCompletion (die : Int) (s : State) : Host.Outcome State Fault Refusal :=
  s.unlessHalted fun s =>
    if s.completionDue then ((s.onSlots SlotTable.complete).frameEnded die).finishStopping else s

/-- R79: an ERROR on a class C write of the frame in progress. -/
def State.lumaError (addr : Nat) (s : State) : State :=
  if s.cap.tearing then s
  else (s.logFault .captureWrite .enhancer addr s.cap.frameNo
    (match s.cap.slot with
      | some k => .slot k
      | none => .none)).degradeFrame

/-- LUMA_WRITE_RESPONSE (R79, R63). -/
def execLumaWriteResponse (addr : Nat) (r : Resp) (s : State) : Host.Outcome State Fault Refusal :=
  s.unlessHalted fun s =>
    match s.cap.lumaFlight.find? fun w => decide (w.addr = addr) with
    | none => s
    | some w =>
      let s1 := s.onCap fun c => { c with lumaFlight := c.lumaFlight.erase w }
      if r = .error then s1.lumaError addr else s1

/-! ### Directives -/

/-- R53, R31, R140: the RANGE conditions of CONFIGURE_CAPTURE. -/
def State.captureRangeBad (g : CapGeom) (region : Region) (s : State) : Bool :=
  decide (g.w < 640 ∨ 4096 < g.w ∨ g.w % 64 ≠ 0) || decide (g.h < 480 ∨ 3072 < g.h ∨ g.h % 48 ≠ 0)
    || decide (g.base % 4096 ≠ 0) || !g.window.inSpace || g.window.overlaps s.controlPage
    || g.window.overlaps? s.outA.window? || g.window.overlaps? s.outB.window? || g.window.overlaps? s.store?
    || decide (region.base % 4096 ≠ 0) || !region.inSpace || region.overlaps s.controlPage
    || region.overlaps g.window || region.overlaps? s.outA.window? || region.overlaps? s.outB.window?
    || region.overlaps? s.store?
    || (decide (s.store.state ≠ .closed)
        && decide ((s.store.geom.map (·.entrySize)).getD 0 < frameSize g.w g.h))

/-- R32, R53: CONFIGURE_CAPTURE is taken. -/
def State.takeConfigure (g : CapGeom) (slotBase : Nat) (s : State) : State :=
  (s.onCap fun c => { c with
      geom := some g, whiteMap := List.replicate Config.tiles 235, gains := List.replicate Config.tiles 256,
      sums := List.replicate Config.tiles 0, whites := List.replicate Config.tiles 0 }).onSlots fun t =>
    { t.cleared with geom := some ⟨slotBase, g.w, g.h, frameSize g.w g.h⟩ }

/-- CONFIGURE_CAPTURE (R53, R31, R32, R140). -/
def execConfigureCapture (w h : BitVec 16) (window region : BitVec 64) (s : State) :
    Host.Outcome State Fault Refusal :=
  s.unlessHalted fun s =>
    let c := Instr.configureCapture w h window region
    let g : CapGeom := ⟨window.toNat, w.toNat, h.toNat⟩
    match firstRefusal [(s.cap.running || s.slots.slots.any Slot.isHeld, .refusedBusy),
        (s.captureRangeBad g ⟨region.toNat, 6 * frameSize g.w g.h⟩, .refusedRange)] with
    | some st => s.answer c st
    | none => (s.takeConfigure g region.toNat).answer c .done

/-- START_CAPTURE (R54). The status record is requested before the directive's status write (DESIGN CHOICE, log 41). -/
def execStartCapture (s : State) : Host.Outcome State Fault Refusal :=
  s.unlessHalted fun s =>
    match firstRefusal [(s.cap.geom.isNone || s.cap.running, .refusedState)] with
    | some st => s.answer .startCapture st
    | none =>
      (((s.onCap fun c => { c with running := true, tracker := .none }).monitorStart).requestStatus).answer
        .startCapture .done

/-- R55: STOP_CAPTURE is taken, by the position tracker's state. A DRAINING frame completes and is evaluated (R55, R85),
where R40 has the stop tear the FILLING slot whenever there is one (DEDUCED, log 50). -/
def State.takeStop (die : Int) (s : State) : State :=
  if s.cap.tearing then s.onCap fun c => { c with stopping := true }
  else match s.cap.tracker with
    | .none => s.finishStop
    | .draining => s.onCap fun c => { c with stopping := true }
    | .receiving =>
      let s1 := s.tearFrame
      if s1.tearSettled then (s1.tearEnded die).finishStop else s1.onCap fun c => { c with stopping := true }

/-- STOP_CAPTURE (R55): answered once capture is STOPPED. -/
def execStopCapture (die : Int) (s : State) : Host.Outcome State Fault Refusal :=
  s.unlessHalted fun s =>
    match firstRefusal [(!s.cap.running, .refusedState)] with
    | some st => s.answer (.stopCapture die) st
    | none => (s.accept (.stopCapture die)).takeStop die

/-- The levelling mode of a directive's byte (R187): 0 OFF, 1 ON, 2 HOLD. -/
def levellingOf (v : BitVec 8) : Levelling := if v = 0 then .off else if v = 1 then .on else .hold

/-- SET_ENHANCE (R56). -/
def execSetEnhance (gain coring levelling darkFloor : BitVec 8) (s : State) : Host.Outcome State Fault Refusal :=
  s.unlessHalted fun s =>
    let c := Instr.setEnhance gain coring levelling darkFloor
    match firstRefusal [(decide (2 < levelling.toNat), .refusedRange)] with
    | some st => s.answer c st
    | none =>
      let n : Settings :=
        { gain := clamp 0 64 gain.toNat, coring := clamp 0 31 coring.toNat, levelling := levellingOf levelling,
          darkFloor := clamp 32 128 darkFloor.toNat }
      let clamped := decide (n.gain ≠ gain.toNat ∨ n.coring ≠ coring.toNat ∨ n.darkFloor ≠ darkFloor.toNat)
      (s.onCap fun c => { c with staged := n, live := if c.running then c.live else n }).answer c (doneOr clamped)

/-! ### RESTART (R82) -/

/-- R81, R82: the values RESTART gives the enhancer: those of RESET_N but for the configuration, the frame number and
the degraded count; class C writes already granted still have their responses to come. -/
def Capture.restart (tearing : Bool) (c : Capture) : Capture :=
  { Capture.reset with
    geom := c.geom, frameNo := c.frameNo, degradedCount := c.degradedCount, lumaFlight := c.lumaFlight,
    tearing := tearing }

/-- R82: a frame RECEIVING or DRAINING is torn; the status record is rewritten when capture was RUNNING. With responses of
the torn frame still out, capture is STOPPED, its window entry gone and the defaults taken in this step all the same; only
the restart's report, and so the DONE, waits for the tear (DESIGN CHOICE, log 48). The status record for STOPPED is requested
before the notice record that the sample of a tear that ends at once may bring (DESIGN CHOICE, log 47). -/
def State.captureRestart (die : Int) (s : State) : State :=
  let active := s.cap.tearing || decide (s.cap.tracker ≠ .none)
  let s1 := (s.onSlots fun t => if active then t.tear else t).onCap (·.restart active)
  let s2 := if s.cap.running then s1.requestStatus else s1
  if active && s2.tearSettled then s2.tearEnded die else s2

end Sys2Proof.Machine
end

