-- ==== Sys2Proof/Machine/Arbiter.lean ====
section
/-! DEFINITION. The downstream arbiter (01 section 1.6): five classes, luma pressure, the class E loss count, and what a
grant does to the block whose transaction it issues. -/

namespace Sys2Proof.Machine

/-- The requester classes; class A with the engine granted. -/
inductive GrantClass where
  | a (x : OutId)
  | b
  | c
  | d
  | e
  deriving DecidableEq, Repr

/-- R12: the engine class A would grant: with both waiting, the one the last class A grant did not go to. -/
def State.nextClassA (s : State) : Option OutId :=
  match s.outA.fetchWaiting, s.outB.fetchWaiting with
  | [], [] => none
  | _ :: _, [] => some .a
  | [], _ :: _ => some .b
  | _ :: _, _ :: _ => some (otherOut s.path.lastA)

/-- Class B has a transaction waiting. -/
def State.waitsB (s : State) : Bool := s.path.fwd.any fun e => !e.granted

/-- Class E has a transaction waiting. -/
def State.waitsE (s : State) : Bool := !s.store.engine.waiting.isEmpty

/-- The class, when it has something waiting. -/
def State.offerA (s : State) : Option GrantClass := s.nextClassA.map .a
def State.offerB (s : State) : Option GrantClass := if s.waitsB then some .b else none
def State.offerC (s : State) : Option GrantClass := if s.cap.lumaWaiting.isEmpty then none else some .c
def State.offerD (s : State) : Option GrantClass := if s.recs.waiting.isEmpty then none else some .d
def State.offerE (s : State) : Option GrantClass := if s.waitsE then some .e else none

/-- R13: class C goes ahead of class B. -/
def State.lumaPressed (s : State) : Bool := decide (Config.lumaPressure ≤ s.cap.emittedLines)

/-- R14: the loss count makes the next grant class E's. -/
def State.lossDue (s : State) : Bool := s.waitsE && decide (Config.lossLimit ≤ s.path.lossCount)

/-- R12, R13: the classes in their order at this grant. -/
def State.classOrder (s : State) : List (Option GrantClass) :=
  if s.lumaPressed then [s.offerA, s.offerC, s.offerB, s.offerD, s.offerE]
  else [s.offerA, s.offerB, s.offerC, s.offerD, s.offerE]

/-- R12 to R14, R16: the class the arbiter grants; class B alone while HALTED. -/
def State.chooseGrant (s : State) : Option GrantClass :=
  if s.notice.halted then s.offerB
  else if s.lossDue then some .e
  else s.classOrder.findSome? id

/-- R14: the loss count after a grant to class `k`. -/
def State.lossAfter (k : GrantClass) (s : State) : Nat :=
  if k = .e then 0 else if s.waitsE then min (s.path.lossCount + 1) Config.lossLimit else 0

/-- The first waiting fetch of an engine is issued. -/
def Engine.grantFetch (e : Engine) : Engine :=
  { e with fetchWaiting := e.fetchWaiting.drop 1, fetchFlight := e.fetchFlight ++ e.fetchWaiting.take 1 }

/-- The first entry of the forwarding queue that waits is issued. -/
def grantFirst : List FwdEntry → List FwdEntry
  | [] => []
  | e :: rest => if e.granted then e :: grantFirst rest else { e with granted := true } :: rest

/-- The first waiting luma write is issued, and its line buffer place hears of it (R65). -/
def Capture.grantLuma (c : Capture) : Capture :=
  match c.lumaWaiting with
  | [] => c
  | w :: rest => ({ c with lumaWaiting := rest, lumaFlight := c.lumaFlight ++ [w] }).lumaGranted w.place

/-- R178, R186: class D work as it is issued: a record takes its content now. -/
def RecWork.issued (s : State) : RecWork → RecFlight
  | .record t => .write t (recordAddr s t) (recordContent s t)
  | .given t data => .write t (recordAddr s t) data
  | .closed t addr data => .write t addr data
  | .fetch addr => .fetch addr
  | .resume addr len => .resume addr len

/-- The first waiting class D work is issued. -/
def State.grantRecord (s : State) : State :=
  match s.recs.waiting with
  | [] => s
  | w :: rest => s.onRecs fun r => { waiting := rest, flight := r.flight ++ [w.issued s] }

/-- The first waiting class E transaction is issued. -/
def CopyEngine.grantChunk (e : CopyEngine) : CopyEngine :=
  { e with waiting := e.waiting.drop 1, flight := e.flight ++ e.waiting.take 1 }

/-- The block's side of a grant to class `k`. -/
def State.issue (k : GrantClass) (s : State) : State :=
  match k with
  | .a x => (s.onOut x Engine.grantFetch).onPath fun p => { p with lastA := x }
  | .b => s.onPath fun p => { p with fwd := grantFirst p.fwd }
  | .c => s.onCap Capture.grantLuma
  | .d => s.grantRecord
  | .e => s.onStore (·.onEngine CopyEngine.grantChunk)

/-- A grant to class `k`, with the loss count it leaves. While HALTED the loss count keeps its value (R16). -/
def State.grant (k : GrantClass) (s : State) : State :=
  (s.issue k).onPath fun p => { p with lossCount := if s.notice.halted then p.lossCount else s.lossAfter k }

/-- DOWNSTREAM_GRANT (R12 to R14, R16): when nothing waits no grant is made. -/
def execDownstreamGrant (s : State) : Host.Outcome State Fault Refusal :=
  .next (match s.chooseGrant with
    | some k => s.grant k
    | none => s)

/-- LOSS_COUNT_GRANT (R14): due when the loss count stands at 32 and class E waits (log 1). -/
def execLossCountGrant (s : State) : Host.Outcome State Fault Refusal :=
  s.unlessHalted fun s => if s.lossDue then s.grant .e else s

end Sys2Proof.Machine
end

