-- ==== Sys2Proof/Machine/Notice.lean ====
section
/-! DEFINITION. The Notice Unit (09 section 9.2): observed reads, acknowledges and SET_NOTICE. -/

namespace Sys2Proof.Machine

/-- A flight is a write of the notice record. -/
def RecFlight.isNotice : RecFlight → Bool
  | .write .notice _ _ => true
  | _ => false

/-- R175: a write of the notice record is outstanding. -/
def RecordWriter.noticeOutstanding (w : RecordWriter) : Bool :=
  w.waiting.contains (.record .notice) || w.flight.any RecFlight.isNotice

/-- R176: an acknowledge mask. -/
def State.acknowledge (v : BitVec 32) (s : State) : State :=
  let mask := v.setWidth 16
  if s.notice.pending &&& mask = 0 then s
  else (s.onNotice fun n => { n with pending := n.pending &&& ~~~mask }).request .notice

/-- R175: an observed read of the notice record. -/
def State.noticeReadSeen (s : State) : State :=
  if s.recs.noticeOutstanding then s else s.onNotice fun n => { n with seen := true }

/-- SET_NOTICE (R177). -/
def execSetNotice (threshold : BitVec 8) (setMask clearMask : BitVec 16) (s : State) :
    Host.Outcome State Fault Refusal :=
  s.unlessHalted fun s =>
    let t := clamp 0 7 threshold.toNat
    ((s.onNotice fun n =>
        { n with enable := (n.enable ||| setMask) &&& ~~~clearMask, threshold := t }).request .notice).answer
      (.setNotice threshold setMask clearMask) (doneOr (decide (t ≠ threshold.toNat)))

end Sys2Proof.Machine
end

