-- ==== Sys2Proof/Machine/Ring.lean ====
section
/-! DEFINITION. The Directive Unit (chapter 2): submit values, fetches, dispatch, retirement; and the responses of record
writes with their error latches and the double fault (R182, R183). -/

namespace Sys2Proof.Machine

/-- R22: the fetch of the record at head is raised, and the record in flight becomes head. -/
def State.raiseFetch (s : State) : State :=
  (s.onRing fun r => { r with state := .fetching, flight := some ⟨r.head, .fetch⟩ }).onRecs
    (·.raiseWork (.fetch (s.path.cpBase + s.ring.head * 32)))

/-! ### Submit values (R20, R21) -/

/-- R20, R21: a submit value is refused: the ring error count increases, stopping at 65535. -/
def State.refuseSubmit (s : State) : State :=
  (s.onRing fun r => { r with errors := min (r.errors + 1) 65535 }).requestStatus

/-- The index of the record in flight. -/
def Ring.flightIndex (r : Ring) : Option Nat := r.flight.map (·.index)

/-- R20, R21: a submit value reaches the Directive Unit. -/
def State.takeSubmit (v : Nat) (s : State) : State :=
  if Config.ringRecords ≤ v then s.refuseSubmit
  else match s.ring.state with
    | .idle =>
      let s1 := s.onRing fun r => { r with tail := v }
      if v = s.ring.head then s1 else s1.raiseFetch
    | .fetching =>
      if s.ring.flightIndex = some v then s.refuseSubmit else s.onRing fun r => { r with tail := v }
    | .stalled =>
      let s1 := s.onRing fun r => { r with tail := v }
      if v = s.ring.head then (s1.onRing fun r => { r with state := .idle }).request .head else s1.raiseFetch

/-! ### Fetches (R22, R26) -/

/-- The directive fetch in flight. -/
def RecordWriter.fetchInFlight (w : RecordWriter) : Option Nat :=
  w.flight.findSome? fun
    | .fetch a => some a
    | _ => none

/-- R26: the fetch failed. -/
def State.fetchFailed (addr : Nat) (s : State) : State :=
  ((s.logFault .ringRead .directive addr s.cap.frameNo .none).onRing fun r =>
    { r with state := .stalled, flight := none }).request .head

/-- R22, R23: the record fetched is dispatched; its directive is the next command (log 8). -/
def State.dispatch (data : List Byte) (s : State) : State :=
  s.onRing fun r => { r with flight := r.flight.map fun f => { f with phase := .dispatched data } }

/-- DIRECTIVE_FETCH_RESPONSE (R22, R26). -/
def execDirectiveFetchResponse (r : Resp) (data : List Byte) (s : State) : Host.Outcome State Fault Refusal :=
  match s.recs.fetchInFlight with
  | none => .next s
  | some addr =>
    if r = .okay ∧ data.length ≠ 32 then .refused .malformedResponse
    else s.unlessHalted fun s =>
      let s1 := s.onRecs fun w => { w with flight := w.flight.erase (.fetch addr) }
      match r with
      | .okay => s1.dispatch data
      | .error => s1.fetchFailed addr

/-- UNKNOWN_DIRECTIVE_TYPE (R23): answered REFUSED_FORMAT by the Directive Unit itself. -/
def execUnknownDirectiveType (ty : BitVec 8) (s : State) : Host.Outcome State Fault Refusal :=
  if knownType ty then .refused .knownDirectiveType
  else s.unlessHalted fun s => s.answer (.unknownDirectiveType ty) .refusedFormat

/-! ### Retirement (R24) -/

/-- The notify flag of a record (R187). -/
def notifies (rec : List Byte) : Bool := (byteAt rec 1).getLsbD 0

/-- R24: record `i` is retired: head advances, the Head unit is written, DIRECTIVE_DONE is raised under notify, and the
ring becomes IDLE or raises the next fetch. -/
def State.retire (i : Nat) (rec : List Byte) (s : State) : State :=
  let next := (i + 1) % Config.ringRecords
  let s1 := (s.onRing fun r => { r with head := next, flight := none }).request .head
  let s2 := if notifies rec then s1.raise .directiveDone else s1
  if next = s.ring.tail then s2.onRing fun r => { r with state := .idle } else s2.raiseFetch

/-- R24: the response of record `i`'s status write retires it. -/
def State.statusWriteReturned (i : Nat) (s : State) : State :=
  match s.ring.flight with
  | some ⟨j, .answered rec⟩ => if j = i then s.retire i rec else s
  | _ => s

/-! ### Record write responses (R182, R183) -/

/-- The six write error latches. -/
inductive LatchId where
  | status
  | notice
  | head
  | signature
  | directive
  | store
  deriving DecidableEq, Repr

def Latches.get (l : Latches) : LatchId → Bool
  | .status => l.status
  | .notice => l.notice
  | .head => l.head
  | .signature => l.signature
  | .directive => l.directive
  | .store => l.store

def Latches.put (k : LatchId) (v : Bool) (l : Latches) : Latches :=
  match k with
  | .status => { l with status := v }
  | .notice => { l with notice := v }
  | .head => { l with head := v }
  | .signature => { l with signature := v }
  | .directive => { l with directive := v }
  | .store => { l with store := v }

/-- The latch of a target; a fault record has none. -/
def Target.latch : Target → Option LatchId
  | .status => some .status
  | .notice => some .notice
  | .head => some .head
  | .signature => some .signature
  | .directive _ => some .directive
  | .header => some .store
  | .catalog _ => some .store
  | .fault _ => none

/-- R182: the fault kind of a failed write. -/
def LatchId.fault : LatchId → FaultKind
  | .store => .catalogWrite
  | _ => .recordWrite

/-- R182: the latch rule for the write of a latched target at `addr`. -/
def State.latched (k : LatchId) (addr : Nat) (r : Resp) (s : State) : State :=
  match r with
  | .okay => s.onNotice fun n => { n with latches := n.latches.put k false }
  | .error =>
    if s.notice.latches.get k then s
    else (s.onNotice fun n => { n with latches := n.latches.put k true }).logFault k.fault .notice addr
      s.cap.frameNo .none

/-- R182, R183: the response of a write of target `t` at `addr`. On an ERROR of a status write the fault is logged
before the record is retired (DESIGN CHOICE, log 35). -/
def State.writeReturned (t : Target) (addr : Nat) (r : Resp) (s : State) : State :=
  match t.latch with
  | none => if r = .error then s.enterHalted else s
  | some k =>
    let s1 := s.latched k addr r
    match t with
    | .directive i => s1.statusWriteReturned i
    | _ => s1

/-- The record write in flight is one at `addr`. -/
def RecFlight.writesAt (addr : Nat) : RecFlight → Bool
  | .write _ a _ => decide (a = addr)
  | _ => false

/-- The record write in flight is a directive status write. -/
def RecFlight.isStatusWrite : RecFlight → Bool
  | .write (.directive _) _ _ => true
  | _ => false

/-- The response of the first record write in flight that `which` names (log 24). -/
def State.recordResponse (which : RecFlight → Bool) (r : Resp) (s : State) : State :=
  match s.recs.flight.find? which with
  | some (.write t addr data) =>
    (s.onRecs fun w => { w with flight := w.flight.erase (.write t addr data) }).writeReturned t addr r
  | _ => s

/-- DIRECTIVE_STATUS_WRITE_RESPONSE (R24, R182). -/
def execDirectiveStatusWriteResponse (r : Resp) (s : State) : Host.Outcome State Fault Refusal :=
  s.unlessHalted (·.recordResponse RecFlight.isStatusWrite r)

/-- RECORD_WRITE_RESPONSE (R182, R183, R24). -/
def execRecordWriteResponse (addr : Nat) (r : Resp) (s : State) : Host.Outcome State Fault Refusal :=
  s.unlessHalted (·.recordResponse (RecFlight.writesAt addr) r)

end Sys2Proof.Machine
end

