-- ==== Sys2Proof/Machine/Observe.lean ====
section
/-! DEFINITION. The observed accesses of the control page (R10, R11): the handing of an observation to its owner, in one
step with the relaying of its response, and the four rows that are such a handing. -/

namespace Sys2Proof.Machine

/-- R10, R11: what the owner makes of an observation: the Directive Unit of a submit value (R20), the Notice Unit of an
acknowledge mask (R176) and of a read of the notice record (R175), the governor of one of the status record (R168). -/
def State.hand (o : Obs) (s : State) : State :=
  match o with
  | .submit v => s.takeSubmit v.toNat
  | .acknowledge v => s.acknowledge v
  | .noticeRead => s.noticeReadSeen
  | .statusRead => s.statusReadSeen

/-- The observations listed are handed over, in order. -/
def State.handEach : List Obs → State → State
  | [], s => s
  | o :: rest, s => State.handEach rest (s.hand o)

/-- R10, R11: every observation of one access is handed over. -/
def State.handAll (obs : List Obs) (s : State) : State :=
  State.handEach obs (s.onPath fun p => { p with handed := p.handed ++ obs })

/-- The access observed for `o` whose OKAY response is the next of direction `d` to be relayed, with the data. -/
def State.observedNext (d : Dir) (o : Obs) (s : State) : Option (FwdEntry × List Byte) :=
  match s.nextRelayed d with
  | none => none
  | some e => match e.resp with
    | some (.okay, data) => if e.obs.contains o then some (e, data) else none
    | _ => none

/-- R10, R11: the access observed for `o` is relayed and what it was observed for is handed over, then the responses
that waited behind it are relayed. Not due (log 1) when the next response of its direction is not that of such an
access, is not there yet, or is ERROR. While HALTED nothing is handed over (R16). -/
def State.relayObserved (d : Dir) (o : Obs) (s : State) : State :=
  match s.observedNext d o with
  | none => s
  | some (e, data) =>
    let s1 := s.relayOne e .okay data
    (if s.notice.halted then s1 else s1.handAll e.obs).relay d s.path.fwd.length

/-- SUBMIT_WORD (R10, R20, R21). -/
def execSubmitWord (v : BitVec 32) (s : State) : Host.Outcome State Fault Refusal :=
  .next (s.relayObserved .write (.submit v))

/-- ACKNOWLEDGE_WORD (R10, R176). -/
def execAcknowledgeWord (v : BitVec 32) (s : State) : Host.Outcome State Fault Refusal :=
  .next (s.relayObserved .write (.acknowledge v))

/-- NOTICE_RECORD_READ (R11, R175). -/
def execNoticeRecordRead (s : State) : Host.Outcome State Fault Refusal :=
  .next (s.relayObserved .read .noticeRead)

/-- STATUS_RECORD_READ (R11, R168). -/
def execStatusRecordRead (s : State) : Host.Outcome State Fault Refusal :=
  .next (s.relayObserved .read .statusRead)

end Sys2Proof.Machine
end

