-- ==== Sys2Proof/Machine/Scaler.lean ====
section
/-! DEFINITION. The output scaler, exact to the last rounding (06 sections 6.4 to 6.7): zoom ramp, step and
origin, source positions, interpolation and the segments of source rows. -/

namespace Sys2Proof.Machine

/-- R117: one step of the zoom ramp. -/
def zoomStep (zt zc r : Nat) : Nat :=
  if r = 0 then zt else if zc < zt then min zt (zc + r) else if zt < zc then max zt (zc - r) else zc

/-- Division rounded up. -/
def ceilDiv (a b : Nat) : Nat := (a + (b - 1)) / b

/-- R119: s0 = max(ceil(Ws × 65536/ow), ceil(Hs × 65536/oh)). -/
def fitStep (ws hs ow oh : Nat) : Nat := max (ceilDiv (ws * 65536) ow) (ceilDiv (hs * 65536) oh)

/-- R119: step = max(4096, floor(s0 × 256/Zc)). -/
def viewStep (s0 zc : Nat) : Nat := max 4096 (s0 * 256 / zc)

/-- The clamp of a signed value. -/
def clampInt (a b v : Int) : Int := if v < a then a else if b < v then b else v

/-- R120: the centre of an axis in 16.16 form: centred is Ws/2 × 65536, which is Ws × 32768 for every Ws. -/
def centrePos (size : Nat) : Option Nat → Nat
  | some c => c * 65536
  | none => size * 32768

/-- R120: the origin of one axis: source size, output size, step, and the centre (`none` is centred). -/
def origin (size out step : Nat) (centre : Option Nat) : Int :=
  let crop : Int := (step * out : Nat)
  let full : Int := (size * 65536 : Nat)
  if full ≤ crop then (full - crop) / 2
  else clampInt 0 (full - crop) ((centrePos size centre : Nat) - crop / 2)

/-- R122: one weighted mean of two bytes. -/
def mixByte (a b f : Nat) : Nat := (a * (256 - f) + b * f + 128) / 256

/-- R122: a pixel from its four samples: the row `j` pair, the second row's pair, and the two fractions. -/
def bilinear (a0 b0 a1 b1 f g : Nat) : Nat := mixByte (mixByte a0 b0 f) (mixByte a1 b1 f) g

/-- A source position is inside an axis of `size` samples (R122, R123). -/
def inside (size : Nat) (p : Int) : Bool := decide (0 ≤ p) && decide (p < (size * 65536 : Nat))

/-- The sample index and the fraction of a position inside the axis (R122). -/
def sampleIndex (p : Int) : Nat := p.toNat / 65536
def fraction (p : Int) : Nat := p.toNat % 65536 / 256

/-- R121: an output position after flip. -/
def turned (flip : Bool) (size pos : Nat) : Nat := if flip then size - 1 - pos else pos

/-- One plane as the scaler sees it: samples a row and rows of the source, output samples a row and output
rows, and the origins of R122 and R123. -/
structure PlaneView where
  width : Nat
  height : Nat
  outWidth : Nat
  outHeight : Nat
  x0 : Int
  y0 : Int
  step : Nat
  flip : Bool
  deriving DecidableEq, Repr

/-- The plane's view of a latched frame, turned as the latch says (R121): luma by R122; chroma pairs by R123, with half
the sizes and origins. -/
def planeView (l : Latch) (g : OutGeom) : Plane → PlaneView
  | .luma => ⟨l.ws, l.hs, g.ow, g.oh, l.x0, l.y0, l.step, l.flip⟩
  | .chroma =>
    ⟨Config.half l.ws, Config.half l.hs, g.ow / 2, g.oh / 2, l.x0 / 2, l.y0 / 2, l.step, l.flip⟩

/-- Source position of output column `c` and of output row `r` (raster order; R121 turns them first). -/
def PlaneView.sx (v : PlaneView) (c : Nat) : Int := v.x0 + (turned v.flip v.outWidth c * v.step : Nat)
def PlaneView.sy (v : PlaneView) (r : Nat) : Int := v.y0 + (turned v.flip v.outHeight r * v.step : Nat)

/-- R125: the columns of an output row that are not black. -/
def PlaneView.columns (v : PlaneView) : List Nat :=
  (List.range v.outWidth).filter fun c => inside v.width (v.sx c)

/-- R125: the source rows output row `r` needs: row j and the row below it, replicated at the edge; none in the
letterbox. -/
def PlaneView.sourceRows (v : PlaneView) (r : Nat) : List Nat :=
  if inside v.height (v.sy r) && !v.columns.isEmpty then
    let j := sampleIndex (v.sy r)
    let j2 := min (j + 1) (v.height - 1)
    if j2 = j then [j] else [j, j2]
  else []

/-- R125: the first sample column and the last second column an output row uses. -/
def PlaneView.span (v : PlaneView) : Nat × Nat :=
  let is := v.columns.map fun c => sampleIndex (v.sx c)
  let lo := is.foldl min (is.headD 0)
  let hi := is.foldl max 0
  (lo, min (hi + 1) (v.width - 1))

/-- R125: the address of source row `j`: luma row at address + j × Ws, chroma line at
address + Ws × Hs + j × Ws. -/
def rowAddr (l : Latch) : Plane → Nat → Nat
  | .luma, j => l.addr + j * l.ws
  | .chroma, j => l.addr + l.ws * l.hs + j * l.ws

/-- R125: the first and one past the last byte of the segment of source row `j`, on 16-byte boundaries; a
pair's bytes are 2i and 2i + 1. -/
def segment (l : Latch) (p : Plane) (v : PlaneView) (j : Nat) : Nat × Nat :=
  let (lo, hi) := v.span
  let first := rowAddr l p j + (match p with
    | .luma => lo
    | .chroma => 2 * lo)
  let last := rowAddr l p j + (match p with
    | .luma => hi
    | .chroma => 2 * hi + 1)
  (first / 16 * 16, (last / 16 + 1) * 16)

/-- The reads that fetch the segment of source row `j` (R125). -/
def segmentReads (l : Latch) (p : Plane) (v : PlaneView) (j : Nat) : List (Nat × Nat) :=
  let (lo, hi) := segment l p v j
  spanOf lo (hi - lo)

/-- Black of a plane (R122). -/
def blackByte : Plane → Byte
  | .luma => 16
  | .chroma => 128

/-- An output row of black bytes. -/
def blackRow (p : Plane) (ow : Nat) : List Byte := List.replicate ow (blackByte p)

/-- The byte at address `a` in the pieces of a segment. -/
def pieceByte (a : Nat) : List Piece → Nat
  | [] => 0
  | ⟨addr, len, .ok data⟩ :: rest =>
    if addr ≤ a ∧ a < addr + len then (data.getD (a - addr) 0).toNat else pieceByte a rest
  | _ :: rest => pieceByte a rest

/-- R122, R123: the byte `b` (0 luma or Cb, 1 Cr) of output column `c` in an output row whose two source rows
are at `at0` and `at1`, with the samples read by `byte`. -/
def outputByte (p : Plane) (v : PlaneView) (byte0 byte1 : Nat → Nat) (g c b : Nat) : Byte :=
  let sx := v.sx c
  if inside v.width sx then
    let i := sampleIndex sx
    let i2 := min (i + 1) (v.width - 1)
    let at' := fun i => match p with
      | .luma => i
      | .chroma => 2 * i + b
    BitVec.ofNat 8 (bilinear (byte0 (at' i)) (byte0 (at' i2)) (byte1 (at' i)) (byte1 (at' i2)) (fraction sx) g)
  else blackByte p

/-- An output row of `ow` bytes from its two source rows, each read by its offset in the row (R122 to R124). -/
def outputRow (p : Plane) (v : PlaneView) (ow r : Nat) (byte0 byte1 : Nat → Nat) : List Byte :=
  let g := fraction (v.sy r)
  (List.range ow).map fun o => match p with
    | .luma => outputByte p v byte0 byte1 g o 0
    | .chroma => outputByte p v byte0 byte1 g (o / 2) (o % 2)

end Sys2Proof.Machine
end

