-- ==== Sys2Proof/Machine/Output.lean ====
section
/-! DEFINITION. The Output Engines' rows (06 sections 6.3 to 6.8): the read queue, the output frame start, the
line cache and its fetches, and the serving of window reads. -/

namespace Sys2Proof.Machine

/-! ### One plane's cache -/

def Engine.cache (e : Engine) : Plane → PlaneCache
  | .luma => e.luma
  | .chroma => e.chroma

def Engine.onCache (p : Plane) (f : PlaneCache → PlaneCache) (e : Engine) : Engine :=
  match p with
  | .luma => { e with luma := f e.luma }
  | .chroma => { e with chroma := f e.chroma }

/-- The place that holds source row `j`. -/
def PlaneCache.place? (c : PlaneCache) (j : Nat) : Option CachePlace := c.places.find? fun p => decide (p.row = j)

/-- R127: the row is FAILED until the next output frame start; the address of its failing refetch read. -/
def PlaneCache.failed? (c : PlaneCache) (j : Nat) : Option Nat :=
  (c.failed.find? fun f => decide (f.1 = j)).map (·.2)

/-- The row buffer that holds output row `r` (R124). -/
def PlaneCache.rowBuffer? (c : PlaneCache) (r : Nat) : Option (List Byte) :=
  match c.current with
  | some b => if b.row = r then some b.bytes else match c.previous with
    | some b' => if b'.row = r then some b'.bytes else none
    | none => none
  | none => none

/-- A computed output row becomes the current row and the former current row the previous one (R124). -/
def PlaneCache.pushRow (r : Nat) (bytes : List Byte) (c : PlaneCache) : PlaneCache :=
  { c with current := some ⟨r, bytes⟩, previous := c.current }

/-- R126: the place a new row may push out: not FETCHING, and needed by no row of `needed`. -/
def CachePlace.evictable (needed : List Nat) (p : CachePlace) : Bool :=
  decide (p.cond ≠ .fetching) && !needed.contains p.row

/-- R126: a new row takes a free place, else the evictable place taken longest ago; `none` when it must wait. -/
def PlaneCache.takePlace (needed : List Nat) (p : CachePlace) (c : PlaneCache) : Option PlaneCache :=
  if c.places.length < Config.cachePlaces then some { c with places := c.places ++ [p] }
  else match c.places.find? (CachePlace.evictable needed) with
    | some old => some { c with places := c.places.erase old ++ [p] }
    | none => none

/-! ### What a row needs -/

/-- The plane's view of the latched frame; `none` when nothing is latched. -/
def Engine.planeView? (e : Engine) (p : Plane) : Option (Latch × OutGeom × PlaneView) :=
  match e.latch, e.geom with
  | some l, some g => some (l, g, planeView l g p)
  | _, _ => none

/-- The source rows output row `r` of plane `p` needs; none when nothing is latched (R122). -/
def Engine.needs (e : Engine) (p : Plane) (r : Nat) : List Nat :=
  match e.planeView? p with
  | some (_, _, v) => v.sourceRows r
  | none => []

/-- Rows of an output plane. -/
def OutGeom.rows (g : OutGeom) : Plane → Nat
  | .luma => g.oh
  | .chroma => g.oh / 2

/-- R126: the output row after row `r` in raster order: the next of the plane, then the first chroma row. -/
def Engine.nextRow (e : Engine) (p : Plane) (r : Nat) : Option (Plane × Nat) :=
  match e.geom with
  | none => none
  | some g =>
    if r + 1 < g.rows p then some (p, r + 1)
    else match p with
      | .luma => some (.chroma, 0)
      | .chroma => none

/-- The source rows of plane `p` that output row `a` needs: none when it is a row of the other plane. -/
def Engine.needsIn (e : Engine) (p : Plane) (a : Plane × Nat) : List Nat :=
  if a.1 = p then e.needs p a.2 else []

/-- The source rows of plane `p` that output row `a` and the next one need (R126): after the last luma row, those of
the first chroma row. -/
def Engine.neededBy (e : Engine) (p : Plane) (a : Plane × Nat) : List Nat :=
  e.needsIn p a ++ (match e.nextRow a.1 a.2 with
    | some b => e.needsIn p b
    | none => [])

/-! ### Which rows a read covers -/

/-- R121: the plane, the output row in raster order and the offset in it of window offset `o`. -/
def OutGeom.locate (g : OutGeom) (o : Nat) : Plane × Nat × Nat :=
  if o < g.ow * g.oh then (.luma, o / g.ow, o % g.ow)
  else (.chroma, (o - g.ow * g.oh) / g.ow, (o - g.ow * g.oh) % g.ow)

/-- R124: the rows a read covers, at most two: those of its first and its last byte. -/
def OutGeom.rowsOf (g : OutGeom) (off len : Nat) : List (Plane × Nat) :=
  let a := g.locate off
  let b := g.locate (off + len - 1)
  if (a.1, a.2.1) = (b.1, b.2.1) then [(a.1, a.2.1)] else [(a.1, a.2.1), (b.1, b.2.1)]

/-- The output row being computed: the first row the head read covers that is in no row buffer; none while the head
read waits for its output frame start (DEDUCED, log 40). -/
def Engine.computing (e : Engine) : Option (Plane × Nat) :=
  match e.queue, e.geom with
  | q :: _, some g =>
    if q.off = 0 ∧ q.started = false then none
    else (g.rowsOf q.off q.len).find? fun a => ((e.cache a.1).rowBuffer? a.2).isNone
  | _, _ => none

/-- The output row the engine is at: the one being computed, else the one computed last (DEDUCED, log 40). -/
def Engine.rowAt (e : Engine) : Option (Plane × Nat) := e.computing.or e.computed

/-- The source rows of plane `p` that may not lose their places now: those the output row the engine is at, or the next
one, needs (R126). -/
def Engine.keepRows (e : Engine) (p : Plane) : List Nat :=
  match e.rowAt with
  | some a => e.neededBy p a
  | none => []

/-! ### Fetches -/

/-- The class A reads of source row `j` (R125). -/
def Engine.rowReads (e : Engine) (p : Plane) (j : Nat) : List (Nat × Nat) :=
  match e.planeView? p with
  | some (l, _, v) => segmentReads l p v j
  | none => []

/-- A place whose segment is being fetched. -/
def fetchingPlace (j : Nat) (k : FetchKind) (reads : List (Nat × Nat)) : CachePlace :=
  ⟨j, .fetching, k, reads.map fun (a, n) => ⟨a, n, .waiting⟩, none⟩

/-- The reads go to class A. -/
def Engine.raiseReads (p : Plane) (j : Nat) (reads : List (Nat × Nat)) (e : Engine) : Engine :=
  { e with fetchWaiting := e.fetchWaiting ++ reads.map fun (a, n) => ⟨a, n, p, j, false⟩ }

/-- A fetch of source row `j` is raised when it gets a place; `none` when it must wait for one (R126). -/
def Engine.tryFetch (p : Plane) (j : Nat) (k : FetchKind) (needed : List Nat) (e : Engine) : Option Engine :=
  let reads := e.rowReads p j
  match (e.cache p).takePlace needed (fetchingPlace j k reads) with
  | some c => some ((e.onCache p fun _ => c).raiseReads p j reads)
  | none => none

/-- R126: a fetch of source row `j` waits for a place. A row waits once: a demand takes over from a prefetch of the
same row (log 40). -/
def PlaneCache.await (j : Nat) (k : FetchKind) (c : PlaneCache) : PlaneCache :=
  let waits := c.waiting.any fun w => decide (w.1 = j)
  match k with
  | .prefetch => if waits then c else { c with waiting := c.waiting ++ [(j, k)] }
  | _ => { c with waiting := (c.waiting.filter fun w => decide (w.1 ≠ j)) ++ [(j, k)] }

/-- R126: a fetch of source row `j` is raised, or waits for a place; nothing when the row has a place or is FAILED. -/
def Engine.fetchRow (p : Plane) (k : FetchKind) (needed : List Nat) (j : Nat) (e : Engine) : Engine :=
  if ((e.cache p).place? j).isSome || ((e.cache p).failed? j).isSome then e
  else match e.tryFetch p j k needed with
    | some e' => e'.onCache p fun c => { c with waiting := c.waiting.filter fun w => decide (w.1 ≠ j) }
    | none => e.onCache p (·.await j k)

/-- R126: a prefetch of source row `j`. -/
def Engine.prefetchRow (p : Plane) (needed : List Nat) (j : Nat) (e : Engine) : Engine :=
  e.fetchRow p .prefetch needed j

/-- R126: the source rows of output row `r` that have no place are prefetched, row j ahead of the row below it (DESIGN
CHOICE, log 51: the spec orders the reads of one segment only). -/
def Engine.prefetchFor (p : Plane) (r : Nat) (needed : List Nat) (e : Engine) : Engine :=
  (e.needs p r).foldl (fun e j => e.prefetchRow p needed j) e

/-- R126: after output row `r` of plane `p` is computed, the next row's source rows are prefetched. -/
def Engine.prefetchAfter (p : Plane) (r : Nat) (e : Engine) : Engine :=
  match e.nextRow p r with
  | some (q, r') => e.prefetchFor q r' (e.neededBy q (p, r))
  | none => e

/-- R126: the fetches that waited for a place, those an output row waits for ahead of the prefetches, each kind in the
order they began to wait (DESIGN CHOICE, log 40). -/
def PlaneCache.waitingInTurn (c : PlaneCache) : List (Nat × FetchKind) :=
  (c.waiting.filter fun w => decide (w.2 ≠ .prefetch)) ++ c.waiting.filter fun w => decide (w.2 = .prefetch)

/-- R126: when a FETCHING place settles, the fetches that waited for a place try again in turn. A prefetch is kept and
raised also when its output row is no longer the next one (DESIGN CHOICE, log 40). -/
def Engine.retryWaiting (p : Plane) (e : Engine) : Engine :=
  (e.cache p).waitingInTurn.foldl (fun e w => e.fetchRow p w.2 (e.keepRows p) w.1)
    (e.onCache p fun c => { c with waiting := [] })

/-- R127: the place's whole segment is fetched once more, as a demand fetch. -/
def Engine.refetch (p : Plane) (pl : CachePlace) (e : Engine) : Engine :=
  let reads := pl.pieces.map fun q => (q.addr, q.len)
  (e.onCache p fun c =>
    { c with places := c.places.map fun q => if q = pl then fetchingPlace pl.row .refetch reads else q }).raiseReads
    p pl.row reads

/-! ### Responses of class A (R127) -/

def Piece.setResult (addr : Nat) (r : PieceResult) (q : Piece) : Piece :=
  if q.addr = addr then { q with result := r } else q

def CachePlace.returned (pl : CachePlace) : Bool := pl.pieces.all fun q => decide (q.result ≠ .waiting)

/-- A read of the place's segment returned. Of several that fail, the first ERROR to return gives the address
(PRESUMED, log 38). -/
def CachePlace.receive (addr : Nat) (r : Resp) (data : List Byte) (pl : CachePlace) : CachePlace :=
  match r with
  | .okay => { pl with pieces := pl.pieces.map (Piece.setResult addr (.ok data)) }
  | .error => { pl with
      pieces := pl.pieces.map (Piece.setResult addr .bad), failAddr := some (pl.failAddr.getD addr) }

/-- R127: what a FETCHING place becomes when its reads have all returned, the reads of a refetch too: a row read again
becomes FAILED when the last of them has returned (DESIGN CHOICE, log 44). `none` asks for the refetch. A failed prefetch
is only MARKED, also when an output row already waits for it (DESIGN CHOICE, log 49). -/
def CachePlace.settle (pl : CachePlace) : Option CachePlace :=
  match pl.failAddr, pl.kind with
  | none, _ => some { pl with cond := .valid }
  | some _, .prefetch => some { pl with cond := .marked }
  | some _, .demand => none
  | some _, .refetch => some { pl with cond := .failed }

/-- The plane's places with `old` replaced by `new`. -/
def PlaneCache.replace (old new : CachePlace) (c : PlaneCache) : PlaneCache :=
  { c with places := c.places.map fun q => if q = old then new else q }

/-- A row that becomes FAILED is remembered until the next output frame start (R127). -/
def PlaneCache.noteFailed (pl : CachePlace) (c : PlaneCache) : PlaneCache :=
  match pl.cond, pl.failAddr with
  | .failed, some a => { c with failed := c.failed ++ [(pl.row, a)] }
  | _, _ => c

/-- A class A response that is not stale reaches its place (R126, R127). The fetches that wait for a place try again when
the place becomes VALID, MARKED or FAILED; a place whose segment is fetched once more stays FETCHING, and they wait on. -/
def Engine.fetchReturned (f : RowFetch) (r : Resp) (data : List Byte) (e : Engine) : Engine :=
  match (e.cache f.plane).place? f.row with
  | none => e
  | some old =>
    let pl := old.receive f.addr r data
    let e1 := e.onCache f.plane (·.replace old pl)
    if pl.returned then
      match pl.settle with
      | none => e1.refetch f.plane pl
      | some done => (e1.onCache f.plane fun c => (c.replace pl done).noteFailed done).retryWaiting f.plane
    else e1

/-- The first class A read in flight at `addr`. -/
def Engine.inFlight? (addr : Nat) (e : Engine) : Option RowFetch :=
  e.fetchFlight.find? fun f => decide (f.addr = addr)

/-- SOURCE_ROW_FETCH_RESPONSE (R127); a response of a fetch raised before the last output frame start is dropped
(R116), and so is one that answers nothing in flight (R17). A row that becomes FAILED here damages the output frame when
the read that needs it is served, in the next OUTPUT_READ_SERVED (DESIGN CHOICE, log 49). -/
def execSourceRowFetchResponse (x : OutId) (addr : Nat) (r : Resp) (data : List Byte) (s : State) :
    Host.Outcome State Fault Refusal :=
  match (s.out x).inFlight? addr with
  | none => .next s
  | some f =>
    if r = .okay ∧ data.length ≠ f.len then .refused .malformedResponse
    else s.unlessHalted fun s => s.onOut x fun e =>
      let e1 := { e with fetchFlight := e.fetchFlight.erase f }
      if f.stale then e1 else e1.fetchReturned f r data

/-! ### Computing output rows (R122 to R128) -/

/-- What the engine finds when an output row needs its source rows. -/
inductive RowWork where
  /-- Every source row is VALID: the row's bytes. -/
  | ready (bytes : List Byte)
  /-- A source row is FAILED: the address of its failing refetch read (R128). -/
  | failed (addr : Nat)
  /-- Source rows must be fetched first. -/
  | blocked
  deriving DecidableEq, Repr

/-- A VALID place's pieces. -/
def PlaneCache.pieces? (c : PlaneCache) (j : Nat) : Option (List Piece) :=
  match c.place? j with
  | some pl => if pl.cond = .valid then some pl.pieces else none
  | none => none

/-- The bytes of output row `r`, when nothing or a frame whose needed rows are VALID is latched (R122, R123). -/
def Engine.rowBytes? (e : Engine) (p : Plane) (r : Nat) : Option (List Byte) :=
  match e.planeView? p with
  | none => some (blackRow p ((e.geom.map (·.ow)).getD 0))
  | some (l, g, v) =>
    match v.sourceRows r with
    | [] => some (blackRow p g.ow)
    | j :: rest =>
      let j2 := rest.headD j
      match (e.cache p).pieces? j, (e.cache p).pieces? j2 with
      | some q, some q2 =>
        some (outputRow p v g.ow r (fun i => pieceByte (rowAddr l p j + i) q)
          (fun i => pieceByte (rowAddr l p j2 + i) q2))
      | _, _ => none

/-- R126 to R128: what output row `r` of plane `p` finds. When both its source rows are FAILED the address is that of
row j, the first of the two (DESIGN CHOICE, log 39). -/
def Engine.rowWork (e : Engine) (p : Plane) (r : Nat) : RowWork :=
  match (e.needs p r).findSome? (e.cache p).failed? with
  | some a => .failed a
  | none =>
    match e.rowBytes? p r with
    | some b => .ready b
    | none => .blocked

/-- R126, R127: the demand fetches of a blocked row: a needed row without a place is fetched or waits for a place, a
MARKED one is fetched once more, a FETCHING one is waited for. A prefetch that the output row already waits for and that
fails only marks its place in the response, and is fetched once more here, in the next OUTPUT_READ_SERVED (DESIGN CHOICE,
log 49). -/
def Engine.demandRow (p : Plane) (needed : List Nat) (j : Nat) (e : Engine) : Engine :=
  match (e.cache p).place? j with
  | none => e.fetchRow p .demand needed j
  | some pl => if pl.cond = .marked then e.refetch p pl else e

/-- R126, R127: the fetches a blocked output row asks for, those of row j ahead of those of the row below it (DESIGN
CHOICE, log 51: the spec orders the reads of one segment only). -/
def Engine.demandFor (p : Plane) (r : Nat) (e : Engine) : Engine :=
  (e.needs p r).foldl (fun e j => e.demandRow p (e.neededBy p (p, r)) j) e

/-- R128: the values a failed output row takes: the plane's current row, or black. -/
def Engine.heldRow (e : Engine) (p : Plane) : List Byte :=
  match (e.cache p).current with
  | some b => b.bytes
  | none => blackRow p ((e.geom.map (·.ow)).getD 0)

/-- The fault position of an output's latch (R189). -/
def Engine.faultPos (e : Engine) : FaultPos :=
  match e.latch with
  | some l => match l.what with
    | .slot k => .slot k
    | .entry p => .entry p
  | none => .none

def outBlock : OutId → BlockId
  | .a => .outputA
  | .b => .outputB

/-- R128: the first failed output row of an output frame sets the damaged flag, logs OUTPUT_FETCH and raises
OUTPUT_DAMAGED, when the output row is computed (DESIGN CHOICE, log 49). -/
def State.noteDamaged (x : OutId) (addr : Nat) (s : State) : State :=
  let e := s.out x
  if e.damaged then s
  else ((s.onOut x fun e => { e with damaged := true }).logFault .outputFetch (outBlock x) addr
    ((e.latch.map (·.frame)).getD 0) e.faultPos).raise .outputDamaged

/-- An output row of plane `p` counts as computed with the bytes given: it is pushed and the next row's source rows
are prefetched (R124, R126). -/
def State.rowComputed (x : OutId) (p : Plane) (r : Nat) (bytes : List Byte) (s : State) : State :=
  s.onOut x fun e => ({ e.onCache p (·.pushRow r bytes) with computed := some (p, r) } : Engine).prefetchAfter p r

/-- The bytes of output row `r` of plane `p`, from a row buffer or computed now; `none` when it waits for its
source rows, which are then being fetched. -/
def State.ensureRow (x : OutId) (p : Plane) (r : Nat) (s : State) : State × Option (List Byte) :=
  match ((s.out x).cache p).rowBuffer? r with
  | some b => (s, some b)
  | none =>
    match (s.out x).rowWork p r with
    | .ready b => (s.rowComputed x p r b, some b)
    | .failed a =>
      let b := (s.out x).heldRow p
      ((s.noteDamaged x a).rowComputed x p r b, some b)
    | .blocked => (s.onOut x (·.demandFor p r), none)

/-- The bytes of each row listed, as `ensureRow` finds them in turn; stops at the first that waits. -/
def State.ensureRows (x : OutId) : List (Plane × Nat) → State → State × Option (List (Plane × Nat × List Byte))
  | [], s => (s, some [])
  | (p, r) :: rest, s =>
    match s.ensureRow x p r with
    | (s1, none) => (s1, none)
    | (s1, some b) =>
      match State.ensureRows x rest s1 with
      | (s2, some bs) => (s2, some ((p, r, b) :: bs))
      | (s2, none) => (s2, none)

/-- The byte at window offset `o` from the rows gathered. -/
def byteFrom (g : OutGeom) (rows : List (Plane × Nat × List Byte)) (o : Nat) : Byte :=
  let (p, r, i) := g.locate o
  match rows.find? fun q => decide (q.1 = p ∧ q.2.1 = r) with
  | some q => q.2.2.getD i 0
  | none => 0

/-! ### Sources and marks at the end of an output's show -/

/-- The slot whose FREEZE_x the source carries. -/
def Source.frozenSlot : Source → Option Nat
  | .frozen k => some k
  | .held k => some k
  | _ => none

/-- R42: FREEZE_x is released when the source carries it. -/
def State.dropFreeze (x : OutId) (s : State) : State :=
  match (s.out x).source.frozenSlot with
  | some k => s.onSlots (·.dropFreeze x k)
  | none => s

/-- R41: SHOW_x is released from the slot latched. -/
def State.dropShow (x : OutId) (s : State) : State :=
  match (s.out x).latchedSlot with
  | some k => s.onSlots (·.dropShow x k)
  | none => s

/-- R113: RECALL_x is removed from the entries listed, and each removal passed on (R143, R153). -/
def State.dropRecalls (x : OutId) : List Nat → State → State
  | [], s => s
  | p :: rest, s =>
    State.dropRecalls x rest
      (if (s.store.recAt p).recalled x then s.unmark p (Rec.setRecall x false) else s)

/-- The catalog's positions but for `keep`. -/
def Store.positionsBut (st : Store) (keep : Option Nat) : List Nat :=
  (List.range st.catalog.length).filter fun p => decide (some p ≠ keep)

/-- R108 step 4. -/
def Source.afterDisable : Source → Source
  | .frozen _ => .live
  | .recalled _ => .live
  | .held _ => .heldNone
  | src => src

/-- A class A read whose response will be dropped. -/
def RowFetch.makeStale (f : RowFetch) : RowFetch := { f with stale := true }

/-- R108 step 5, R107: the latch, the cache, the row buffers and the flags of an output that shows nothing. Fetches
already raised complete, and their data goes nowhere. -/
def Engine.emptied (e : Engine) : Engine :=
  { e with
    latch := none, luma := PlaneCache.empty, chroma := PlaneCache.empty, computed := none, damaged := false,
    fetchWaiting := e.fetchWaiting.map RowFetch.makeStale, fetchFlight := e.fetchFlight.map RowFetch.makeStale }

/-- R116 step 6: as `emptied`, and the fetches not yet granted are withdrawn. -/
def Engine.cleared (e : Engine) : Engine := { e.emptied with fetchWaiting := [] }

/-- R108 steps 1 to 5, R131, once the queued reads are answered: the output becomes DISABLED. A RESTART makes the
source LIVE whatever it was. -/
def State.leaveOutput (x : OutId) (s : State) : State :=
  let s1 := (s.dropShow x).dropFreeze x
  let s2 := s1.dropRecalls x (s1.store.positionsBut none)
  s2.onOut x fun e => { e.emptied with
    source := if s.ring.restarting then .live else e.source.afterDisable, state := .disabled, leaving := false }

/-- R108, R131: an output that is leaving and has answered its reads leaves; its DISABLE_OUTPUT is answered DONE, or
the RESTART in progress goes on. -/
def State.finishLeaving (x : OutId) (s : State) : State :=
  if (s.out x).leaving && (s.out x).queue.isEmpty then
    if s.ring.restarting then (s.leaveOutput x).finishRestart else (s.leaveOutput x).answerAccepted 7 .done
  else s

/-! ### Meanings -/

/-- OUTPUT_READ_SERVED (R114, R124): the head read is answered when all its bytes are known; until then its source
rows are being fetched. A read at offset 0 waits for its OUTPUT_FRAME_START (R115). -/
def execOutputReadServed (x : OutId) (s : State) : Host.Outcome State Fault Refusal :=
  s.unlessHalted fun s =>
    match (s.out x).queue, (s.out x).geom with
    | q :: _, some g =>
      if q.off = 0 ∧ q.started = false then s
      else match s.ensureRows x (g.rowsOf q.off q.len) with
        | (s1, none) => s1
        | (s1, some rows) =>
          let data := (List.range q.len).map fun i => byteFrom g rows (q.off + i)
          let s2 := s1.onOut x fun e => { e with queue := e.queue.drop 1 }
          (s2.respond ⟨q.id, .read, .okay, data⟩).finishLeaving x
    | _, _ => s

/-- R116 step 2: what the source resolves to. -/
def State.resolve (x : OutId) (s : State) : Option Latched :=
  match (s.out x).source with
  | .live => s.slots.newest.map .slot
  | .frozen k => some (.slot k)
  | .held k => some (.slot k)
  | .recalled p => some (.entry p)
  | .heldNone => none
  | .blank => none

/-- R116 step 3: the address, width, height and frame number of what is latched. -/
def State.describe (w : Latched) (s : State) : Nat × Nat × Nat × Count :=
  match w with
  | .slot k =>
    let sl := s.slots.slot k
    (s.slotAddr k, sl.width, sl.height, sl.frame)
  | .entry p =>
    let r := s.store.recAt p
    (s.entryAddr p, r.width, r.height, r.frame)

/-- R119, R120, R117: the latch with its step and origins, and the flip the frame is shown with. -/
def makeLatch (w : Latched) (d : Nat × Nat × Nat × Count) (g : OutGeom) (v : View) : Latch :=
  let (addr, ws, hs, frame) := d
  let step := viewStep (fitStep ws hs g.ow g.oh) v.zc
  ⟨w, addr, ws, hs, frame, step, origin ws g.ow step v.cx, origin hs g.oh step v.cy, v.flip⟩

/-- The entry latched. -/
def Latched.entry? : Latched → Option Nat
  | .entry p => some p
  | .slot _ => none

/-- R41: SHOW_x is taken on the slot latched. -/
def State.takeShow (x : OutId) (w : Option Latched) (s : State) : State :=
  match w with
  | some (.slot k) => s.onSlots (·.takeShow x k)
  | _ => s

/-- R116 steps 3 to 6 in the engine: the zoom is stepped, what is resolved is latched with its step and origins, the
cache and flags are cleared, and the head read counts as started. -/
def Engine.startFrame (w : Option (Latched × Nat × Nat × Nat × Count)) (e : Engine) : Engine :=
  let v := { e.view with zc := zoomStep e.view.zt e.view.zc e.view.ramp }
  let latch := match w, e.geom with
    | some (k, d), some g => some (makeLatch k d g v)
    | _, _ => none
  { e.cleared with
    view := v, latch := latch
    queue := match e.queue with
      | q :: rest => { q with started := true } :: rest
      | [] => [] }

/-- R116: the output frame start, in its order. -/
def State.outputFrameStart (x : OutId) (die : Int) (s : State) : State :=
  let s1 := s.dropShow x
  let w := s1.resolve x
  let s2 := s1.takeShow x w
  let d := w.map fun k => (k, s2.describe k)
  let s3 := s2.dropRecalls x (s2.store.positionsBut (w.bind Latched.entry?))
  let s4 := (s3.onOut x (·.startFrame d)).sampleDie die
  s4.onOut x fun e => e.prefetchFor .luma 0 (e.neededBy .luma (.luma, 0))

/-- OUTPUT_FRAME_START (R115, R116): due when the read at the head is at offset 0 and its start is not taken. -/
def execOutputFrameStart (x : OutId) (die : Int) (s : State) : Host.Outcome State Fault Refusal :=
  s.unlessHalted fun s =>
    match (s.out x).queue with
    | q :: _ => if q.off = 0 ∧ q.started = false then s.outputFrameStart x die else s
    | [] => s

end Sys2Proof.Machine
end

