-- ==== Sys2Proof/Machine/Store.lean ====
section
/-! DEFINITION. The Lesson Store Controller's directives (chapter 7), the AUTO request, and the resume of a store
left in memory. -/

namespace Sys2Proof.Machine

/-! ### Opening and resuming -/

/-- E FREE records (R136). -/
def freshCatalog (e : Nat) : List Rec := List.replicate e Rec.blank

/-- Requests the writes of the catalog records listed, in order. -/
def State.requestRecords : List Nat → State → State
  | [], s => s
  | p :: rest, s => State.requestRecords rest (s.request (.catalog p))

/-- R136: an empty store opens at once. -/
def State.openEmpty (g : StoreGeom) (s : State) : State :=
  (s.onStore fun st =>
    { st with state := .opened, geom := some g, catalog := freshCatalog g.e, order := [], nextSeq := some 1,
              nextLesson := 1, lesson := none, page := 0, resume := none }).requestStatus

/-- R136: the writes of a new store, requested once OPEN_STORE is answered: the header, then its E FREE records. -/
def State.writeNewStore (g : StoreGeom) (s : State) : State :=
  (s.request .header).requestRecords (List.range g.e)

/-- The bytes a resume reads: the header and E records (R137). -/
def resumeTotal (e : Nat) : Nat := 64 + 64 * e

/-- R137: the next resume read, of up to 256 bytes, is raised. -/
def State.raiseResume (g : StoreGeom) (got : Nat) (s : State) : State :=
  s.onRecs (·.raiseWork (.resume (g.base + got) (min 256 (resumeTotal g.e - got))))

/-- R137: the store becomes OPENING and the first read is raised. The policy and the wait limit of before are remembered
(R23, log 34). The status record for OPENING is requested before the read joins class D (DESIGN CHOICE, log 47). -/
def State.beginResume (g : StoreGeom) (clamped : Bool) (s : State) : State :=
  ((s.onStore fun st =>
      { st with state := .opening, geom := some g, catalog := [], order := [],
                resume := some ⟨[], clamped, st.keepAll, st.waitLimit⟩ }).requestStatus).raiseResume g 0

/-- R137: a resume that ends CLOSED. The directive ends refused, so the policy and the wait limit are again those of
before it (R23; DEDUCED, log 34). The status record is requested before the directive's status write (log 41), and after
the fault's records when a read returned ERROR (DESIGN CHOICE, log 47). -/
def State.resumeClosed (st : Status) (s : State) : State :=
  ((s.onStore fun so =>
      { so with
        state := .closed, geom := none, catalog := [], order := [], resume := none
        keepAll := (so.resume.map (·.keepAll)).getD so.keepAll
        waitLimit := (so.resume.map (·.waitLimit)).getD so.waitLimit }).requestStatus).answerAccepted
    15 st

/-- R190: the header matches. -/
def headerMatches (g : StoreGeom) (bytes : List Byte) : Bool :=
  decide (fieldAt bytes 0x00 4 = Config.storeMarker) && decide (fieldAt bytes 0x04 2 = g.e)
    && decide (fieldAt bytes 0x08 4 = g.entrySize)

/-- The bytes of record `p` in what a resume read. -/
def recordBytes (bytes : List Byte) (p : Nat) : List Byte := (bytes.drop (64 + p * 64)).take 64

/-- R190: a kind above 2 is taken as DEGRADED. -/
def kindOfCode (c : Nat) : FrameKind := if c = 0 then .enhanced else if c = 1 then .plain else .degraded

/-- The fields of a SAVED record as R190 takes them. -/
def savedFrom (b : List Byte) : Rec :=
  let flags := byteAt b 0x03
  { state := .saved, seq := fieldAt b 0x04 4, lesson := fieldAt b 0x0C 2, page := fieldAt b 0x0E 2,
    frame := BitVec.ofNat 32 (fieldAt b 0x08 4), auto := flags.getLsbD 1, kind := kindOfCode (fieldAt b 0x10 1),
    width := fieldAt b 0x12 2, height := fieldAt b 0x14 2, kept := flags.getLsbD 0,
    view := if flags.getLsbD 2 then
        some ⟨clamp 256 2048 (fieldAt b 0x16 2), fieldAt b 0x18 2, fieldAt b 0x1A 2, flags.getLsbD 3⟩
      else none,
    claimed := false, recallA := false, recallB := false, wanted := false }

/-- R138 corrections 1 and 2: the record read at position `p` is kept as SAVED. -/
def keepsSaved (b : List Byte) (p : Nat) : Bool :=
  decide (fieldAt b 0x02 1 = 2) && decide (fieldAt b 0x00 2 = p) && decide (fieldAt b 0x04 4 ≠ 0)

/-- The record was read FREE at its own position, so no correction touches it. -/
def readsFree (b : List Byte) (p : Nat) : Bool :=
  decide (fieldAt b 0x02 1 = 0) && decide (fieldAt b 0x00 2 = p)

/-- R138 correction 3: a SAVED record at a lower position carries the same sequence. -/
def duplicated (bytes : List Byte) (p : Nat) : Bool :=
  (List.range p).any fun q =>
    keepsSaved (recordBytes bytes q) q
      && decide (fieldAt (recordBytes bytes q) 0x04 4 = fieldAt (recordBytes bytes p) 0x04 4)

/-- Record `p` survives every correction as SAVED. -/
def survives (bytes : List Byte) (p : Nat) : Bool :=
  keepsSaved (recordBytes bytes p) p && !duplicated bytes p

/-- The rebuilt catalog (R138). -/
def rebuiltCatalog (e : Nat) (bytes : List Byte) : List Rec :=
  (List.range e).map fun p => if survives bytes p then savedFrom (recordBytes bytes p) else Rec.blank

/-- The positions made FREE by a correction (R138). -/
def correctedFree (e : Nat) (bytes : List Byte) : List Nat :=
  (List.range e).filter fun p => !survives bytes p && !readsFree (recordBytes bytes p) p

/-- Inserts position `p` by sequence. -/
def insertBySeq (cat : List Rec) (p : Nat) : List Nat → List Nat
  | [] => [p]
  | q :: rest =>
    if (cat.getD p Rec.blank).seq < (cat.getD q Rec.blank).seq then p :: q :: rest
    else q :: insertBySeq cat p rest

/-- The SAVED positions by sequence (R138). -/
def orderOf (cat : List Rec) : List Nat :=
  ((List.range cat.length).filter fun p => decide ((cat.getD p Rec.blank).state = .saved)).foldr
    (insertBySeq cat) []

/-- One more than the highest sequence, 1 when there is none, exhausted after 0xFFFF_FFFF (R138). -/
def nextSeqOf (cat : List Rec) : Option Nat := seqAfter ((cat.map (·.seq)).foldl max 0)

/-- R138: a successful resume. The status record and the corrected records are requested before the directive's status
write (DESIGN CHOICE, log 41), the status record first (DESIGN CHOICE, log 47). -/
def State.resumeOpened (g : StoreGeom) (bytes : List Byte) (clamped : Bool) (s : State) : State :=
  let cat := rebuiltCatalog g.e bytes
  let lesson := fieldAt bytes 0x0C 2
  let s1 := s.onStore fun st =>
    { st with state := .opened, catalog := cat, order := orderOf cat, nextSeq := nextSeqOf cat,
              nextLesson := if lesson = 0 then 1 else lesson, lesson := none, page := 0, resume := none }
  ((s1.requestStatus).requestRecords (correctedFree g.e bytes)).answerAccepted 15 (doneOr clamped)

/-- The resume read in flight. -/
def RecordWriter.resumeInFlight (w : RecordWriter) : Option (Nat × Nat) :=
  w.flight.findSome? fun
    | .resume a n => some (a, n)
    | _ => none

/-- R137: what a resume read's response does. -/
def State.resumeReturned (addr : Nat) (r : Resp) (data : List Byte) (s : State) : State :=
  match s.store.resume, s.store.geom with
  | some re, some g =>
    match r with
    | .error => (s.logFault .catalogRead .store addr s.cap.frameNo .none).resumeClosed .refusedState
    | .okay =>
      let got := re.got ++ data
      if re.got = [] ∧ headerMatches g got = false then s.resumeClosed .refusedFormat
      else if got.length < resumeTotal g.e then
        (s.onStore fun st => { st with resume := some { re with got := got } }).raiseResume g got.length
      else s.resumeOpened g got re.clamped
  | _, _ => s

/-- RESUME_READ_RESPONSE (R137, R138). -/
def execResumeReadResponse (r : Resp) (data : List Byte) (s : State) : Host.Outcome State Fault Refusal :=
  match s.recs.resumeInFlight with
  | none => .next s
  | some (addr, len) =>
    if r = .okay ∧ data.length ≠ len then .refused .malformedResponse
    else s.unlessHalted fun s =>
      (s.onRecs fun w => { w with flight := w.flight.erase (.resume addr len) }).resumeReturned addr r data

/-! ### Directives on the store -/

/-- R133: a store directive that is no OPEN_STORE meets a store that is CLOSED or OPENING. -/
def State.storeGate (s : State) : List (Bool × Status) :=
  [(decide (s.store.state = .closed), .refusedState), (decide (s.store.state = .opening), .refusedBusy)]

/-- The position is not in 0..E−1. -/
def State.badPosition (s : State) (pos : BitVec 16) : Bool :=
  decide (((s.store.geom.map (·.e)).getD 0) ≤ pos.toNat)

/-- R135: the RANGE conditions of OPEN_STORE with the geometry it would have. -/
def State.openRangeBad (policy resume : BitVec 8) (g : StoreGeom) (s : State) : Bool :=
  decide (g.e < 1 ∨ 256 < g.e) || decide (1 < policy.toNat) || decide (1 < resume.toNat)
    || decide (g.base % 4096 ≠ 0) || !g.extent.inSpace
    || g.extent.overlaps s.controlPage || g.extent.overlaps? s.captureWindow? || g.extent.overlaps? s.slotRegion?
    || g.extent.overlaps? s.outA.window? || g.extent.overlaps? s.outB.window?

/-- The frame size of the capture configuration (R135). -/
def State.captureFrameSize (s : State) : Nat :=
  match s.cap.geom with
  | some g => frameSize g.w g.h
  | none => 0

/-- OPEN_STORE (R135 to R137). The policy and the wait limit are stored as it is taken (R135), and a resume that ends
refused restores those of before (log 34). A new store's status record is requested before the directive's status write,
which R136 puts before the header and the FREE records (log 41). -/
def execOpenStore (policy resume wait : BitVec 8) (e : BitVec 16) (base : BitVec 64) (s : State) :
    Host.Outcome State Fault Refusal :=
  s.unlessHalted fun s =>
    let c := Instr.openStore policy resume wait e base
    let g : StoreGeom := ⟨base.toNat, e.toNat, s.captureFrameSize⟩
    match firstRefusal [(decide (s.store.state = .opened) || decide (s.store.state = .closed) && s.cap.geom.isNone,
          .refusedState),
        (decide (s.store.state = .opening), .refusedBusy), (s.openRangeBad policy resume g, .refusedRange)] with
    | some st => s.answer c st
    | none =>
      let limit := clamp 1 255 wait.toNat
      let clamped := decide (limit ≠ wait.toNat)
      let stored := State.onStore fun st => { st with keepAll := decide (policy = 1), waitLimit := limit }
      if resume = 0 then (((stored s).openEmpty g).answer c (doneOr clamped)).writeNewStore g
      else stored ((s.accept c).beginResume g clamped)

/-- R139, R178: the waiting header and catalog writes keep their place with the address and content they would
have if granted at that moment. -/
def RecWork.fixFor (s : State) : RecWork → RecWork
  | .record .header => .closed .header (recordAddr s .header) (recordContent s .header)
  | .record (.catalog p) => .closed (.catalog p) (recordAddr s (.catalog p)) (recordContent s (.catalog p))
  | x => x

/-- CLOSE_STORE (R139). The status record is requested before the directive's status write (DESIGN CHOICE, log 41). -/
def execCloseStore (s : State) : Host.Outcome State Fault Refusal :=
  s.unlessHalted fun s =>
    let recalled := s.store.catalog.any fun r => r.recallA || r.recallB
    match firstRefusal (s.storeGate ++ [(!s.store.queue.isEmpty || recalled, .refusedBusy)]) with
    | some st => s.answer .closeStore st
    | none =>
      let s1 := s.onRecs fun w => { w with waiting := w.waiting.map (RecWork.fixFor s) }
      let s2 := s1.onStore fun st =>
        { st with state := .closed, geom := none, catalog := [], order := [], lesson := none }
      s2.requestStatus.answer .closeStore .done

/-- BEGIN_LESSON (R144). -/
def execBeginLesson (s : State) : Host.Outcome State Fault Refusal :=
  s.unlessHalted fun s =>
    match firstRefusal s.storeGate with
    | some st => s.answer .beginLesson st
    | none =>
      let s1 := s.onStore fun st =>
        { st with lesson := some st.nextLesson, page := 0,
                  nextLesson := if st.nextLesson = 65535 then 1 else st.nextLesson + 1 }
      ((s1.request .header).tellMonitor .lessonBegun).answer .beginLesson .done

/-- END_LESSON (R145). -/
def execEndLesson (s : State) : Host.Outcome State Fault Refusal :=
  s.unlessHalted fun s =>
    match firstRefusal s.storeGate with
    | some st => s.answer .endLesson st
    | none => (s.onStore fun st => { st with lesson := none }).answer .endLesson .done

/-! ### Snapshot requests -/

/-- R129: the slot output `x` shows. -/
def Engine.shownSlot (e : Engine) : Option Nat := e.latchedSlot

/-- R146: the slot a SNAPSHOT's source resolves. -/
def State.snapshotSlot (source : BitVec 8) (s : State) : Option Nat :=
  if source = 0 then s.slots.newest else if source = 1 then s.outA.shownSlot else s.outB.shownSlot

/-- R129: output A's view for the optional saved view. -/
def State.viewOfA (s : State) : Option SavedView :=
  if s.outA.state = .enabled then
    some ⟨s.outA.view.zc, s.outA.view.cx.getD 65535, s.outA.view.cy.getD 65535, s.outA.view.flip⟩
  else none

/-- R147: the page counter after a request in an open lesson. -/
def Store.nextPage (st : Store) : Nat := if st.page = 65535 then 1 else st.page + 1

/-- R147: the request built from slot `k` at this moment. -/
def State.buildRequest (k : Nat) (auto keep : Bool) (s : State) : Request :=
  let sl := s.slots.slot k
  { slot := k, frame := sl.frame, kind := sl.kind, width := sl.width, height := sl.height, auto := auto,
    keep := keep, lesson := s.store.lesson.getD 0,
    page := if s.store.lesson.isSome then s.store.nextPage else 0, view := s.viewOfA }

/-- R147, R148: a request for slot `k` is taken. -/
def State.takeRequest (k : Nat) (auto keep : Bool) (s : State) : State :=
  let r := s.buildRequest k auto keep
  (s.onStore fun st => { st with page := if st.lesson.isSome then st.nextPage else st.page }).joinQueue r

/-- SNAPSHOT (R146, R147). The status record, and the COPYING record of a copy it starts at once, are requested before the
directive's own status write (DESIGN CHOICE, log 41). -/
def execSnapshot (source keep : BitVec 8) (s : State) : Host.Outcome State Fault Refusal :=
  s.unlessHalted fun s =>
    let s := s.touch
    let c := Instr.snapshot source keep
    match firstRefusal (s.storeGate ++ [(decide (2 < source.toNat ∨ 1 < keep.toNat), .refusedRange),
        ((s.snapshotSlot source).isNone, .refusedNoFrame),
        (decide (Config.snapshotDepth ≤ s.store.queue.length), .refusedFull)]) with
    | some st => s.answer c st
    | none =>
      let s1 := s.takeRequest ((s.snapshotSlot source).getD 0) false (decide (keep = 1))
      (if source = 0 then s1.tellMonitor (.newestSaved false) else s1).answer c .done

/-- R148: an AUTO request is refused. -/
def State.autoRefused (s : State) : Bool :=
  decide (s.store.state ≠ .opened) || s.store.lesson.isNone || s.slots.newest.isNone
    || decide (Config.snapshotDepth ≤ s.store.queue.length)

/-- AUTO_REQUEST (R148): the oldest request of the monitor reaches the controller, which takes or refuses it and
answers. Without one there is nothing to take (log 1). The answer to one raised before a RESTART saves nothing (R104,
log 37). -/
def execAutoRequest (s : State) : Host.Outcome State Fault Refusal :=
  s.unlessHalted fun s =>
    match s.mon.autoRequests with
    | [] => s
    | a :: rest =>
      let s1 := s.onMon fun m => { m with autoRequests := rest }
      if s.autoRefused then s1.tellMonitor .refused
      else (s1.takeRequest (s.slots.newest.getD 0) true false).tellMonitor (.taken a.means a.stale)

/-! ### Claims and entry directives -/

/-- CLAIM (R159). -/
def execClaim (pos : BitVec 16) (s : State) : Host.Outcome State Fault Refusal :=
  s.unlessHalted fun s =>
    let r := s.store.recAt pos.toNat
    match firstRefusal (s.storeGate ++ [(s.badPosition pos, .refusedRange),
        (decide (r.state ≠ .saved) || r.claimed || r.wanted, .refusedEntry)]) with
    | some st => s.answer (.claim pos) st
    | none => (s.onStore (·.onRec pos.toNat fun r => { r with claimed := true })).answer (.claim pos) .done

/-- RELEASE (R159): a claim removed from a WANTED record may hand it over (R153), whose COPYING record is requested before
the directive's own status write (DESIGN CHOICE, log 41). -/
def execRelease (pos : BitVec 16) (s : State) : Host.Outcome State Fault Refusal :=
  s.unlessHalted fun s =>
    match firstRefusal (s.storeGate ++ [(s.badPosition pos, .refusedRange)]) with
    | some st => s.answer (.release pos) st
    | none =>
      (if (s.store.recAt pos.toNat).claimed then s.unmark pos.toNat fun r => { r with claimed := false }
       else s).answer (.release pos) .done

/-- R154: KEEP on the WANTED record ends the wait, and the engine chooses again; not once the wait is over
(log 11). -/
def State.endWaitBy (p : Nat) (s : State) : State :=
  if (s.store.recAt p).wanted && !s.waitOver then
    (s.onStore (·.onRec p fun r => { r with wanted := false })).nextRequest
  else s

/-- KEEP (R160, R154). What the new choice of R154 requests comes before the directive's status write (DESIGN CHOICE,
log 41). -/
def execKeep (pos : BitVec 16) (s : State) : Host.Outcome State Fault Refusal :=
  s.unlessHalted fun s =>
    let p := pos.toNat
    match firstRefusal (s.storeGate ++ [(s.badPosition pos, .refusedRange),
        (decide ((s.store.recAt p).state = .free), .refusedEntry)]) with
    | some st => s.answer (.keep pos) st
    | none =>
      (((s.onStore (·.onRec p fun r => { r with kept := true })).request (.catalog p)).endWaitBy p).answer
        (.keep pos) .done

/-- UNKEEP (R160). -/
def execUnkeep (pos : BitVec 16) (s : State) : Host.Outcome State Fault Refusal :=
  s.unlessHalted fun s =>
    let p := pos.toNat
    match firstRefusal (s.storeGate ++ [(s.badPosition pos, .refusedRange),
        (decide ((s.store.recAt p).state = .free), .refusedEntry)]) with
    | some st => s.answer (.unkeep pos) st
    | none =>
      ((s.onStore (·.onRec p fun r => { r with kept := false })).request (.catalog p)).answer (.unkeep pos) .done

/-- DELETE (R160). The status record is requested after the FREE record (DESIGN CHOICE, log 47) and before the
directive's status write (DESIGN CHOICE, log 41). -/
def execDelete (pos : BitVec 16) (s : State) : Host.Outcome State Fault Refusal :=
  s.unlessHalted fun s =>
    let p := pos.toNat
    let r := s.store.recAt p
    match firstRefusal (s.storeGate ++ [(s.badPosition pos, .refusedRange),
        (decide (r.state ≠ .saved) || r.marked || r.wanted, .refusedEntry)]) with
    | some st => s.answer (.delete pos) st
    | none =>
      (((s.onStore (·.freeRec p)).request (.catalog p)).requestStatus).answer (.delete pos) .done

/-! ### RESTART (R163) -/

/-- R163: RESTART with the store OPEN. Class E in flight becomes stale; the rest of class E is withdrawn, which
takes the loss count to 0 (R14, R18). A frame torn by the same RESTART has already counted its frame end in the engine
(log 46). The FREE records are requested before the status record for the catalog and the queue, which keeps its place when
capture or the monitor has requested it before (DESIGN CHOICE, log 47). -/
def State.storeRestart (s : State) : State :=
  if s.store.state = .opened then
    let copying := (List.range s.store.catalog.length).filter fun p =>
      decide ((s.store.recAt p).state = .copying)
    let s1 := s.onStore fun st =>
      let st1 := copying.foldl (fun st p => st.freeRec p) st
      { st1 with
        catalog := st1.catalog.map fun r => { r with wanted := false }
        queue := []
        engine := { st1.engine with
          state := .idle, waiting := [], flight := st1.engine.flight.map fun t => { t with stale := true } } }
    let s2 := s1.onSlots fun t => s.store.queue.foldl (fun t r => t.dropCopy r.slot) t
    let s3 := (s2.onPath fun p => { p with lossCount := 0 }).requestRecords copying
    if s.store.queue.isEmpty ∧ copying.isEmpty then s3 else s3.requestStatus
  else s

end Sys2Proof.Machine
end

