-- ==== Sys2Proof/Machine/View.lean ====
section
/-! DEFINITION. The Output Engines' directives (06 sections 6.1, 6.2, 6.4). -/

namespace Sys2Proof.Machine

/-- R106: the RANGE conditions of CONFIGURE_OUTPUT for output `x`. -/
def State.outputRangeBad (x : OutId) (g : OutGeom) (s : State) : Bool :=
  decide (g.ow < 320 ∨ 1920 < g.ow ∨ g.ow % 32 ≠ 0) || decide (g.oh < 240 ∨ 1200 < g.oh ∨ g.oh % 8 ≠ 0)
    || decide (g.base % 4096 ≠ 0) || !g.window.inSpace || g.window.overlaps s.controlPage
    || g.window.overlaps? s.captureWindow? || g.window.overlaps? s.slotRegion?
    || g.window.overlaps? (s.out (otherOut x)).window? || g.window.overlaps? s.store?

/-- CONFIGURE_OUTPUT (R106). -/
def execConfigureOutput (sel : BitVec 8) (ow oh : BitVec 16) (window : BitVec 64) (s : State) :
    Host.Outcome State Fault Refusal :=
  s.unlessHalted fun s =>
    let c := Instr.configureOutput sel ow oh window
    match selected sel with
    | none => s.answer c .refusedRange
    | some x =>
      let g : OutGeom := ⟨window.toNat, ow.toNat, oh.toNat⟩
      match firstRefusal [(decide ((s.out x).state = .enabled), .refusedBusy),
          (s.outputRangeBad x g, .refusedRange)] with
      | some st => s.answer c st
      | none => (s.onOut x fun e => { e with geom := some g, state := .disabled }).answer c .done

/-- ENABLE_OUTPUT (R107): a wake-first directive. -/
def execEnableOutput (sel : BitVec 8) (s : State) : Host.Outcome State Fault Refusal :=
  s.unlessHalted fun s =>
    let s := s.touch
    let c := Instr.enableOutput sel
    match selected sel with
    | none => s.answer c .refusedRange
    | some x =>
      if (s.out x).state = .disabled then
        (s.onOut x fun e => { e.emptied with state := .enabled, queue := [] }).answer c .done
      else s.answer c .refusedState

/-- DISABLE_OUTPUT (R108): the queued reads are answered first; the directive is answered when the output has left. -/
def execDisableOutput (sel : BitVec 8) (s : State) : Host.Outcome State Fault Refusal :=
  s.unlessHalted fun s =>
    let c := Instr.disableOutput sel
    match selected sel with
    | none => s.answer c .refusedRange
    | some x =>
      if (s.out x).state = .enabled ∧ (s.out x).leaving = false then
        ((s.accept c).onOut x fun e => { e with leaving := true }).finishLeaving x
      else s.answer c .refusedState

/-- R118: the source dimensions a centre is clamped to. -/
def State.viewDims (x : OutId) (s : State) : Nat × Nat :=
  match (s.out x).latch with
  | some l => (l.ws, l.hs)
  | none => match s.cap.geom with
    | some g => (g.w, g.h)
    | none => (4096, 3072)

/-- R118: a centre value, clamped to an axis of `size` pixels; 65535 is centred. -/
def centreOf (v size : Nat) : Option Nat :=
  if v = 65535 then none
  else if size = 0 then some (Config.centreInEmptyAxis v)
  else some (clamp 0 (size - 1) v)

/-- R118: the centre value was clamped. Every value lies above the range 0..−1 of an axis of no pixels. -/
def centreClamped (v size : Nat) : Bool := decide (v ≠ 65535) && decide (size ≤ v)

/-- SET_VIEW (R118): a wake-first directive. -/
def execSetView (sel flip : BitVec 8) (zt ramp cx cy : BitVec 16) (s : State) :
    Host.Outcome State Fault Refusal :=
  s.unlessHalted fun s =>
    let s := s.touch
    let c := Instr.setView sel flip zt ramp cx cy
    match selected sel with
    | none => s.answer c .refusedRange
    | some x =>
      if 1 < flip.toNat then s.answer c .refusedRange
      else
        let d := s.viewDims x
        let zt' := clamp 256 2048 zt.toNat
        let ramp' := clamp 0 1792 ramp.toNat
        let clamped := decide (zt' ≠ zt.toNat) || decide (ramp' ≠ ramp.toNat)
          || centreClamped cx.toNat d.1 || centreClamped cy.toNat d.2
        (s.onOut x fun e => { e with view := { e.view with
            zt := zt', ramp := ramp', cx := centreOf cx.toNat d.1, cy := centreOf cy.toNat d.2,
            flip := decide (flip = 1) } }).answer c (doneOr clamped)

/-- LIVE (R110): a wake-first directive. -/
def execLive (sel : BitVec 8) (s : State) : Host.Outcome State Fault Refusal :=
  s.unlessHalted fun s =>
    let s := s.touch
    let c := Instr.live sel
    match selected sel with
    | none => s.answer c .refusedRange
    | some x => ((s.dropFreeze x).onOut x fun e => { e with source := .live }).answer c .done

/-- FREEZE (R111): a wake-first directive. -/
def execFreeze (sel : BitVec 8) (s : State) : Host.Outcome State Fault Refusal :=
  s.unlessHalted fun s =>
    let s := s.touch
    let c := Instr.freeze sel
    match selected sel with
    | none => s.answer c .refusedRange
    | some x =>
      if (s.out x).state = .enabled then
        match (s.out x).latchedSlot with
        | some k =>
          ((s.onSlots (·.takeFreeze x k)).onOut x fun e => { e with source := .frozen k }).answer c .done
        | none => s.answer c .refusedNoFrame
      else s.answer c .refusedState

/-- BLANK (R110): a HELD output leaves the hold list. -/
def execBlank (sel : BitVec 8) (s : State) : Host.Outcome State Fault Refusal :=
  s.unlessHalted fun s =>
    let c := Instr.blank sel
    match selected sel with
    | none => s.answer c .refusedRange
    | some x =>
      (((s.dropFreeze x).onOut x fun e => { e with source := .blank }).onMon (·.setHold x false)).answer c .done

/-- R112: the saved view becomes the view's target, centre and flip, as held. -/
def View.applySaved (v : View) (sv : SavedView) : View :=
  { v with
    zt := sv.zc, cx := if sv.cx = 65535 then none else some sv.cx,
    cy := if sv.cy = 65535 then none else some sv.cy, flip := sv.flip }

/-- R112: the view after RECALL of record `r`. -/
def View.recalled (v : View) (useView : BitVec 8) (r : Rec) : View :=
  match r.view with
  | some sv => if useView = 0 then v else v.applySaved sv
  | none => v

/-- RECALL (R112): a wake-first directive. -/
def execRecall (sel useView : BitVec 8) (pos : BitVec 16) (s : State) : Host.Outcome State Fault Refusal :=
  s.unlessHalted fun s =>
    let s := s.touch
    let c := Instr.recallEntry sel useView pos
    match selected sel with
    | none => s.answer c ((firstRefusal [(decide (s.store.state = .closed), .refusedState),
        (decide (s.store.state = .opening), .refusedBusy)]).getD .refusedRange)
    | some x =>
      let p := pos.toNat
      let r := s.store.recAt p
      match firstRefusal [(decide ((s.out x).state ≠ .enabled ∨ s.store.state = .closed), .refusedState),
          (decide (s.store.state = .opening), .refusedBusy),
          (decide (((s.store.geom.map (·.e)).getD 0) ≤ p), .refusedRange),
          (decide (r.state ≠ .saved) || r.wanted, .refusedEntry)] with
      | some st => s.answer c st
      | none =>
        let s1 := (s.dropFreeze x).onStore (·.onRec p (Rec.setRecall x true))
        (s1.onOut x fun e => { e with source := .recalled p, view := e.view.recalled useView r }).answer c .done

/-- R131: RESTART acts on output `x`: an ENABLED output leaves once its queued reads are answered, its source and its
tags standing until then (log 15); any other output becomes LIVE at once with its releases made. -/
def State.outputRestart (x : OutId) (s : State) : State :=
  if (s.out x).state = .enabled then
    let s1 := s.onOut x fun e => { e with leaving := true }
    if (s1.out x).queue.isEmpty then s1.leaveOutput x else s1
  else
    let s1 := (s.dropFreeze x).onOut x fun e => { e with source := .live }
    s1.dropRecalls x (s1.store.positionsBut none)

end Sys2Proof.Machine
end

