-- ==== Sys2Proof/Machine/Reset.lean ====
section
/-! DEFINITION. RESET_N (R17 and every block's reset rule) and RESTART (R30). -/

namespace Sys2Proof.Machine

/-- RESET_N (R17, R29, R49, R81, R103, R130, R162, R171, R184), with `cpbase` on the pins. The commands that wait are
the model's own and stay. -/
def execResetN (cpbase : BitVec 4) (s : State) : Host.Outcome State Fault Refusal :=
  .next { State.resetWith cpbase with pending := s.pending }

/-- The owners' restarts: Slot Table (R50), Capture Enhancer (R82), Page Monitor (R104), Lesson Store Controller (R163),
Output Engines (R131), in this order (DESIGN CHOICE, log 46): the frame end of a frame torn here counts in the copy engine's
wait (R152), and the store's restart then empties the queue, so a request whose wait that frame end brings to its limit
leaves without HELD. The Path Unit's entries go with capture and the outputs (R18). -/
def State.restartOwners (die : Int) (s : State) : State :=
  (((((s.onSlots SlotTable.cleared).captureRestart die).monitorRestart).storeRestart).outputRestart
    .a).outputRestart .b

/-- RESTART (R30, R23): answered DONE when every owner has reported. -/
def execRestart (die : Int) (s : State) : Host.Outcome State Fault Refusal :=
  s.unlessHalted fun s =>
    ((((s.accept (.restart die)).onRing fun r => { r with restarting := true }).restartOwners
      die).finishRestart)

end Sys2Proof.Machine
end

