-- ==== Sys2Proof/Machine/Dispatch.lean ====
section
/-! DEFINITION. The meaning of each command, one arm per constructor. -/

namespace Sys2Proof.Machine

def exec (i : Instr) (s : State) : Host.Outcome State Fault Refusal :=
  match i with
  | .resetN cpbase => Sys2Proof.Machine.execResetN cpbase s
  | .forwardedTransaction t => Sys2Proof.Machine.execForwardedTransaction t s
  | .classBResponse d id r data => Sys2Proof.Machine.execClassBResponse d id r data s
  | .submitWord v => Sys2Proof.Machine.execSubmitWord v s
  | .acknowledgeWord v => Sys2Proof.Machine.execAcknowledgeWord v s
  | .noticeRecordRead => Sys2Proof.Machine.execNoticeRecordRead s
  | .statusRecordRead => Sys2Proof.Machine.execStatusRecordRead s
  | .straddlingAccess t => Sys2Proof.Machine.execStraddlingAccess t s
  | .outputWindowWrite t => Sys2Proof.Machine.execOutputWindowWrite t s
  | .outputWindowRead t => Sys2Proof.Machine.execOutputWindowRead t s
  | .outputReadServed x => Sys2Proof.Machine.execOutputReadServed x s
  | .outputFrameStart x die => Sys2Proof.Machine.execOutputFrameStart x die s
  | .captureWindowRead t => Sys2Proof.Machine.execCaptureWindowRead t s
  | .captureWrite t die => Sys2Proof.Machine.execCaptureWrite t die s
  | .frameStart t die => Sys2Proof.Machine.execFrameStart t die s
  | .tearFinished die => Sys2Proof.Machine.execTearFinished die s
  | .frameCompletion die => Sys2Proof.Machine.execFrameCompletion die s
  | .downstreamGrant => Sys2Proof.Machine.execDownstreamGrant s
  | .lossCountGrant => Sys2Proof.Machine.execLossCountGrant s
  | .lumaWriteResponse addr r => Sys2Proof.Machine.execLumaWriteResponse addr r s
  | .chromaWriteResponse id r => Sys2Proof.Machine.execChromaWriteResponse id r s
  | .sourceRowFetchResponse x addr r data => Sys2Proof.Machine.execSourceRowFetchResponse x addr r data s
  | .directiveFetchResponse r data => Sys2Proof.Machine.execDirectiveFetchResponse r data s
  | .directiveStatusWriteResponse r => Sys2Proof.Machine.execDirectiveStatusWriteResponse r s
  | .recordWriteResponse addr r => Sys2Proof.Machine.execRecordWriteResponse addr r s
  | .resumeReadResponse r data => Sys2Proof.Machine.execResumeReadResponse r data s
  | .chunkReadResponse addr r data => Sys2Proof.Machine.execChunkReadResponse addr r data s
  | .chunkWriteResponse addr r => Sys2Proof.Machine.execChunkWriteResponse addr r s
  | .waitLimitTimeout => Sys2Proof.Machine.execWaitLimitTimeout s
  | .autoRequest => Sys2Proof.Machine.execAutoRequest s
  | .autoAnswer => Sys2Proof.Machine.execAutoAnswer s
  | .unknownDirectiveType ty => Sys2Proof.Machine.execUnknownDirectiveType ty s
  | .configureCapture w h window region => Sys2Proof.Machine.execConfigureCapture w h window region s
  | .startCapture => Sys2Proof.Machine.execStartCapture s
  | .stopCapture die => Sys2Proof.Machine.execStopCapture die s
  | .setEnhance gain coring levelling darkFloor => Sys2Proof.Machine.execSetEnhance gain coring levelling darkFloor s
  | .configureOutput sel ow oh window => Sys2Proof.Machine.execConfigureOutput sel ow oh window s
  | .enableOutput sel => Sys2Proof.Machine.execEnableOutput sel s
  | .disableOutput sel => Sys2Proof.Machine.execDisableOutput sel s
  | .setView sel flip zt ramp cx cy => Sys2Proof.Machine.execSetView sel flip zt ramp cx cy s
  | .live sel => Sys2Proof.Machine.execLive sel s
  | .freeze sel => Sys2Proof.Machine.execFreeze sel s
  | .blank sel => Sys2Proof.Machine.execBlank sel s
  | .recallEntry sel useView pos => Sys2Proof.Machine.execRecall sel useView pos s
  | .setMonitor delta k hold scan standby idle presence auto => Sys2Proof.Machine.execSetMonitor delta k hold scan standby idle presence auto s
  | .wake => Sys2Proof.Machine.execWake s
  | .openStore policy resume wait e base => Sys2Proof.Machine.execOpenStore policy resume wait e base s
  | .closeStore => Sys2Proof.Machine.execCloseStore s
  | .beginLesson => Sys2Proof.Machine.execBeginLesson s
  | .endLesson => Sys2Proof.Machine.execEndLesson s
  | .snapshot source keep => Sys2Proof.Machine.execSnapshot source keep s
  | .claim pos => Sys2Proof.Machine.execClaim pos s
  | .release pos => Sys2Proof.Machine.execRelease pos s
  | .keep pos => Sys2Proof.Machine.execKeep pos s
  | .unkeep pos => Sys2Proof.Machine.execUnkeep pos s
  | .delete pos => Sys2Proof.Machine.execDelete pos s
  | .setNotice threshold setMask clearMask => Sys2Proof.Machine.execSetNotice threshold setMask clearMask s
  | .restart die => Sys2Proof.Machine.execRestart die s

end Sys2Proof.Machine
end

