-- ==== Sys2Proof/Safety.lean ====
section
/-! DEFINITION. What counts as a sound state of the part, and which blocks a step leaves as they are: the terms the
statements use. -/

namespace Sys2Proof.Machine

/-! ### Frames -/

/-- The blocks of State, and the model's own queue of commands. -/
inductive Block where
  | path
  | recs
  | ring
  | slots
  | cap
  | mon
  | outA
  | outB
  | store
  | gov
  | notice
  | pending
  deriving DecidableEq, Repr

/-- The block is the same in both states. -/
def Block.same (s t : State) : Block → Prop
  | .path => t.path = s.path
  | .recs => t.recs = s.recs
  | .ring => t.ring = s.ring
  | .slots => t.slots = s.slots
  | .cap => t.cap = s.cap
  | .mon => t.mon = s.mon
  | .outA => t.outA = s.outA
  | .outB => t.outB = s.outB
  | .store => t.store = s.store
  | .gov => t.gov = s.gov
  | .notice => t.notice = s.notice
  | .pending => t.pending = s.pending

/-- Every block but those listed is as before. -/
def State.changesOnly (bs : List Block) (s t : State) : Prop := ∀ b, b ∉ bs → b.same s t

/-- R152: what one capture frame end leaves of the wait of a WANTED record: the wait count is one more, up to the limit at
which the timeout is due (log 11); an engine that waits for none keeps its count. -/
def State.WaitCounted (s t : State) : Prop :=
  (∀ p, s.store.engine.state = .waiting p → t.store = { s.store with engine := { s.store.engine with
      waitCount := min (s.store.engine.waitCount + 1) s.store.waitLimit } })
    ∧ ((∀ p, s.store.engine.state ≠ .waiting p) → t.store.engine.waitCount = s.store.engine.waitCount)

/-! ### Frame starts -/

/-- R58, R59, R65, R76: a frame of geometry `g` has just taken its start write `t` and nothing more: the accumulators,
cleared, hold the tile sums and whites of the write's bytes, and a stored frame's bytes stand in line 0's place, alone in
the buffer. -/
def Capture.StartedWith (g : CapGeom) (t : Txn) (c : Capture) : Prop :=
  let tile := fun (i : Nat) => i / g.w / (g.h / 12) * 16 + i % g.w / (g.w / 16)
  let byte := fun (i : Nat) => (t.data.getD i 0).toNat
  c.sums.length = 192 ∧ c.whites.length = 192
    ∧ (∀ n, n < 192 →
      c.sums.getD n 0 = (((List.range t.len).filter fun i => decide (tile i = n)).map byte).sum
      ∧ c.whites.getD n 0 = (((List.range (t.len / 4)).filter fun j => decide (tile (4 * j) = n)).map fun j =>
          (byte (4 * j) + byte (4 * j + 1) + byte (4 * j + 2) + byte (4 * j + 3)) / 4).foldl max 0)
    ∧ c.places = [if c.dropped then none else some ⟨0, false, .receiving, t.data, 0⟩, none, none, none]
    ∧ c.nextEmit = 0

/-! ### Later answers (R25) -/

/-- R25: the record dispatched, when it is the directive `c`, stays in flight for a later answer; no status is given. -/
def State.Accepts (c : Instr) (s t : State) : Prop :=
  t.ring.lastStatus = s.ring.lastStatus
    ∧ ∀ i rec, s.ring.flight = some ⟨i, .dispatched rec⟩ → decodeDirective rec = c.bare →
        t.ring.flight = some ⟨i, .accepted rec⟩

/-- R24: record `i`, with bytes `rec` as fetched, is answered `st`: its status write waits, with the status byte set. -/
def State.Answered (i : Nat) (rec : List Byte) (st : Status) (t : State) : Prop :=
  t.ring.flight = some ⟨i, .answered rec⟩ ∧ (16 ≤ rec.length → ∃ d, .given (.directive i) d ∈ t.recs.waiting
    ∧ d.length = 16 ∧ fieldAt d 2 1 = st.code ∧ d.take 2 = rec.take 2 ∧ d.drop 3 = (rec.take 16).drop 3)

/-- R24, R25: the record accepted, when its type is `ty`, is answered `st`. -/
def State.AnswersLater (ty : Nat) (st : Status) (s t : State) : Prop :=
  t.ring.lastStatus = some st
    ∧ ∀ i rec, s.ring.flight = some ⟨i, .accepted rec⟩ → fieldAt rec 0 1 = ty → t.Answered i rec st

/-- R24: the record dispatched, when it is the directive `c`, is answered `st`. -/
def State.AnswersNow (c : Instr) (st : Status) (s t : State) : Prop :=
  t.ring.lastStatus = some st
    ∧ ∀ i rec, s.ring.flight = some ⟨i, .dispatched rec⟩ → decodeDirective rec = c.bare → t.Answered i rec st

/-! ### Holds (R99) -/

/-- R97, R99, R40: every output on the monitor's hold list returns to LIVE, and its FREEZE tag is released from the slot
it was held on; every other source and holder tag is as before, the slots being `old` but for that. -/
def State.HoldsReleased (old : Nat → Slot) (s t : State) : Prop :=
  let held := fun (x : OutId) => s.mon.onHold x = true
    ∧ ((s.out x).source = .heldNone ∨ ∃ k, (s.out x).source = .held k)
  (∀ x, held x → t.out x = { s.out x with source := .live })
    ∧ (∀ x, ¬held x → t.out x = s.out x)
    ∧ ∀ k,
      let frees := fun (x : OutId) => s.mon.onHold x = true ∧ (s.out x).source = .held k
      (t.slots.slot k).freezeA = (if frees .a then false else (old k).freezeA)
      ∧ (t.slots.slot k).freezeB = (if frees .b then false else (old k).freezeB)
      ∧ t.slots.slot k = { old k with
          freezeA := (t.slots.slot k).freezeA, freezeB := (t.slots.slot k).freezeB }

/-- R38: slot `k` after a tear: FREE when it is the FILLING slot, the first where there are more; else as it is. -/
def State.tornSlot (s : State) (k : Nat) : Slot :=
  if (s.slots.slot k).state = .filling ∧ ∀ j, j < k → (s.slots.slot j).state ≠ .filling then
    { s.slots.slot k with state := .free }
  else s.slots.slot k

/-- R37: slot `k` after a completion: READY when it is the FILLING slot, the first where there are more; else as it is. -/
def State.completedSlot (s : State) (k : Nat) : Slot :=
  if (s.slots.slot k).state = .filling ∧ ∀ j, j < k → (s.slots.slot j).state ≠ .filling then
    { s.slots.slot k with state := .ready }
  else s.slots.slot k

/-! ### Splitting a span into transactions -/

/-- R66, R125: the pieces cover `len` bytes from `addr` in increasing address, each as long as possible up to 256 bytes
without crossing a 4 KiB boundary. -/
def SplitsSpan (addr len : Nat) (pieces : List (Nat × Nat)) : Prop :=
  (pieces.map (·.2)).sum = len
    ∧ ∀ i a n, pieces[i]? = some (a, n) → a = addr + ((pieces.take i).map (·.2)).sum ∧ 0 < n ∧ n ≤ 256
      ∧ a % 4096 + n ≤ 4096 ∧ (n = 256 ∨ (a + n) % 4096 = 0 ∨ a + n = addr + len)

/-! ### Regions -/

/-- Two regions share no byte. -/
def Region.Apart (a b : Region) : Prop := ∀ x, a.at x = true → b.at x = false

/-- R31, R53, R140: a capture of `w` × `h` with its window at `base` and its slot region at `region` meets no RANGE
condition. -/
def State.CaptureFits (w h base region : Nat) (s : State) : Prop :=
  let win : Region := ⟨base, w * h * 3 / 2⟩
  let reg : Region := ⟨region, 6 * frameSize w h⟩
  (640 ≤ w ∧ w ≤ 4096 ∧ w % 64 = 0) ∧ (480 ≤ h ∧ h ≤ 3072 ∧ h % 48 = 0) ∧ base % 4096 = 0 ∧ region % 4096 = 0
    ∧ win.base + win.len ≤ 2 ^ 36 ∧ reg.base + reg.len ≤ 2 ^ 36
    ∧ win.Apart s.controlPage ∧ reg.Apart s.controlPage ∧ win.Apart reg
    ∧ (∀ x g, (s.out x).geom = some g → win.Apart g.window ∧ reg.Apart g.window)
    ∧ (s.store.state ≠ .closed → ∃ g, s.store.geom = some g ∧ win.Apart g.extent ∧ reg.Apart g.extent
        ∧ frameSize w h ≤ g.entrySize)

/-- R106: an output of `ow` × `oh` with its window at `base` meets no RANGE condition as output `x`. -/
def State.OutputFits (x : OutId) (ow oh base : Nat) (s : State) : Prop :=
  let win : Region := ⟨base, ow * oh * 3 / 2⟩
  (320 ≤ ow ∧ ow ≤ 1920 ∧ ow % 32 = 0) ∧ (240 ≤ oh ∧ oh ≤ 1200 ∧ oh % 8 = 0) ∧ base % 4096 = 0
    ∧ win.base + win.len ≤ 2 ^ 36 ∧ win.Apart s.controlPage
    ∧ (∀ g, s.cap.geom = some g → win.Apart g.window) ∧ (∀ g, s.slots.geom = some g → win.Apart g.region)
    ∧ (∀ g, (s.out (otherOut x)).geom = some g → win.Apart g.window)
    ∧ (s.store.state ≠ .closed → ∀ g, s.store.geom = some g → win.Apart g.extent)

/-- R135: a store of `e` entries of `size` bytes at `base` meets no RANGE condition. -/
def State.StoreFits (e base size : Nat) (s : State) : Prop :=
  let ext : Region := ⟨base, catalogEnd e + e * size⟩
  1 ≤ e ∧ e ≤ 256 ∧ base % 4096 = 0 ∧ ext.base + ext.len ≤ 2 ^ 36 ∧ ext.Apart s.controlPage
    ∧ (∀ g, s.cap.geom = some g → ext.Apart g.window) ∧ (∀ g, s.slots.geom = some g → ext.Apart g.region)
    ∧ ∀ x g, (s.out x).geom = some g → ext.Apart g.window

/-! ### Invariants -/

/-- R33, R35: six slots; the READY list holds every READY slot once and nothing else; at most one slot is FILLING. -/
def SlotTable.Sound (t : SlotTable) : Prop :=
  t.slots.length = 6 ∧ t.ready.Nodup ∧ (∀ k, k ∈ t.ready ↔ (t.slot k).state = .ready)
    ∧ ∀ j k, (t.slot j).state = .filling → (t.slot k).state = .filling → j = k

/-- The counts and indexes stay in the ranges the spec gives them: the class E loss count (R14), the ring's head, tail
and error count (02 section 2.2), the snapshot queue (R149), the threshold and the fault ring place (09 section 9.1),
the sample (R165). -/
def State.CountsInRange (s : State) : Prop :=
  s.path.lossCount ≤ 32 ∧ s.ring.head < 32 ∧ s.ring.tail < 32 ∧ s.ring.errors ≤ 65535
    ∧ s.store.queue.length ≤ 4 ∧ s.notice.threshold ≤ 7 ∧ s.notice.place < 8
    ∧ ∀ t, s.gov.sample = some t → -40 ≤ t ∧ t ≤ 150

/-- The monitor's inbox holds nothing heard already: it is empty or begins with an answer that AUTO_ANSWER takes. -/
def Monitor.InboxSound (m : Monitor) : Prop := ∀ n, m.inbox.head? = some n → n.isAnswer = true

/-- A view's zoom and ramp lie in the ranges of 06 section 6.4. -/
def View.InRange (v : View) : Prop :=
  256 ≤ v.zt ∧ v.zt ≤ 2048 ∧ 256 ≤ v.zc ∧ v.zc ≤ 2048 ∧ v.ramp ≤ 1792

/-- A saved view's zoom lies in 256..2048 (07 section 7.3). -/
def savedInRange (v : Option SavedView) : Prop := ∀ w, v = some w → 256 ≤ w.zc ∧ w.zc ≤ 2048

/-- Every zoom the part holds is in range: the two views, the saved views of the snapshot requests and of the
catalog. -/
def State.ZoomInRange (s : State) : Prop :=
  s.outA.view.InRange ∧ s.outB.view.InRange ∧ (∀ r ∈ s.store.queue, savedInRange r.view)
    ∧ ∀ r ∈ s.store.catalog, savedInRange r.view

/-- Settings lie in the ranges of 04 section 4.2. -/
def Settings.InRange (n : Settings) : Prop :=
  n.gain ≤ 64 ∧ n.coring ≤ 31 ∧ 32 ≤ n.darkFloor ∧ n.darkFloor ≤ 128

/-- A capture configuration is legal (04 section 4.1). -/
def CapGeom.Legal (g : CapGeom) : Prop :=
  640 ≤ g.w ∧ g.w ≤ 4096 ∧ g.w % 64 = 0 ∧ 480 ≤ g.h ∧ g.h ≤ 3072 ∧ g.h % 48 = 0 ∧ g.base % 4096 = 0

/-- The Capture Enhancer's configuration and settings are legal. -/
def Capture.Legal (c : Capture) : Prop :=
  (∀ g, c.geom = some g → g.Legal) ∧ c.staged.InRange ∧ c.live.InRange

/-- R87: the monitor is OFF exactly while capture is STOPPED. -/
def State.MonitorFollowsCapture (s : State) : Prop := s.cap.running = true ↔ s.mon.state ≠ .off

/-- R98: the hold list has a member only in STANDBY. -/
def Monitor.HoldsOnlyInStandby (m : Monitor) : Prop := ∀ x, m.onHold x = true → m.state = .standby

/-- R141: the ordered catalog holds every record that is not FREE once, with sequences strictly increasing and below
next sequence; at most one record is COPYING, and only while the copy engine serves a request for it. R150, R152: the
engine is IDLE exactly while the queue is empty, and the WANTED record is the SAVED one the engine waits on. A store that
is not OPEN has no queue and no catalog, and a resume is in progress only while it is OPENING. -/
def Store.Sound (st : Store) : Prop :=
  st.order.Nodup ∧ (∀ p, p ∈ st.order ↔ (st.recAt p).state ≠ .free)
    ∧ (st.order.map fun p => (st.recAt p).seq).Pairwise (· < ·)
    ∧ (∀ n, st.nextSeq = some n → ∀ p ∈ st.order, (st.recAt p).seq < n)
    ∧ (∀ p, (st.recAt p).state = .copying ↔ st.engine.state = .copying p ∨ st.engine.state = .paused p)
    ∧ (∀ p, (st.recAt p).wanted = true ↔ st.engine.state = .waiting p)
    ∧ (∀ p, (st.recAt p).wanted = true → (st.recAt p).state = .saved)
    ∧ (st.engine.state = .idle ↔ st.queue = [])
    ∧ (st.state ≠ .opened → st.queue = [] ∧ st.order = [] ∧ st.catalog = [])
    ∧ (st.resume ≠ none → st.state = .opening)

/-- The slot carries SHOW_x, or FREEZE_x. -/
def Slot.shows (sl : Slot) : OutId → Bool
  | .a => sl.showA
  | .b => sl.showB
def Slot.freezes (sl : Slot) : OutId → Bool
  | .a => sl.freezeA
  | .b => sl.freezeB

/-- R149: each slot's COPY count is the number of queued requests for it. R41, R42, R44: a slot with a COPY tag, a slot
latched (with SHOW_x) and a slot a source is frozen or held on (with FREEZE_x) are READY, but for an output that a RESTART
still has answer its queued reads. An output that is not ENABLED has no latch and no queued read. -/
def State.TagsSound (s : State) : Prop :=
  (∀ k, (s.slots.slot k).copies = (s.store.queue.filter fun r => decide (r.slot = k)).length)
    ∧ (∀ k, 0 < (s.slots.slot k).copies → (s.slots.slot k).state = .ready)
    ∧ (∀ x, (s.out x).state ≠ .enabled → (s.out x).latch = none ∧ (s.out x).queue = [])
    ∧ ∀ x k, s.ring.restarting = false ∨ (s.out x).leaving = false →
        ((s.out x).latchedSlot = some k → (s.slots.slot k).state = .ready ∧ (s.slots.slot k).shows x = true)
        ∧ ((s.out x).source.frozenSlot = some k →
            (s.slots.slot k).state = .ready ∧ (s.slots.slot k).freezes x = true)

/-- R2: at most sixteen reads and sixteen writes are in the forwarding queue. -/
def PathUnit.QueueInRange (p : PathUnit) : Prop :=
  ∀ d, (p.fwd.filter fun e => decide (e.dir = d)).length ≤ 16

end Sys2Proof.Machine
end

