-- ==== Sys2Proof/Certificates/Slice0/Obligations.lean ====
section
/-! DEFINITION. The statements for the provers. -/

open Sys2Proof Sys2Proof.Machine

/-! ### The step, RESET_N and RESTART -/

/-- The step runs the command at the front of the queue on the queue's rest. The model's choices: log 2. -/
def Obligations.StepRunsTheFrontCommand : Prop :=
  ∀ (c : Instr) (rest : List Instr) (s : State), s.pending = c :: rest →
    step s = exec c { s with pending := rest }

/-- No command touches the queue of commands that wait (the queue is the model's own, log 2). The model's choices:
log 2. -/
def Obligations.NoCommandTouchesTheQueue : Prop :=
  ∀ (c : Instr) (s t : State), exec c s = .next t → t.pending = s.pending

/-- R17, R29, R49, R81, R103, R130, R162, R171, R184: what RESET_N leaves in every block, and the two writes requested
at its release. The model's choices: log 4. -/
def Obligations.ResetNLeavesEveryBlockAtItsResetValues : Prop :=
  (
  ∀ (n : BitVec 4) (s : State), ∃ t, exec (.resetN n) s = .next t
    ∧ t.path.cpBase = (n.toNat + 1) * 2 ^ 28 - 4096 ∧ t.path.upReads = [] ∧ t.path.upWrites = []
    ∧ t.path.fwd = [] ∧ t.path.handed = [] ∧ t.path.lastA = .b ∧ t.path.lossCount = 0
    ∧ t.ring.head = 0 ∧ t.ring.tail = 0 ∧ t.ring.state = .idle ∧ t.ring.flight = none ∧ t.ring.errors = 0
    ∧ t.recs.waiting = [.record .head, .record .status] ∧ t.recs.flight = []
    ∧ t.store.state = .closed ∧ t.store.geom = none ∧ t.store.keepAll = false ∧ t.store.waitLimit = 60
    ∧ t.store.catalog = [] ∧ t.store.order = [] ∧ t.store.nextSeq = some 1 ∧ t.store.lesson = none
    ∧ t.store.nextLesson = 1 ∧ t.store.page = 0 ∧ t.store.queue = [] ∧ t.store.engine.state = .idle
    ∧ t.store.engine.chunk = 0 ∧ t.store.engine.waitCount = 0 ∧ t.store.engine.waiting = []
    ∧ t.store.engine.flight = [] ∧ t.store.outcome = .none
    ∧ t.gov.state = .normal ∧ t.gov.sample = none ∧ t.gov.flag = false
    ∧ t.notice.pending = 0 ∧ (∀ k : EventKind, t.notice.enable.getLsbD k.number = true)
    ∧ t.notice.threshold = 0 ∧ t.notice.seen = true ∧ t.notice.faults = 0 ∧ t.notice.place = 0
    ∧ t.notice.latches = ⟨false, false, false, false, false, false⟩
    ∧ t.notice.halted = false ∧ t.attn = false ∧ t.pending = s.pending)
  ∧ (
  ∀ (n : BitVec 4) (s : State), ∃ t, exec (.resetN n) s = .next t
    ∧ t.slots.geom = none ∧ t.slots.ready = [] ∧ t.slots.drops = 0 ∧ t.slots.slots.length = 6
    ∧ (∀ k, (t.slots.slot k).state = .free ∧ (t.slots.slot k).frame = 0 ∧ (t.slots.slot k).kind = .enhanced
        ∧ (t.slots.slot k).width = 0 ∧ (t.slots.slot k).height = 0 ∧ (t.slots.slot k).isHeld = false)
    ∧ t.cap.geom = none ∧ t.cap.running = false ∧ t.cap.tracker = .none ∧ t.cap.expected = 0
    ∧ t.cap.dropped = false ∧ t.cap.broken = false ∧ t.cap.degraded = false
    ∧ t.cap.staged = ⟨16, 4, .off, 64⟩ ∧ t.cap.live = ⟨16, 4, .off, 64⟩
    ∧ t.cap.whiteMap = List.replicate 192 235 ∧ t.cap.gains = List.replicate 192 256
    ∧ t.cap.sums = List.replicate 192 0 ∧ t.cap.whites = List.replicate 192 0
    ∧ t.cap.places = [none, none, none, none] ∧ t.cap.frameNo = 0 ∧ t.cap.degradedCount = 0
    ∧ t.mon.state = .off ∧ t.mon.last = none ∧ t.mon.previous = none ∧ t.mon.reference = none
    ∧ t.mon.saved = none ∧ t.mon.stable = 0 ∧ t.mon.idle = 0 ∧ t.mon.scan = 0 ∧ t.mon.presence = 0
    ∧ t.mon.lastScore = 0 ∧ t.mon.compares = 0 ∧ t.mon.settings = ⟨12, 8, 20, 9000, 8, 0, false, false⟩
    ∧ t.mon.holdA = false ∧ t.mon.holdB = false
    ∧ ∀ x, (t.out x).state = .unconfigured ∧ (t.out x).geom = none ∧ (t.out x).source = .live
        ∧ (t.out x).view = ⟨256, 256, 16, none, none, false⟩ ∧ (t.out x).latch = none
        ∧ (t.out x).queue = [] ∧ (t.out x).damaged = false
        ∧ (t.out x).luma = ⟨[], none, none, [], []⟩ ∧ (t.out x).chroma = ⟨[], none, none, [], []⟩
        ∧ (t.out x).fetchWaiting = [] ∧ (t.out x).fetchFlight = [])

/-- R24, R25, R30, R50, R82, R104, R131, R163: RESTART brings every owner to its restart state. With nothing left to wait for
(no frame in progress, no queued read, no class E transaction granted, the store CLOSED) it is answered DONE at once.
A frame in progress is torn; an ENABLED output first answers its queued reads; an OPEN store empties its queue and
abandons its copy; an AUTO request not yet taken is marked, so that its answer saves nothing; DONE then waits for the
tear, the reads and the class E transactions granted, its record accepted and in flight. The model's choices:
logs 8, 15, 37, 42, 46, 47, 48. -/
def Obligations.RestartFromRestIsAnsweredAtOnce : Prop :=
  (
  ∀ (die : Int) (s : State), s.notice.halted = false → s.cap.tracker = .none → s.cap.tearing = false →
    s.outA.queue = [] → s.outB.queue = [] → s.outA.leaving = false → s.outB.leaving = false →
    s.store.engine.flight = [] → s.store.state = .closed → s.store.catalog = [] →
    ∃ t, exec (.restart die) s = .next t
      ∧ t.cap = { t.cap with
          geom := s.cap.geom, running := false, tracker := .none, expected := 0, dropped := false, broken := false
          degraded := false, tearing := false, stopping := false
          staged := ⟨16, 4, .off, 64⟩, live := ⟨16, 4, .off, 64⟩
          sums := List.replicate 192 0, whites := List.replicate 192 0, whiteMap := List.replicate 192 235
          gains := List.replicate 192 256, places := [none, none, none, none], frameNo := s.cap.frameNo
          degradedCount := s.cap.degradedCount, lumaWaiting := [] }
      ∧ t.slots = { s.slots with
          ready := [], slots := List.replicate 6 ⟨.free, 0, .enhanced, false, false, false, false, 0, 0, 0⟩ }
      ∧ t.mon = { s.mon with
          state := .off, last := none, previous := none, reference := none, saved := none, stable := 0, idle := 0
          scan := 0, presence := 0, lastScore := 0, holdA := false, holdB := false
          autoRequests := (s.mon.autoRequests.map fun a => { a with stale := true })
          inbox := s.mon.inbox.map MonNotice.makeStale }
      ∧ (∀ x, (t.out x).source = .live ∧ (t.out x).geom = (s.out x).geom ∧ (t.out x).view = (s.out x).view
          ∧ ((s.out x).state = .enabled → (t.out x).state = .disabled ∧ (t.out x).latch = none
              ∧ (t.out x).damaged = false ∧ (t.out x).luma = ⟨[], none, none, [], []⟩
              ∧ (t.out x).chroma = ⟨[], none, none, [], []⟩)
          ∧ ((s.out x).state ≠ .enabled → (t.out x).state = (s.out x).state))
      ∧ t.store = s.store ∧ t.ring.head = s.ring.head ∧ t.ring.tail = s.ring.tail
      ∧ t.ring.errors = s.ring.errors ∧ t.ring.restarting = false ∧ s.AnswersNow (.restart die) .done t
      ∧ s.changesOnly [.recs, .ring, .slots, .cap, .mon, .outA, .outB] t)
  ∧ (
  ∀ (die : Int) (s : State), s.notice.halted = false →
    let active := s.cap.tracker ≠ .none ∨ s.cap.tearing = true
    let out := s.cap.lumaFlight ≠ [] ∨ ∃ e ∈ s.path.fwd, e.chroma = true ∧ e.resp = none
    ∃ t, exec (.restart die) s = .next t
      ∧ t.cap.running = false ∧ t.cap.tracker = .none ∧ t.cap.lumaWaiting = [] ∧ t.cap.slot = none
      ∧ t.cap.lumaFlight = s.cap.lumaFlight ∧ t.slots.ready = [] ∧ (∀ k, (t.slots.slot k).state = .free)
      ∧ t.mon.state = .off ∧ t.path = { s.path with lossCount := t.path.lossCount }
      ∧ (active → out → t.cap.tearing = true) ∧ (¬active ∨ ¬out → t.cap.tearing = false)
      ∧ (active → ¬out → t.gov.sample = some (max (-40) (min 150 die)))
      ∧ (¬active ∨ out → t.gov = s.gov ∧ t.notice = s.notice)
      ∧ (∀ x, (s.out x).state = .enabled → (s.out x).queue ≠ [] → t.out x = { s.out x with leaving := true })
      ∧ (∀ x, (s.out x).state = .enabled → (s.out x).queue = [] →
          (t.out x).state = .disabled ∧ (t.out x).source = .live ∧ (t.out x).latch = none
          ∧ (t.out x).leaving = false)
      ∧ (t.cap.tearing = false → t.outA.leaving = false → t.outB.leaving = false → t.store.engine.flight = [] →
          t.ring.restarting = false ∧ s.AnswersNow (.restart die) .done t)
      ∧ (t.cap.tearing = true ∨ t.outA.leaving = true ∨ t.outB.leaving = true ∨ t.store.engine.flight ≠ [] →
          t.ring.restarting = true ∧ s.Accepts (.restart die) t)
      ∧ (s.store.state = .opened →
          t.path.lossCount = 0
          ∧ t.store = { s.store with
              catalog := t.store.catalog, order := t.store.order, queue := [], engine := t.store.engine }
          ∧ t.store.engine.state = .idle ∧ t.store.engine.waiting = []
          ∧ t.store.engine.flight = (s.store.engine.flight.map fun y => { y with stale := true })
          ∧ (∀ p, p < s.store.catalog.length →
              ((s.store.recAt p).state = .copying → t.store.recAt p = Rec.blank
                ∧ .record (.catalog p) ∈ t.recs.waiting ∧ .record .status ∈ t.recs.waiting)
              ∧ ((s.store.recAt p).state ≠ .copying → t.store.recAt p = { s.store.recAt p with
                  wanted := false, recallA := (t.store.recAt p).recallA, recallB := (t.store.recAt p).recallB })
              ∧ ∀ x, ((s.out x).state = .enabled → (s.out x).queue = []) → (t.store.recAt p).recalled x = false)
          ∧ (s.store.order.Nodup → ∀ p, p < s.store.catalog.length →
              (p ∈ t.store.order ↔ p ∈ s.store.order ∧ (s.store.recAt p).state ≠ .copying))
          ∧ (s.store.queue ≠ [] → .record .status ∈ t.recs.waiting)))

/-! ### The upstream port -/

/-- R3, R4, R16: the window table holds the control page, the capture window exactly while capture is RUNNING, and an
output's window exactly while it is ENABLED and not leaving, each with its owner's geometry. The treatment of a
transaction by the table as it stands: forwarded while HALTED, inside the control page, when no entry is present or when
it starts in none that is; inside the capture window a write goes to the enhancer and a read is redirected; inside an
output window a read goes to the engine and a write is refused; one that runs past a window's upper end
straddles. The model's choices: log 15. -/
def Obligations.ClassificationFollowsTheWindowTable : Prop :=
  ∀ (t : Txn) (s : State),
    s.controlPage = ⟨s.path.cpBase, 4096⟩
    ∧ (∀ r : Region, s.captureEntry? = some r ↔
        s.cap.running = true ∧ ∃ g, s.cap.geom = some g ∧ r = ⟨g.base, g.w * g.h * 3 / 2⟩)
    ∧ (∀ x (r : Region), s.outputEntry? x = some r ↔ (s.out x).state = .enabled ∧ (s.out x).leaving = false
        ∧ ∃ g, (s.out x).geom = some g ∧ r = ⟨g.base, g.ow * g.oh * 3 / 2⟩)
    ∧ (s.notice.halted = true → s.classify t = .forward)
    ∧ (s.controlPage.at t.addr = true → s.classify t = .forward)
    ∧ (s.captureEntry? = none → s.outputEntry? .a = none → s.outputEntry? .b = none → s.classify t = .forward)
    ∧ ((∀ g, s.captureEntry? = some g → g.at t.addr = false) →
        (∀ x g, s.outputEntry? x = some g → g.at t.addr = false) → s.classify t = .forward)
    ∧ (s.notice.halted = false → s.controlPage.at t.addr = false →
        (∀ g, s.captureEntry? = some g → g.at t.addr = true →
          (g.holds t.addr t.len = true → t.dir = .write → s.classify t = .enhancer (t.addr - g.base))
          ∧ (g.holds t.addr t.len = true → t.dir = .read → s.classify t = .redirect (t.addr - g.base))
          ∧ (g.holds t.addr t.len = false → s.classify t = .straddle))
        ∧ ((∀ g, s.captureEntry? = some g → g.at t.addr = false) →
          ∀ x g, s.outputEntry? x = some g → g.at t.addr = true →
            (∀ g', s.outputEntry? (otherOut x) = some g' → g'.at t.addr = false) →
            (g.holds t.addr t.len = true → t.dir = .read → s.classify t = .engine x (t.addr - g.base))
            ∧ (g.holds t.addr t.len = true → t.dir = .write → s.classify t = .refuse)
            ∧ (g.holds t.addr t.len = false → s.classify t = .straddle)))

/-- R1, R2, R5, R9: a forwarded transaction that is next in its direction joins the forwarding queue unchanged while
there is room, and waits untaken while there is none; a straddling access is forwarded in the same way, with
STRAY_ACCESS. There is room in a direction while the queue holds fewer than 16 transactions of it. A transaction of any
row with an earlier one of its direction waiting ahead of it waits untaken at the end of that direction's line, and
nothing else changes. The model's choices: logs 6, 25. -/
def Obligations.ForwardedTransactionsJoinTheQueueUnchanged : Prop :=
  (
  ∀ (t : Txn) (s : State), t.legal = true → s.classify t = .forward → s.isNext t = true →
    (s.hasRoom t.dir = true → exec (.forwardedTransaction t) s =
      .next ((s.leaveUntaken t).onPath fun p => { p with fwd := p.fwd ++
        [⟨t.id, t.dir, t.addr, t.len, t.data, false, s.observe t, false, none⟩] }))
    ∧ (s.hasRoom t.dir = false → exec (.forwardedTransaction t) s = .next (s.holdUntaken t)))
  ∧ (
  ∀ (t : Txn) (s : State), t.legal = true → s.classify t = .straddle → s.isNext t = true →
    s.hasRoom t.dir = true →
    exec (.straddlingAccess t) s = .next (((s.leaveUntaken t).onPath fun p => { p with fwd := p.fwd ++
      [⟨t.id, t.dir, t.addr, t.len, t.data, false, s.observe t, false, none⟩] }).raise .strayAccess))
  ∧ (
  ∀ (t : Txn) (s : State),
    let line := match t.dir with
      | .read => s.path.upReads
      | .write => s.path.upWrites
    let withLine := fun (l : List Txn) => match t.dir with
      | .read => { s with path := { s.path with upReads := l } }
      | .write => { s with path := { s.path with upWrites := l } }
    (∀ d, s.hasRoom d = true ↔ (s.path.fwd.filter fun e => decide (e.dir = d)).length < 16)
    ∧ (s.isNext t = true ↔ line = [] ∨ line.head? = some t)
    ∧ (t ∈ line → s.holdUntaken t = s) ∧ (t ∉ line → s.holdUntaken t = withLine (line ++ [t]))
    ∧ s.leaveUntaken t = withLine line.tail)
  ∧ (
  ∀ (t : Txn) (s : State), t.legal = true →
    let waits := fun (c : Instr) => exec c s = .next (s.holdUntaken t)
    (s.classify t = .straddle → s.isNext t = true → s.hasRoom t.dir = false → waits (.straddlingAccess t))
    ∧ (∀ off, t.dir = .read → s.classify t = .redirect off → s.isNext t = true → s.hasRoom .read = false →
        waits (.captureWindowRead t))
    ∧ (s.isNext t = false → waits (.forwardedTransaction t) ∧ waits (.straddlingAccess t)
      ∧ (t.dir = .write → ∀ die, waits (.outputWindowWrite t) ∧ waits (.captureWrite t die) ∧ waits (.frameStart t die))
      ∧ (t.dir = .read → waits (.outputWindowRead t) ∧ waits (.captureWindowRead t))))

/-- R10, R11, R16: a forwarded transaction is observed for the words it writes and for the records whose first sixteen
bytes it reads, and for nothing while the part is HALTED. The model's choices: log 9. -/
def Obligations.ObservationsAreTheControlPageWords : Prop :=
  ∀ (t : Txn) (s : State),
    (s.notice.halted = true → s.observe t = [])
    ∧ (s.notice.halted = false → t.dir = .write →
        (∀ v, .submit v ∈ s.observe t ↔ (t.addr ≤ s.path.cpBase + 0x400 ∧ s.path.cpBase + 0x400 < t.addr + t.len
            ∧ v = BitVec.ofNat 32 (fieldAt t.data (s.path.cpBase + 0x400 - t.addr) 4)))
        ∧ (∀ v, .acknowledge v ∈ s.observe t ↔ (t.addr ≤ s.path.cpBase + 0x420
            ∧ s.path.cpBase + 0x420 < t.addr + t.len
            ∧ v = BitVec.ofNat 32 (fieldAt t.data (s.path.cpBase + 0x420 - t.addr) 4)))
        ∧ .noticeRead ∉ s.observe t ∧ .statusRead ∉ s.observe t)
    ∧ (s.notice.halted = false → t.dir = .read →
        (.noticeRead ∈ s.observe t ↔ (t.addr ≤ s.path.cpBase + 0x480 ∧ s.path.cpBase + 0x480 < t.addr + t.len))
        ∧ (.statusRead ∈ s.observe t ↔ (t.addr ≤ s.path.cpBase + 0x500 ∧ s.path.cpBase + 0x500 < t.addr + t.len))
        ∧ (∀ v, .submit v ∉ s.observe t) ∧ ∀ v, .acknowledge v ∉ s.observe t)

/-- R6: a write inside a present output window is answered ERROR with STRAY_ACCESS and goes nowhere; a read inside one
joins the engine's read queue. -/
def Obligations.OutputWindowAccessesGoToTheEngineOrAreRefused : Prop :=
  ∀ (t : Txn) (s : State), t.legal = true → s.isNext t = true →
    (t.dir = .write → s.classify t = .refuse → exec (.outputWindowWrite t) s =
      .next (((s.leaveUntaken t).onPath fun p => { p with upLog := p.upLog ++ [⟨t.id, .write, .error, []⟩] }).raise
        .strayAccess))
    ∧ (∀ x off, t.dir = .read → s.classify t = .engine x off → exec (.outputWindowRead t) s =
      .next ((s.leaveUntaken t).onOut x fun e => { e with queue := e.queue ++ [⟨t.id, off, t.len, false⟩] }))

/-- R8: a capture-window read is redirected to the same offset of the FILLING slot, and forwarded unchanged when no slot
is FILLING. -/
def Obligations.CaptureWindowReadIsRedirectedToTheFillingSlot : Prop :=
  ∀ (t : Txn) (off : Nat) (s : State), t.legal = true → t.dir = .read → s.classify t = .redirect off →
    s.isNext t = true → s.hasRoom .read = true →
    (∀ (g : SlotGeom) (k : Nat), s.slots.geom = some g → k < s.slots.slots.length →
      (s.slots.slot k).state = .filling → (∀ j, j < k → (s.slots.slot j).state ≠ .filling) →
      exec (.captureWindowRead t) s = .next ((s.leaveUntaken t).onPath fun p => { p with fwd := p.fwd ++
        [⟨t.id, .read, g.base + k * g.frameSize + off, t.len, t.data, false, s.observe t, false, none⟩] }))
    ∧ ((∀ k, (s.slots.slot k).state ≠ .filling) →
      exec (.captureWindowRead t) s = .next ((s.leaveUntaken t).onPath fun p => { p with fwd := p.fwd ++
        [⟨t.id, .read, t.addr, t.len, t.data, false, s.observe t, false, none⟩] }))

/-- R2, R9, R10, R11: a class B response to the earliest transaction of its direction is returned upstream at once and
its place freed, and the responses held behind it follow; one that comes ahead of the response of an earlier transaction
of its direction is held. The OKAY response of an observed transaction, outside HALTED, is returned by the row of its
observation and waits for it; an ERROR hands nothing over and is returned at once. The model's choices: logs 6,
9, 24. -/
def Obligations.ClassBResponsesAreReturnedInOrder : Prop :=
  (
  ∀ (d : Dir) (id : Nat) (r : Resp) (data : List Byte) (e : FwdEntry) (pre post : List FwdEntry) (s : State),
    s.path.fwd = pre ++ e :: post → (∀ x ∈ pre, x.dir ≠ d) → (∀ x ∈ post, x.dir = d → x.resp = none) →
    e.dir = d → e.id = id → e.chroma = false → e.granted = true → e.resp = none →
    (d = .read → r = .okay → data.length = e.len) →
    let bytes := if d = .read then data else []
    (r = .error ∨ e.obs = [] ∨ s.notice.halted = true → exec (.classBResponse d id r data) s =
      .next (s.onPath fun p => { p with
        fwd := pre ++ post, upLog := p.upLog ++ [⟨id, d, r, bytes⟩] }))
    ∧ (r = .okay → e.obs ≠ [] → s.notice.halted = false → exec (.classBResponse d id r data) s =
      .next (s.onPath fun p => { p with fwd := pre ++ { e with resp := some (.okay, bytes) } :: post })))
  ∧ (
  ∀ (d : Dir) (id : Nat) (r r' : Resp) (data data' : List Byte) (e x : FwdEntry) (pre mid post : List FwdEntry)
    (s : State),
    s.path.fwd = pre ++ e :: mid ++ x :: post → (∀ y ∈ pre ++ mid, y.dir ≠ d) →
    (∀ y ∈ post, y.dir = d → y.resp = none) → e.awaits d id false = true → x.dir = d → x.resp = some (r', data') →
    (r = .error ∨ e.obs = [] ∨ s.notice.halted = true) → (r' = .error ∨ x.obs = [] ∨ s.notice.halted = true) →
    (d = .read → r = .okay → data.length = e.len) →
    exec (.classBResponse d id r data) s = .next (s.onPath fun p => { p with
      fwd := pre ++ mid ++ post
      upLog := p.upLog ++ [⟨id, d, r, if d = .read then data else []⟩, ⟨x.id, d, r', data'⟩] }))
  ∧ (
  ∀ (d : Dir) (id : Nat) (r : Resp) (data : List Byte) (x e : FwdEntry) (p1 p2 post : List FwdEntry) (s : State),
    s.path.fwd = p1 ++ x :: p2 ++ e :: post → (∀ y ∈ p1, y.dir ≠ d) → x.dir = d → x.resp = none →
    (∀ y ∈ p1 ++ x :: p2, y.awaits d id false = false) → e.awaits d id false = true →
    (d = .read → r = .okay → data.length = e.len) →
    exec (.classBResponse d id r data) s = .next (s.onPath fun p => { p with
      fwd := p1 ++ x :: p2 ++ { e with resp := some (r, if d = .read then data else []) } :: post }))

/-- R7, R80, R63: the response to a redirected chroma write answers the capture write upstream; an ERROR logs
CAPTURE_WRITE unless the frame is torn, and the frame is not degraded by it. The model's choices: log 24. -/
def Obligations.ChromaWriteResponseAnswersTheCaptureWrite : Prop :=
  ∀ (id : Nat) (r : Resp) (e : FwdEntry) (pre post : List FwdEntry) (s : State), s.notice.halted = false →
    s.path.fwd = pre ++ e :: post → (∀ x ∈ pre, x.dir ≠ .write) →
    (∀ x ∈ post, x.dir = .write → x.resp = none) → e.dir = .write → e.id = id → e.chroma = true →
    e.granted = true → e.resp = none → e.obs = [] →
    ∃ t, exec (.chromaWriteResponse id r) s = .next t
      ∧ t.path = { s.path with fwd := pre ++ post, upLog := s.path.upLog ++ [⟨id, .write, r, []⟩] }
      ∧ t.cap = s.cap ∧ t.slots = s.slots
      ∧ (r = .okay ∨ s.cap.tearing = true → s.changesOnly [.path] t)
      ∧ (r = .error → s.cap.tearing = false → ∀ k, s.cap.slot = some k →
          t.notice = (s.logFault .captureWrite .enhancer e.addr s.cap.frameNo (.slot k)).notice
          ∧ t.recs = (s.logFault .captureWrite .enhancer e.addr s.cap.frameNo (.slot k)).recs
          ∧ s.changesOnly [.path, .notice, .recs] t)

/-! ### The arbiter -/

/-- R12, R13, R14, R68: the class granted, in the order A, B, C, D, E, with class C ahead of class B from three places
whose line is EMITTED on, class A alternating, and class E ahead of all once it has lost 32 grants; class B alone while HALTED (R16). -/
def Obligations.ArbiterOrderIsABCDEWithItsExceptions : Prop :=
  ∀ s : State,
    (s.notice.halted = false → s.chooseGrant =
      if s.store.engine.waiting ≠ [] ∧ 32 ≤ s.path.lossCount then some .e
      else if s.outA.fetchWaiting ≠ [] ∧ (s.outB.fetchWaiting = [] ∨ s.path.lastA = .b) then some (.a .a)
      else if s.outB.fetchWaiting ≠ [] then some (.a .b)
      else if s.cap.lumaWaiting ≠ [] ∧ (3 ≤ s.cap.emittedLines ∨ ∀ e ∈ s.path.fwd, e.granted = true) then some .c
      else if ∃ e ∈ s.path.fwd, e.granted = false then some .b
      else if s.recs.waiting ≠ [] then some .d
      else if s.store.engine.waiting ≠ [] then some .e
      else none)
    ∧ (s.notice.halted = true → s.chooseGrant =
      if ∃ e ∈ s.path.fwd, e.granted = false then some .b else none)
    ∧ s.cap.emittedLines = (s.cap.places.filter fun p => decide (p.map (·.cond) = some .emitted)).length

/-- R12, R14, R178: a grant issues the first waiting transaction of the class chosen and updates the loss count; a
record takes its content at the grant; when nothing waits nothing changes. A loss count of 32 grants class E whatever
else waits. The model's choices: log 1. -/
def Obligations.GrantsIssueTheFirstWaitingTransaction : Prop :=
  (
  ∀ s : State, s.notice.halted = false →
    let loss := if s.store.engine.waiting = [] then 0 else min (s.path.lossCount + 1) 32
    (s.chooseGrant = none → exec .downstreamGrant s = .next s)
    ∧ (∀ x f rest, s.chooseGrant = some (.a x) → (s.out x).fetchWaiting = f :: rest →
        exec .downstreamGrant s = .next ((s.onOut x fun e =>
          { e with fetchWaiting := rest, fetchFlight := e.fetchFlight ++ [f] }).onPath fun p =>
            { p with lastA := x, lossCount := loss }))
    ∧ (∀ pre e post, s.chooseGrant = some .b → s.path.fwd = pre ++ e :: post → (∀ y ∈ pre, y.granted = true) →
        e.granted = false → exec .downstreamGrant s = .next (s.onPath fun p =>
          { p with fwd := pre ++ { e with granted := true } :: post, lossCount := loss }))
    ∧ (∀ w rest, s.chooseGrant = some .c → s.cap.lumaWaiting = w :: rest →
        ∃ t, exec .downstreamGrant s = .next t ∧ t.cap.lumaWaiting = rest
          ∧ t.cap.lumaFlight = s.cap.lumaFlight ++ [w] ∧ t.path = { s.path with lossCount := loss }
          ∧ s.changesOnly [.cap, .path] t)
    ∧ (∀ w rest, s.chooseGrant = some .d → s.recs.waiting = w :: rest →
        exec .downstreamGrant s = .next ((s.onRecs fun r =>
          { waiting := rest
            flight := r.flight ++ [match w with
              | .record k => .write k (recordAddr s k) (recordContent s k)
              | .given k data => .write k (recordAddr s k) data
              | .closed k addr data => .write k addr data
              | .fetch addr => .fetch addr
              | .resume addr len => .resume addr len] }).onPath fun p => { p with lossCount := loss }))
    ∧ (∀ x rest, s.chooseGrant = some .e → s.store.engine.waiting = x :: rest →
        exec .downstreamGrant s = .next ((s.onStore fun st => { st with engine := { st.engine with
          waiting := rest, flight := st.engine.flight ++ [x] } }).onPath fun p => { p with lossCount := 0 })))
  ∧ (
  ∀ (s : State) (x : ChunkTxn) (rest : List ChunkTxn), s.notice.halted = false →
    s.store.engine.waiting = x :: rest → 32 ≤ s.path.lossCount →
    exec .lossCountGrant s = .next ((s.onStore fun st => { st with engine := { st.engine with
      waiting := rest, flight := st.engine.flight ++ [x] } }).onPath fun p => { p with lossCount := 0 }))

/-! ### The Directive Unit -/

/-- R10, R20, R21: the row of a submit value acts when the OKAY response of its write is the next write response to be
returned: the response is returned, the value handed to the Directive Unit. A value above 31 is counted as an error; in
IDLE and STALLED one that equals head is taken and leaves or makes the ring IDLE, and any other raises the fetch of the
record at head; in FETCHING it moves the tail, but for the index in flight, which is counted as an error. An error
requests the status record. Without such a response nothing happens. The model's choices: logs 1, 9. -/
def Obligations.SubmitWordIsTakenByTheRingState : Prop :=
  (
  ∀ (v : BitVec 32) (e : FwdEntry) (data : List Byte) (pre post : List FwdEntry) (s : State),
    s.notice.halted = false → s.path.fwd = pre ++ e :: post → (∀ x ∈ pre, x.dir ≠ .write) → e.dir = .write →
    e.resp = some (.okay, data) → e.obs = [.submit v] → (∀ x ∈ post, x.dir = .write → x.resp = none) →
    let s' := s.onPath fun p => { p with
      fwd := pre ++ post, upLog := p.upLog ++ [⟨e.id, .write, .okay, data⟩], handed := p.handed ++ [.submit v] }
    let fetch := fun (u : State) => (u.onRing fun r =>
      { r with tail := v.toNat, state := .fetching, flight := some ⟨r.head, .fetch⟩ }).onRecs fun w =>
        { w with waiting := w.waiting ++ [.fetch (s.path.cpBase + s.ring.head * 32)] }
    let refuse := fun (u : State) =>
      (u.onRing fun r => { r with errors := min (r.errors + 1) 65535 }).requestStatus
    (32 ≤ v.toNat → exec (.submitWord v) s = .next (refuse s'))
    ∧ (v.toNat < 32 → s.ring.state = .idle → v.toNat = s.ring.head →
        exec (.submitWord v) s = .next (s'.onRing fun r => { r with tail := v.toNat }))
    ∧ (v.toNat < 32 → s.ring.state = .idle → v.toNat ≠ s.ring.head → exec (.submitWord v) s = .next (fetch s'))
    ∧ (v.toNat < 32 → s.ring.state = .fetching → (∀ f, s.ring.flight = some f → f.index ≠ v.toNat) →
        exec (.submitWord v) s = .next (s'.onRing fun r => { r with tail := v.toNat }))
    ∧ (v.toNat < 32 → s.ring.state = .fetching → (∃ f, s.ring.flight = some f ∧ f.index = v.toNat) →
        exec (.submitWord v) s = .next (refuse s'))
    ∧ (v.toNat < 32 → s.ring.state = .stalled → v.toNat = s.ring.head →
        exec (.submitWord v) s = .next ((s'.onRing fun r =>
          { r with tail := v.toNat, state := .idle }).request .head))
    ∧ (v.toNat < 32 → s.ring.state = .stalled → v.toNat ≠ s.ring.head →
        exec (.submitWord v) s = .next (fetch s')))
  ∧ (
  ∀ (v : BitVec 32) (s : State),
    (∀ e, s.path.fwd.find? (fun e => decide (e.dir = .write)) = some e →
      .submit v ∉ e.obs ∨ ∀ data, e.resp ≠ some (.okay, data)) → exec (.submitWord v) s = .next s)

/-- R22, R26: an OKAY fetch dispatches the record as fetched; an ERROR stalls the ring, logs RING_READ with the failing
address, leaves head where it is, writes no status and writes the Head unit. The model's choices: log 8. -/
def Obligations.DirectiveFetchResponseDispatchesOrStalls : Prop :=
  ∀ (a i : Nat) (data : List Byte) (s : State), s.notice.halted = false → s.recs.fetchInFlight = some a →
    s.ring.flight = some ⟨i, .fetch⟩ →
    (data.length = 32 → exec (.directiveFetchResponse .okay data) s = .next ((s.onRecs fun w =>
      { w with flight := w.flight.erase (.fetch a) }).onRing fun r =>
        { r with flight := some ⟨i, .dispatched data⟩ }))
    ∧ ∃ t, exec (.directiveFetchResponse .error data) s = .next t
      ∧ t.ring = { s.ring with state := .stalled, flight := none }
      ∧ t.notice.faults = s.notice.faults + 1 ∧ t.notice.isPending .fault = true ∧ t.notice.seen = false
      ∧ .given (.fault s.notice.place) (faultRecord (s.notice.faults + 1) .ringRead .directive a s.cap.frameNo .none)
          ∈ t.recs.waiting
      ∧ (∀ j d, .given (.directive j) d ∈ t.recs.waiting → .given (.directive j) d ∈ s.recs.waiting)
      ∧ .record .head ∈ t.recs.waiting ∧ .record .status ∈ t.recs.waiting
      ∧ s.changesOnly [.ring, .recs, .notice] t

/-- R23, R24, R25: the status an owner gives for the dispatched record `c` raises its status write: the first sixteen
bytes as fetched with the status byte set to the code. A directive accepted for a later answer keeps its record in
flight, and the answer raises its status write in the same way. The model's choices: log 8. -/
def Obligations.AnswerRaisesTheStatusWrite : Prop :=
  (
  ∀ (c : Instr) (st : Status) (i : Nat) (rec : List Byte) (s : State),
    s.ring.flight = some ⟨i, .dispatched rec⟩ → decodeDirective rec = c.bare → 16 ≤ rec.length →
    (∀ d, .given (.directive i) d ∉ s.recs.waiting) →
    ∃ d, s.answer c st = ((s.onRing fun r =>
        { r with flight := some ⟨i, .answered rec⟩, lastStatus := some st }).onRecs fun w =>
          { w with waiting := w.waiting ++ [.given (.directive i) d] })
      ∧ d.length = 16 ∧ fieldAt d 2 1 = st.code ∧ d.take 2 = rec.take 2 ∧ d.drop 3 = (rec.take 16).drop 3)
  ∧ (
  ∀ (c : Instr) (i : Nat) (rec : List Byte) (s : State), s.ring.flight = some ⟨i, .dispatched rec⟩ →
    (decodeDirective rec = c.bare →
      s.accept c = { s with ring := { s.ring with flight := some ⟨i, .accepted rec⟩ } })
    ∧ (decodeDirective rec ≠ c.bare → s.accept c = s))
  ∧ (
  ∀ (ty i : Nat) (st : Status) (rec : List Byte) (s : State),
    s.ring.flight = some ⟨i, .accepted rec⟩ → fieldAt rec 0 1 = ty → 16 ≤ rec.length →
    (∀ d, .given (.directive i) d ∉ s.recs.waiting) →
    ∃ d, s.answerAccepted ty st = { s with
        ring := { s.ring with flight := some ⟨i, .answered rec⟩, lastStatus := some st }
        recs := { s.recs with waiting := s.recs.waiting ++ [.given (.directive i) d] } }
      ∧ d.length = 16 ∧ fieldAt d 2 1 = st.code ∧ d.take 2 = rec.take 2 ∧ d.drop 3 = (rec.take 16).drop 3)

/-- R24, R182: the response of a status write retires its record: head advances, the Head unit is written, DIRECTIVE_DONE is
raised under notify, and the ring becomes IDLE at the tail or raises the next fetch; OKAY or ERROR alike. An OKAY
clears the write error latch of the directive status writes; an ERROR under a clear latch sets it and logs RECORD_WRITE
at the write's address; an ERROR under a set latch logs nothing. The row of the record writes gives the same when the
write is the first one out at its address. The model's choices: logs 12, 24, 35. -/
def Obligations.StatusWriteResponseRetiresTheRecord : Prop :=
  ∀ (i a : Nat) (rec d : List Byte) (r : Resp) (s : State), s.notice.halted = false →
    s.ring.flight = some ⟨i, .answered rec⟩ →
    s.recs.flight.find? RecFlight.isStatusWrite = some (.write (.directive i) a d) →
    ∃ t, exec (.directiveStatusWriteResponse r) s = .next t
      ∧ t.ring.head = (i + 1) % 32 ∧ t.ring.tail = s.ring.tail ∧ t.ring.errors = s.ring.errors
      ∧ ((i + 1) % 32 = s.ring.tail → t.ring.state = .idle ∧ t.ring.flight = none)
      ∧ ((i + 1) % 32 ≠ s.ring.tail → t.ring.state = .fetching ∧ t.ring.flight = some ⟨(i + 1) % 32, .fetch⟩
          ∧ .fetch (s.path.cpBase + (i + 1) % 32 * 32) ∈ t.recs.waiting)
      ∧ .record .head ∈ t.recs.waiting
      ∧ t.recs.flight = s.recs.flight.erase (.write (.directive i) a d)
      ∧ (notifies rec = true → t.notice.isPending .directiveDone = true)
      ∧ (notifies rec = false → t.notice.isPending .directiveDone = s.notice.isPending .directiveDone)
      ∧ (r = .okay → t.notice.latches = { s.notice.latches with directive := false }
          ∧ t.notice.faults = s.notice.faults ∧ t.notice.place = s.notice.place)
      ∧ (r = .error → t.notice.latches = { s.notice.latches with directive := true })
      ∧ (r = .error → s.notice.latches.directive = true →
          t.notice.faults = s.notice.faults ∧ t.notice.place = s.notice.place)
      ∧ (r = .error → s.notice.latches.directive = false →
          t.notice.faults = s.notice.faults + 1 ∧ t.notice.place = (s.notice.place + 1) % 8
          ∧ t.notice.isPending .fault = true ∧ .record .status ∈ t.recs.waiting
          ∧ .given (.fault s.notice.place) (faultRecord (s.notice.faults + 1) .recordWrite .notice a s.cap.frameNo
              .none) ∈ t.recs.waiting)
      ∧ (s.recs.flight.find? (RecFlight.writesAt a) = some (.write (.directive i) a d) →
          exec (.recordWriteResponse a r) s = .next t)
      ∧ s.changesOnly [.ring, .recs, .notice] t

/-- R182: an OKAY clears the target's write error latch; an ERROR under a clear latch sets it and logs one fault,
CATALOG_WRITE for the store's records and RECORD_WRITE for the rest; an ERROR under a set latch logs nothing.
The model's choices: log 24. -/
def Obligations.RecordWriteResponseFollowsTheLatches : Prop :=
  ∀ (k : Target) (l : LatchId) (a : Nat) (d : List Byte) (s : State), s.notice.halted = false →
    s.recs.flight.find? (RecFlight.writesAt a) = some (.write k a d) → k.latch = some l →
    (∀ i, k ≠ .directive i) →
    let s' := s.onRecs fun w => { w with flight := w.flight.erase (.write k a d) }
    exec (.recordWriteResponse a .okay) s = .next (s'.onNotice fun n => { n with latches := n.latches.put l false })
    ∧ (s.notice.latches.get l = true → exec (.recordWriteResponse a .error) s = .next s')
    ∧ (s.notice.latches.get l = false → exec (.recordWriteResponse a .error) s = .next ((s'.onNotice fun n =>
        { n with latches := n.latches.put l true }).logFault
          (if l = .store then .catalogWrite else .recordWrite) .notice a s.cap.frameNo .none))

/-- R183, R16: an ERROR on a fault record write enters HALTED: the queued window reads are answered ERROR with zeros,
the classes A, C, D and E and the line buffer are discarded, and everything else keeps its value; ATTN is high. That the
reads of output A are answered before those of output B is the model's choice. The model's choices: logs 24, 33. -/
def Obligations.DoubleFaultHaltsThePart : Prop :=
  ∀ (k a : Nat) (d : List Byte) (s : State), s.notice.halted = false →
    s.recs.flight.find? (RecFlight.writesAt a) = some (.write (.fault k) a d) →
    ∃ t, exec (.recordWriteResponse a .error) s = .next t
      ∧ t.notice = { s.notice with halted := true } ∧ t.attn = true
      ∧ t.recs.waiting = [] ∧ t.recs.flight = []
      ∧ t.path = { s.path with
          upLog := s.path.upLog ++ (s.outA.queue ++ s.outB.queue).map fun q =>
            ⟨q.id, .read, .error, List.replicate q.len 0⟩ }
      ∧ t.cap = { s.cap with places := [none, none, none, none], lumaWaiting := [], lumaFlight := [] }
      ∧ (∀ x, t.out x = { s.out x with queue := [], fetchWaiting := [], fetchFlight := [] })
      ∧ t.store = { s.store with engine := { s.store.engine with waiting := [], flight := [] } }
      ∧ s.changesOnly [.notice, .recs, .path, .cap, .outA, .outB, .store] t

/-- R23: a type byte that names no directive is answered REFUSED_FORMAT, and no block is told of it; the types from 1 to
26 name the directives, and a record of any other type is dispatched as one whose type is unknown. The row is none for a
type that names a directive. The model's choices: log 7. -/
def Obligations.UnknownTypeIsAnsweredRefusedFormat : Prop :=
  (
  ∀ (ty : BitVec 8) (s : State), s.notice.halted = false → (ty = 0 ∨ 27 ≤ ty.toNat) →
    exec (.unknownDirectiveType ty) s = .next (s.answer (.unknownDirectiveType ty) .refusedFormat)
    ∧ s.changesOnly [.ring, .recs] (s.answer (.unknownDirectiveType ty) .refusedFormat))
  ∧ (
  ∀ ty : BitVec 8, 1 ≤ ty.toNat → ty.toNat ≤ 26 → knownType ty = true
    ∧ ∀ s, exec (.unknownDirectiveType ty) s = .refused .knownDirectiveType)
  ∧ (
  ∀ (ty : BitVec 8) (rest : List Byte),
    (1 ≤ ty.toNat → ty.toNat ≤ 26 → ∀ u, decodeDirective (ty :: rest) ≠ .unknownDirectiveType u)
    ∧ (ty = 0 ∨ 27 ≤ ty.toNat → decodeDirective (ty :: rest) = .unknownDirectiveType ty))

/-- R187: each directive's record, decoded, is the directive with every parameter as written. -/
def Obligations.DecodingADirectiveRecordGivesTheDirective : Prop :=
  ∀ (flags : BitVec 8) (c : Instr) (rec : List Byte), encodeDirective flags c = some rec →
    decodeDirective rec = c.bare ∧ rec.length = 32 ∧ byteAt rec 1 = flags ∧ byteAt rec 2 = 0

/-! ### The Notice Unit -/

/-- R174: ATTN is high while the part is HALTED, and otherwise exactly while the seen flag is clear and an enabled kind
above the threshold, or FAULT whatever the enables and the threshold, is pending. -/
def Obligations.AttnIsHighExactlyWhenSomethingCallsForIt : Prop :=
  ∀ s : State, s.attn = true ↔
    (s.notice.halted = true
      ∨ (s.notice.seen = false
        ∧ ((∃ k : EventKind, s.notice.isPending k = true ∧ s.notice.enable.getLsbD k.number = true
              ∧ s.notice.threshold < k.level)
          ∨ s.notice.isPending .fault = true)))

/-- R173, R181: an event whose kind is not pending joins the pending set, clears the seen flag and requests the notice
record, and one already pending changes nothing, but for FAULT; a fault is counted, written at the ring place, raised
and reported in the status record. -/
def Obligations.EventsAndFaultsReachTheNoticeUnit : Prop :=
  (
  ∀ (k : EventKind) (s : State),
    (s.notice.isPending k = true → k ≠ .fault → s.raise k = s)
    ∧ (s.notice.isPending k = false ∨ k = .fault →
        (∀ j, (s.raise k).notice.isPending j = (s.notice.isPending j || decide (j = k)))
        ∧ (s.raise k).notice = { s.notice with pending := (s.raise k).notice.pending, seen := false }
        ∧ .record .notice ∈ (s.raise k).recs.waiting
        ∧ s.changesOnly [.notice, .recs] (s.raise k)))
  ∧ (
  ∀ (k : FaultKind) (b : BlockId) (addr : Nat) (frame : Count) (pos : FaultPos) (s : State),
    let t := s.logFault k b addr frame pos
    t.notice.faults = s.notice.faults + 1 ∧ t.notice.place = (s.notice.place + 1) % 8
    ∧ t.notice.isPending .fault = true ∧ t.notice.seen = false
    ∧ (∀ j, j ≠ .fault → t.notice.isPending j = s.notice.isPending j)
    ∧ .given (.fault s.notice.place) (faultRecord (s.notice.faults + 1) k b addr frame pos) ∈ t.recs.waiting
    ∧ .record .notice ∈ t.recs.waiting ∧ .record .status ∈ t.recs.waiting
    ∧ t.notice.enable = s.notice.enable ∧ t.notice.threshold = s.notice.threshold
    ∧ t.notice.latches = s.notice.latches ∧ t.notice.halted = s.notice.halted
    ∧ s.changesOnly [.notice, .recs] t)

/-- R10, R11, R175, R176: the row of an observed acknowledge or notice read acts when the OKAY response it belongs to is
the next of its direction to be returned, and returns it. An acknowledge removes the kinds of its low sixteen bits,
requests the notice record when the pending set changes and leaves the seen flag; a read of the notice record sets the
seen flag, unless a write of the record is outstanding. A write of both words hands over both. The model's
choices: logs 1, 9. -/
def Obligations.AcknowledgesAndNoticeReadsAreObserved : Prop :=
  (
  ∀ (v : BitVec 32) (e : FwdEntry) (data : List Byte) (pre post : List FwdEntry) (s : State),
    s.notice.halted = false → s.path.fwd = pre ++ e :: post → (∀ x ∈ pre, x.dir ≠ .write) → e.dir = .write →
    e.resp = some (.okay, data) → (∀ x ∈ post, x.dir = .write → x.resp = none) →
    (e.obs = [.acknowledge v] → ∃ t, exec (.acknowledgeWord v) s = .next t
      ∧ (∀ n, n < 16 → t.notice.pending.getLsbD n = (s.notice.pending.getLsbD n && !v.getLsbD n))
      ∧ t.notice = { s.notice with pending := t.notice.pending }
      ∧ (t.notice.pending ≠ s.notice.pending → t.recs = s.recs.request .notice)
      ∧ (t.notice.pending = s.notice.pending → t.recs = s.recs)
      ∧ t.path = { s.path with
          fwd := pre ++ post, upLog := s.path.upLog ++ [⟨e.id, .write, .okay, data⟩]
          handed := s.path.handed ++ [.acknowledge v] }
      ∧ s.changesOnly [.notice, .recs, .path] t)
    ∧ ∀ w, e.obs = [.submit w, .acknowledge v] → exec (.acknowledgeWord v) s = exec (.submitWord w) s
      ∧ ∃ t, exec (.submitWord w) s = .next t
        ∧ (∀ n, n < 16 → t.notice.pending.getLsbD n = (s.notice.pending.getLsbD n && !v.getLsbD n))
        ∧ (32 ≤ w.toNat → t.ring = { s.ring with errors := min (s.ring.errors + 1) 65535 })
        ∧ (w.toNat < 32 → s.ring.state ≠ .fetching → t.ring.tail = w.toNat)
        ∧ t.path = { s.path with
            fwd := pre ++ post, upLog := s.path.upLog ++ [⟨e.id, .write, .okay, data⟩]
            handed := s.path.handed ++ [.submit w, .acknowledge v] }
        ∧ s.changesOnly [.notice, .recs, .path, .ring] t)
  ∧ (
  ∀ (e : FwdEntry) (data : List Byte) (pre post : List FwdEntry) (s : State),
    s.notice.halted = false → s.path.fwd = pre ++ e :: post → (∀ x ∈ pre, x.dir ≠ .read) → e.dir = .read →
    e.resp = some (.okay, data) → e.obs = [.noticeRead] → (∀ x ∈ post, x.dir = .read → x.resp = none) →
    let s' := s.onPath fun p => { p with
      fwd := pre ++ post, upLog := p.upLog ++ [⟨e.id, .read, .okay, data⟩], handed := p.handed ++ [.noticeRead] }
    ((.record .notice ∈ s.recs.waiting ∨ ∃ a d, .write .notice a d ∈ s.recs.flight) →
      exec .noticeRecordRead s = .next s')
    ∧ (.record .notice ∉ s.recs.waiting → (∀ a d, .write .notice a d ∉ s.recs.flight) →
      exec .noticeRecordRead s = .next (s'.onNotice fun n => { n with seen := true })))
  ∧ (
  ∀ (v : BitVec 32) (s : State),
    ((∀ e, s.path.fwd.find? (fun e => decide (e.dir = .write)) = some e →
      .acknowledge v ∉ e.obs ∨ ∀ data, e.resp ≠ some (.okay, data)) → exec (.acknowledgeWord v) s = .next s)
    ∧ ((∀ e, s.path.fwd.find? (fun e => decide (e.dir = .read)) = some e →
      .noticeRead ∉ e.obs ∨ ∀ data, e.resp ≠ some (.okay, data)) → exec .noticeRecordRead s = .next s))

/-- R177: SET_NOTICE adds the set mask, then removes the clear mask, replaces the threshold, clamped to 0..7, and
requests the notice record. -/
def Obligations.SetNoticeUpdatesEnablesAndThreshold : Prop :=
  ∀ (th : BitVec 8) (set clear : BitVec 16) (s : State), s.notice.halted = false →
    let t := (s.onNotice fun n =>
      { n with enable := (n.enable ||| set) &&& ~~~clear, threshold := min th.toNat 7 }).request .notice
    exec (.setNotice th set clear) s = .next (t.answer (.setNotice th set clear)
      (if 7 < th.toNat then .adjusted else .done))

/-- R101, R142, R179, R180, R181, R186, R188, R189: what each record written says, field by field, with the length the
layout gives; the store header and the catalog record are those of 10 section 10.5. The status record: the capture, monitor, temperature and store states, the flag, the sample, the last
score, the counts, the catalog and queue lengths, the outcome, the two output summaries and the six slot summaries.
The notice record and the Head unit. The signature record, the fault record, the store header and the catalog record.
The highest level is that of a pending kind that is enabled or FAULT, and 0 when there is none. Each record is written
at its own address: in the control page at its offset, a directive's status in its ring record, a fault in its place of
the fault ring, the header at the store's base and the catalog records behind it. -/
def Obligations.RecordsHaveTheirLengths : Prop :=
  (
  ∀ (s : State) (n : Nat),
    let cp := s.path.cpBase
    recordAddr s (.directive n) = cp + 32 * n ∧ recordAddr s .head = cp + 0x410 ∧ recordAddr s .notice = cp + 0x480
    ∧ recordAddr s .status = cp + 0x500 ∧ recordAddr s .signature = cp + 0x600
    ∧ recordAddr s (.fault n) = cp + 0x700 + 32 * n
    ∧ ∀ g : StoreGeom, s.store.geom = some g →
        recordAddr s .header = g.base ∧ recordAddr s (.catalog n) = g.base + 64 + 64 * n)
  ∧
  (
  (∀ s : State, s.slots.slots.length = 6 → (statusRecord s).length = 256)
  ∧ (∀ n, (noticeRecord n).length = 32) ∧ (∀ r, (headUnit r).length = 16)
  ∧ (∀ m sig a, sig.means.length = 192 → (signatureRecord m sig a).length = 256)
  ∧ (∀ c k b a f p, (faultRecord c k b a f p).length = 32) ∧ (∀ g n, (headerRecord g n).length = 64)
  ∧ ∀ p r, (catalogRecord p r).length = 64)
  ∧ (
  ∀ s : State, s.slots.slots.length = 6 →
    let f := fieldAt (statusRecord s)
    f 0 1 = (if s.cap.running then 1 else 0)
    ∧ f 1 1 = (match s.mon.state with | .off => 0 | .motion => 1 | .active => 2 | .standby => 3)
    ∧ f 2 1 = (match s.gov.state with | .normal => 0 | .reduced => 1 | .critical => 2)
    ∧ f 3 1 = (if s.gov.flag then 1 else 0)
    ∧ (s.gov.sample = none → f 4 2 = 0x8000)
    ∧ (∀ t, s.gov.sample = some t → -40 ≤ t → t ≤ 150 → (f 4 2 : Int) = if t < 0 then 65536 + t else t)
    ∧ f 6 1 = s.mon.lastScore % 256
    ∧ f 7 1 = (match s.store.state with | .closed => 0 | .opening => 1 | .opened => 2)
    ∧ f 8 4 = s.cap.frameNo.toNat ∧ f 0xC 4 = s.slots.drops.toNat ∧ f 0x10 4 = s.cap.degradedCount.toNat
    ∧ f 0x14 4 = s.notice.faults.toNat ∧ f 0x18 2 = s.ring.errors % 65536
    ∧ f 0x1A 2 = s.store.order.length % 65536 ∧ f 0x1C 1 = s.store.queue.length % 256
    ∧ f 0x1D 1 = (match s.store.outcome with | .none => 0 | .saved => 1 | .storeFull => 2 | .held => 3 | .io => 4)
    ∧ f 0x1E 2 = 0
    ∧ (∀ x, let o := (match x with | OutId.a => 0x20 | .b => 0x30)
        f o 1 = (match (s.out x).state with | .unconfigured => 0 | .disabled => 1 | .enabled => 2)
        ∧ (f (o + 1) 1, f (o + 2) 2) = (match (s.out x).source with
            | .live => (0, 0xFFFF) | .frozen k => (1, k % 65536) | .held k => (2, k % 65536)
            | .heldNone => (3, 0xFFFF) | .recalled p => (4, p % 65536) | .blank => (5, 0xFFFF))
        ∧ f (o + 4) 2 = (s.out x).view.zc % 65536 ∧ f (o + 6) 8 = 0 ∧ f (o + 14) 2 = 0)
    ∧ (∀ k, k < 6 → let o := 0x40 + k * 16
        let sl := s.slots.slot k
        f o 1 = (match sl.state with | .free => 0 | .filling => 1 | .ready => 2)
        ∧ f (o + 1) 1 = (match sl.kind with | .enhanced => 0 | .plain => 1 | .degraded => 2)
        ∧ f (o + 2) 1 = (if sl.showA then 1 else 0) + (if sl.showB then 2 else 0) + (if sl.freezeA then 4 else 0)
            + (if sl.freezeB then 8 else 0)
        ∧ f (o + 3) 1 = sl.copies % 256 ∧ f (o + 4) 4 = sl.frame.toNat ∧ f (o + 8) 2 = sl.width % 65536
        ∧ f (o + 10) 2 = sl.height % 65536 ∧ f (o + 12) 4 = 0)
    ∧ ∀ i, 0xA0 ≤ i → i < 256 → f i 1 = 0)
  ∧ (
  ∀ n : NoticeUnit,
    let f := fieldAt (noticeRecord n)
    f 0 2 = n.pending.toNat ∧ f 2 2 = n.enable.toNat ∧ f 4 1 = n.threshold % 256 ∧ f 5 1 = n.highestLevel
    ∧ (∀ i, 6 ≤ i → i < 32 → f i 1 = 0)
    ∧ (∀ k : EventKind, n.isPending k = true → n.enable.getLsbD k.number = true ∨ k = .fault →
        k.level ≤ n.highestLevel)
    ∧ (n.highestLevel = 0 ∨ ∃ k : EventKind, k.level = n.highestLevel ∧ n.isPending k = true
        ∧ (n.enable.getLsbD k.number = true ∨ k = .fault)))
  ∧ (
  ∀ r : Ring, r.head < 32 → r.tail < 32 →
    let f := fieldAt (headUnit r)
    f 0 1 = r.head ∧ f 1 1 = r.tail
    ∧ f 2 1 = (match r.state with | .idle => 0 | .fetching => 1 | .stalled => 2) ∧ ∀ i, 3 ≤ i → i < 16 → f i 1 = 0)
  ∧ (
  ∀ (m : Monitor) (sig : Signature) (a : Against), sig.means.length = 192 →
    let f := fieldAt (signatureRecord m sig a)
    f 0 4 = m.compares.toNat ∧ f 4 4 = sig.frame.toNat ∧ (∀ k, sig.slot = some k → f 8 1 = k % 256)
    ∧ (sig.slot = none → f 8 1 = 0xFF) ∧ f 9 1 = (match a with | .previous => 0 | .reference => 1 | .saved => 2)
    ∧ f 0xA 1 = m.lastScore % 256
    ∧ f 0xB 1 = (match m.state with | .off => 0 | .motion => 1 | .active => 2 | .standby => 3)
    ∧ f 0xC 1 = m.stable % 256 ∧ f 0xD 1 = 0 ∧ f 0xE 2 = m.idle % 65536 ∧ (∀ i, 0x10 ≤ i → i < 0x40 → f i 1 = 0)
    ∧ ∀ n, n < 192 → f (0x40 + n) 1 = sig.means.getD n 0 % 256)
  ∧ (
  ∀ (count : Count) (k : FaultKind) (b : BlockId) (addr : Nat) (frame : Count) (pos : FaultPos),
    let f := fieldAt (faultRecord count k b addr frame pos)
    f 0 4 = count.toNat
    ∧ f 4 1 = (match k with
        | .captureWrite => 1 | .outputFetch => 2 | .copyRead => 3 | .copyWrite => 4
        | .ringRead => 5 | .catalogRead => 6 | .catalogWrite => 7 | .recordWrite => 8)
    ∧ f 5 1 = (match b with
        | .path => 1 | .directive => 2 | .slots => 3 | .enhancer => 4 | .monitor => 5
        | .outputA => 6 | .outputB => 7 | .store => 8 | .governor => 9 | .notice => 10)
    ∧ (f 6 1, f 0x14 2) = (match pos with
        | .none => (0, 0)
        | .slot n => (1, n % 65536)
        | .entry n => (2, n % 65536))
    ∧ f 7 1 = 0 ∧ f 8 8 = addr % 2 ^ 36 ∧ f 0x10 4 = frame.toNat ∧ ∀ i, 0x16 ≤ i → i < 32 → f i 1 = 0)
  ∧ (
  ∀ (g : StoreGeom) (n : Nat),
    let f := fieldAt (headerRecord g n)
    f 0 4 = 0x20405354 ∧ f 4 2 = g.e % 65536 ∧ f 6 2 = 0 ∧ f 8 4 = g.entrySize % 2 ^ 32 ∧ f 0xC 2 = n % 65536
    ∧ ∀ i, 0xE ≤ i → i < 64 → f i 1 = 0)
  ∧ (
  ∀ (p : Nat) (r : Rec),
    let f := fieldAt (catalogRecord p r)
    f 0 2 = p % 65536 ∧ (r.state = .free → ∀ i, 2 ≤ i → i < 64 → f i 1 = 0)
    ∧ (r.state ≠ .free →
        f 2 1 = (match r.state with | .free => 0 | .copying => 1 | .saved => 2)
        ∧ f 3 1 = (if r.kept then 1 else 0) + (if r.auto then 2 else 0) + (match r.view with
            | some v => if v.flip then 12 else 4
            | none => 0)
        ∧ f 4 4 = r.seq % 2 ^ 32 ∧ f 8 4 = r.frame.toNat ∧ f 0xC 2 = r.lesson % 65536 ∧ f 0xE 2 = r.page % 65536
        ∧ f 0x10 1 = (match r.kind with | .enhanced => 0 | .plain => 1 | .degraded => 2) ∧ f 0x11 1 = 0
        ∧ f 0x12 2 = r.width % 65536 ∧ f 0x14 2 = r.height % 65536
        ∧ (f 0x16 2, f 0x18 2, f 0x1A 2) = (match r.view with
            | some v => (v.zc % 65536, v.cx % 65536, v.cy % 65536)
            | none => (0, 0, 0))
        ∧ ∀ i, 0x1C ≤ i → i < 64 → f i 1 = 0))

/-! ### The Temperature Governor -/

/-- R166: the temperature state after a sample, whatever the state before; a sample that leaves the state as it was
stores the reading and does nothing more. -/
def Obligations.SampleMovesTheTemperatureState : Prop :=
  ∀ (t : Int), -40 ≤ t → t ≤ 150 →
    (t ≤ 95 → ∀ st : TempState, st.after t = .normal)
    ∧ (96 ≤ t → t ≤ 104 → TempState.normal.after t = .normal ∧ TempState.reduced.after t = .reduced
        ∧ TempState.critical.after t = .reduced)
    ∧ (105 ≤ t → t ≤ 110 → ∀ st : TempState, st.after t = .reduced)
    ∧ (111 ≤ t → t ≤ 119 → TempState.normal.after t = .reduced ∧ TempState.reduced.after t = .reduced
        ∧ TempState.critical.after t = .critical)
    ∧ (120 ≤ t → ∀ st : TempState, st.after t = .critical)
    ∧ ∀ s : State, (s.sampleDie t).gov.state = s.gov.state.after t
      ∧ (s.gov.state.after t = s.gov.state → s.sampleDie t = { s with gov := { s.gov with sample := some t } })

/-- R11, R165, R167, R168, R170: a sample stores the clamped reading, and a change of state sets the flag and raises its
event; a return to NORMAL makes a PAUSED copy engine raise its next chunk; an observed read of the status record, whose
response its row returns, clears a set flag in NORMAL. A read of both records tells both owners. The model's
choices: logs 1, 9. -/
def Obligations.SamplesAndStatusReadsReachTheGovernor : Prop :=
  (
  ∀ (reading : Int) (s : State),
    let t := s.sampleDie reading
    let after := s.gov.state.after (max (-40) (min 150 reading))
    t.gov.sample = some (max (-40) (min 150 reading)) ∧ t.gov.state = after
    ∧ (after = s.gov.state → t.notice = s.notice ∧ t.recs = s.recs ∧ t.gov.flag = s.gov.flag ∧ t.store = s.store)
    ∧ (s.gov.state.rank < after.rank → t.gov.flag = true ∧ t.notice = (s.raise .thermal).notice)
    ∧ (after.rank < s.gov.state.rank → after ≠ .normal → t.gov.flag = true ∧ t.notice = s.notice)
    ∧ (after = .normal → s.gov.state ≠ .normal →
        t.gov.flag = s.gov.flag ∧ t.notice = (s.raise .thermalClear).notice)
    ∧ (∀ p q rest, after = .normal → s.gov.state ≠ .normal → s.store.engine.state = .paused p →
        s.store.queue = q :: rest → t.store = { s.store with engine := t.store.engine }
        ∧ t.store.engine.state = .copying p ∧ t.store.engine.chunk = s.store.engine.chunk
        ∧ t.store.engine.waiting = (List.range 16).map fun i =>
            ⟨.read, s.slotAddr q.slot + s.store.engine.chunk * 4096 + i * 256, [], false⟩)
    ∧ (after ≠ .normal ∨ (∀ p, s.store.engine.state ≠ .paused p) → t.store = s.store)
    ∧ (after ≠ s.gov.state → .record .status ∈ t.recs.waiting)
    ∧ s.changesOnly [.gov, .notice, .recs, .store] t)
  ∧ (
  ∀ (e : FwdEntry) (data : List Byte) (pre post : List FwdEntry) (s : State),
    s.notice.halted = false → s.path.fwd = pre ++ e :: post → (∀ x ∈ pre, x.dir ≠ .read) → e.dir = .read →
    e.resp = some (.okay, data) → (∀ x ∈ post, x.dir = .read → x.resp = none) →
    let s' := s.onPath fun p => { p with
      fwd := pre ++ post, upLog := p.upLog ++ [⟨e.id, .read, .okay, data⟩], handed := p.handed ++ e.obs }
    (e.obs = [.statusRead] →
      (s.gov.state = .normal → s.gov.flag = true → exec .statusRecordRead s =
        .next ((s'.onGov fun g => { g with flag := false }).request .status))
      ∧ (s.gov.state ≠ .normal ∨ s.gov.flag = false → exec .statusRecordRead s = .next s'))
    ∧ (e.obs = [.noticeRead, .statusRead] → exec .statusRecordRead s = exec .noticeRecordRead s
      ∧ ∃ t, exec .statusRecordRead s = .next t ∧ t.path = s'.path
        ∧ (s.gov.state = .normal → t.gov.flag = false)
        ∧ (.record .notice ∉ s.recs.waiting → (∀ a d, .write .notice a d ∉ s.recs.flight) → t.notice.seen = true)))
  ∧ (
  ∀ s : State, (∀ e, s.path.fwd.find? (fun e => decide (e.dir = .read)) = some e →
      .statusRead ∉ e.obs ∨ ∀ data, e.resp ≠ some (.okay, data)) → exec .statusRecordRead s = .next s)

/-! ### The Capture Enhancer and the Slot Table -/

/-- R27, R31, R32, R53, R140: CONFIGURE_CAPTURE is refused BUSY while capture is RUNNING or a slot is held, else RANGE
when the geometry does not fit, and otherwise taken, with the enhancer and the slots set up afresh. -/
def Obligations.ConfigureCaptureIsRefusedOrTaken : Prop :=
  ∀ (w h : BitVec 16) (window region : BitVec 64) (s : State), s.notice.halted = false →
    let c := Instr.configureCapture w h window region
    let busy := s.cap.running = true ∨ ∃ sl ∈ s.slots.slots, sl.isHeld = true
    let fits := s.CaptureFits w.toNat h.toNat window.toNat region.toNat
    (busy → exec c s = .next (s.answer c .refusedBusy))
    ∧ (¬busy → ¬fits → exec c s = .next (s.answer c .refusedRange))
    ∧ (¬busy → fits → exec c s = .next (State.answer c .done { s with
        cap := { s.cap with
          geom := some ⟨window.toNat, w.toNat, h.toNat⟩
          whiteMap := List.replicate 192 235, gains := List.replicate 192 256
          sums := List.replicate 192 0, whites := List.replicate 192 0 }
        slots := { s.slots with
          geom := some ⟨region.toNat, w.toNat, h.toNat, frameSize w.toNat h.toNat⟩
          slots := List.replicate 6 ⟨.free, 0, .enhanced, false, false, false, false, 0, 0, 0⟩, ready := [] } }))

/-- R25, R38, R54, R55, R63, R87, R97, R99: when START_CAPTURE and STOP_CAPTURE are refused; a start takes the monitor
to MOTION; a stop acts by the tracker: with no frame in progress at once, a RECEIVING frame is torn first, its FILLING
slot becoming FREE, a DRAINING one completes first. A stop that must wait keeps its record in flight, unanswered. The
outputs on the hold list return to LIVE and their FREEZE tags are released; every other source, holder tag and slot is
as before. The model's choices: logs 11, 15, 41, 42, 50. -/
def Obligations.CaptureStartsAndStops : Prop :=
  (
  ∀ s : State, s.notice.halted = false →
    (s.cap.geom = none ∨ s.cap.running = true → exec .startCapture s = .next (s.answer .startCapture .refusedState))
    ∧ (s.cap.geom ≠ none → s.cap.running = false → exec .startCapture s = .next (State.answer .startCapture .done
        (State.requestStatus { s with
          cap := { s.cap with running := true, tracker := .none }
          mon := { s.mon with state := .motion, previous := none, stable := 0 } }))))
  ∧ (
  ∀ (die : Int) (s : State), s.notice.halted = false →
    (s.cap.running = false → exec (.stopCapture die) s = .next (s.answer (.stopCapture die) .refusedState))
    ∧ (s.cap.running = true → s.cap.tearing = false → s.cap.tracker = .none →
        ∃ t, exec (.stopCapture die) s = .next t
          ∧ t.cap = { s.cap with running := false, stopping := false, live := s.cap.staged }
          ∧ t.mon = { s.mon with state := .off, previous := none, stable := 0, scan := 0, presence := 0
                                 holdA := false, holdB := false }
          ∧ t.slots.ready = s.slots.ready ∧ t.slots.drops = s.slots.drops ∧ s.HoldsReleased s.slots.slot t
          ∧ s.AnswersNow (.stopCapture die) .done t ∧ .record .status ∈ t.recs.waiting
          ∧ s.changesOnly [.cap, .mon, .slots, .outA, .outB, .ring, .recs] t)
    ∧ (s.cap.running = true → s.cap.tearing = false → s.cap.tracker = .receiving → s.cap.lumaFlight = [] →
        (∀ e ∈ s.path.fwd, e.chroma = true → e.resp ≠ none) →
        ∃ t, exec (.stopCapture die) s = .next t
          ∧ t.cap.running = false ∧ t.cap.tracker = .none ∧ t.cap.tearing = false ∧ t.cap.live = s.cap.staged
          ∧ t.cap.places = [none, none, none, none] ∧ t.cap.lumaWaiting = [] ∧ t.cap.slot = none
          ∧ t.cap.whiteMap = s.cap.whiteMap ∧ t.cap.frameNo = s.cap.frameNo
          ∧ t.mon = { s.mon with state := .off, previous := none, stable := 0, scan := 0, presence := 0
                                 holdA := false, holdB := false }
          ∧ t.slots.ready = s.slots.ready ∧ t.slots.drops = s.slots.drops ∧ s.HoldsReleased s.tornSlot t
          ∧ t.gov.sample = some (max (-40) (min 150 die)) ∧ .record .status ∈ t.recs.waiting ∧ s.WaitCounted t
          ∧ s.AnswersNow (.stopCapture die) .done t ∧ t.path = s.path)
    ∧ (s.cap.running = true → s.cap.tearing = false → s.cap.tracker = .receiving →
        (s.cap.lumaFlight ≠ [] ∨ ∃ e ∈ s.path.fwd, e.chroma = true ∧ e.resp = none) →
        ∃ t, exec (.stopCapture die) s = .next t
          ∧ t.cap = { s.cap with places := [none, none, none, none], lumaWaiting := [], slot := none
                                 tearing := true, stopping := true }
          ∧ t.slots = { s.slots with slots := t.slots.slots } ∧ (∀ k, t.slots.slot k = s.tornSlot k)
          ∧ s.Accepts (.stopCapture die) t ∧ s.changesOnly [.cap, .slots, .ring] t)
    ∧ (s.cap.running = true → s.cap.tracker = .draining ∨ s.cap.tearing = true →
        ∃ t, exec (.stopCapture die) s = .next t
          ∧ t.cap = { s.cap with stopping := true } ∧ s.Accepts (.stopCapture die) t
          ∧ s.changesOnly [.cap, .ring] t))

/-- R56: SET_ENHANCE with a levelling value above 2 is refused RANGE; else the four values, clamped, replace the staged
settings, and the live ones too while capture is STOPPED. -/
def Obligations.SetEnhanceReplacesTheStagedSettings : Prop :=
  ∀ (gain coring levelling darkFloor : BitVec 8) (s : State), s.notice.halted = false →
    let c := Instr.setEnhance gain coring levelling darkFloor
    let n : Settings := ⟨min 64 gain.toNat, min 31 coring.toNat,
      if levelling = 0 then .off else if levelling = 1 then .on else .hold, max 32 (min 128 darkFloor.toNat)⟩
    let inRange := gain.toNat ≤ 64 ∧ coring.toNat ≤ 31 ∧ 32 ≤ darkFloor.toNat ∧ darkFloor.toNat ≤ 128
    (2 < levelling.toNat → exec c s = .next (s.answer c .refusedRange))
    ∧ (levelling.toNat ≤ 2 → s.cap.running = true → exec c s = .next (State.answer c
        (if inRange then .done else .adjusted) { s with cap := { s.cap with staged := n } }))
    ∧ (levelling.toNat ≤ 2 → s.cap.running = false → exec c s = .next (State.answer c
        (if inRange then .done else .adjusted) { s with cap := { s.cap with staged := n, live := n } }))

/-- R57, R58, R59, R63, R67, R76: a capture write at offset 0 with no frame in progress starts a frame: the frame number, the
settings and the frame mode are fixed, the gains come from the white map, the tile accumulators are cleared, and the
write itself is taken in order: it alone feeds the accumulators and, in a stored frame, stands in line 0's place. One
that meets a frame RECEIVING tears it first: with no response of the torn frame out the tear ends, counts as a frame
end that is sampled and the frame starts; else the write waits for the tear. In DRAINING, and while a tear is in
progress, it waits. The model's choices: logs 11, 17, 42. -/
def Obligations.FrameStartFixesTheFrame : Prop :=
  (
  ∀ (t : Txn) (g : CapGeom) (die : Int) (s : State), t.legal = true → t.dir = .write →
    s.classify t = .enhancer 0 → s.cap.geom = some g → g.Legal → s.isNext t = true → s.cap.tearing = false →
    s.cap.tracker = .none →
    ∃ u, exec (.frameStart t die) s = .next u
      ∧ u.cap.tracker = .receiving ∧ u.cap.expected = t.len ∧ u.cap.frameNo = s.cap.frameNo + 1
      ∧ u.cap.live = s.cap.staged ∧ u.cap.frameLevelling = s.cap.staged.levelling
      ∧ u.cap.frameKind = (if s.mon.state = .standby ∨ s.gov.state = .critical then .plain else .enhanced)
      ∧ (s.gov.state = .normal → u.cap.gEff = s.cap.staged.gain ∧ u.cap.cEff = s.cap.staged.coring)
      ∧ (s.gov.state = .reduced → u.cap.gEff = min s.cap.staged.gain 16 ∧ u.cap.cEff = max s.cap.staged.coring 6)
      ∧ u.cap.gains = s.cap.whiteMap.map (tileGain s.cap.staged.darkFloor)
      ∧ u.cap.broken = false ∧ u.cap.degraded = false ∧ u.cap.whiteMap = s.cap.whiteMap
      ∧ u.cap.StartedWith g t ∧ u.cap.lumaWaiting = s.cap.lumaWaiting ∧ u.cap.lumaFlight = s.cap.lumaFlight
      ∧ u.path.upLog = s.path.upLog ++ [⟨t.id, .write, .okay, []⟩] ∧ u.path.fwd = s.path.fwd
      ∧ s.changesOnly [.path, .cap, .slots, .notice, .recs] u)
  ∧ (
  ∀ (t : Txn) (g : CapGeom) (die : Int) (s : State), t.legal = true → t.dir = .write →
    s.classify t = .enhancer 0 → s.cap.geom = some g → g.Legal →
    let out := s.cap.lumaFlight ≠ [] ∨ ∃ e ∈ s.path.fwd, e.chroma = true ∧ e.resp = none
    (s.cap.tearing = true ∨ s.cap.tracker = .draining → exec (.frameStart t die) s = .next (s.holdUntaken t))
    ∧ (s.isNext t = true → s.cap.tearing = false → s.cap.tracker = .receiving → out →
        ∃ u, exec (.frameStart t die) s = .next u
        ∧ u.cap = { s.cap with places := [none, none, none, none], lumaWaiting := [], slot := none, tearing := true }
        ∧ u.path = (s.holdUntaken t).path
        ∧ (∀ k, k < s.slots.slots.length → (s.slots.slot k).state = .filling →
            (∀ j, j < k → (s.slots.slot j).state ≠ .filling) → (u.slots.slot k).state = .free
            ∧ ∀ j, j ≠ k → u.slots.slot j = s.slots.slot j)
        ∧ s.changesOnly [.path, .cap, .slots] u)
    ∧ (s.isNext t = true → s.cap.tearing = false → s.cap.tracker = .receiving → ¬out →
        ∃ u, exec (.frameStart t die) s = .next u
        ∧ u.cap.tracker = .receiving ∧ u.cap.tearing = false ∧ u.cap.expected = t.len
        ∧ u.cap.frameNo = s.cap.frameNo + 1 ∧ u.cap.live = s.cap.staged ∧ u.cap.broken = false
        ∧ u.cap.degraded = false ∧ u.cap.degradedCount = s.cap.degradedCount ∧ u.cap.whiteMap = s.cap.whiteMap
        ∧ u.cap.StartedWith g t ∧ u.cap.lumaWaiting = [] ∧ u.cap.lumaFlight = []
        ∧ u.cap.gains = s.cap.whiteMap.map (tileGain s.cap.staged.darkFloor)
        ∧ u.gov.sample = some (max (-40) (min 150 die)) ∧ .record .status ∈ u.recs.waiting ∧ s.WaitCounted u
        ∧ u.path.upLog = s.path.upLog ++ [⟨t.id, .write, .okay, []⟩] ∧ u.path.fwd = s.path.fwd
        ∧ ((∃ k, k < s.slots.slots.length ∧ (s.slots.slot k).state = .filling) →
            u.cap.dropped = false ∧ ∃ j, u.cap.slot = some j ∧ (u.slots.slot j).state = .filling
              ∧ (u.slots.slot j).frame = s.cap.frameNo + 1)
        ∧ s.changesOnly [.path, .cap, .slots, .gov, .notice, .recs, .store] u))

/-- R35, R36: the frame that starts fills the FREE slot of the lowest index, else the READY slot nearest the head that
is not held and not the tail, with its number and kind, the width and height configured and no tag; else it is dropped, counted and reported. -/
def Obligations.FrameStartChoosesTheSlotToFill : Prop :=
  ∀ (t : Txn) (g : CapGeom) (die : Int) (s : State), t.legal = true → t.dir = .write →
    s.classify t = .enhancer 0 → s.cap.geom = some g → g.Legal → s.isNext t = true → s.cap.tearing = false →
    s.cap.tracker = .none → (∀ k, (s.slots.slot k).state ≠ .filling) →
    ∃ u, exec (.frameStart t die) s = .next u
      ∧ (∀ k, k < s.slots.slots.length → (s.slots.slot k).state = .free →
          (∀ j, j < k → (s.slots.slot j).state ≠ .free) →
          u.cap.slot = some k ∧ u.cap.dropped = false ∧ u.slots.drops = s.slots.drops ∧ u.notice = s.notice
          ∧ (u.slots.slot k).state = .filling ∧ (u.slots.slot k).frame = s.cap.frameNo + 1
          ∧ (u.slots.slot k).kind = u.cap.frameKind ∧ (u.slots.slot k).isHeld = false
          ∧ (∀ sg, s.slots.geom = some sg → (u.slots.slot k).width = sg.w ∧ (u.slots.slot k).height = sg.h)
          ∧ u.slots.ready = s.slots.ready.erase k ∧ ∀ j, j ≠ k → u.slots.slot j = s.slots.slot j)
      ∧ (∀ k pre post, (∀ j, j < s.slots.slots.length → (s.slots.slot j).state ≠ .free) →
          k < s.slots.slots.length → s.slots.ready = pre ++ k :: post → post ≠ [] →
          (s.slots.slot k).isHeld = false → (∀ j ∈ pre, (s.slots.slot j).isHeld = true) →
          u.cap.slot = some k ∧ u.cap.dropped = false ∧ u.slots.drops = s.slots.drops
          ∧ u.slots.ready = pre ++ post ∧ (u.slots.slot k).state = .filling
          ∧ (u.slots.slot k).frame = s.cap.frameNo + 1 ∧ (u.slots.slot k).kind = u.cap.frameKind
          ∧ (u.slots.slot k).isHeld = false
          ∧ (∀ sg, s.slots.geom = some sg → (u.slots.slot k).width = sg.w ∧ (u.slots.slot k).height = sg.h)
          ∧ ∀ j, j ≠ k → u.slots.slot j = s.slots.slot j)
      ∧ ((∀ j, j < s.slots.slots.length → (s.slots.slot j).state ≠ .free) →
          (∀ j ∈ s.slots.ready.dropLast, (s.slots.slot j).isHeld = true) →
          u.cap.slot = none ∧ u.cap.dropped = true ∧ u.notice.isPending .frameDropped = true
          ∧ u.slots = { s.slots with drops := s.slots.drops + 1 })

/-- R39, R59 to R62, R64 to R67, R69, R76, R78, R152: what a capture write away from offset 0 does. With no frame
receiving it is discarded, answered OKAY and reported. In order, a dropped frame's is answered OKAY and stored
nowhere, and its last ends the frame; a stored frame's luma is answered OKAY when the line buffer accepts it and waits
untaken when it does not: in order it is accepted when there are as many free places as lines it touches without one,
with a broken order when one place is free, and chroma besides when the forwarding queue has room for it. Its chroma is
redirected to the slot and is answered later. A write that ends at the frame's last byte ends receipt, in order or not. Each captured luma byte accepted
in order is added to the sum of its tile, and each aligned group of four raises its tile's white to the group's mean.
Out of order a write breaks the frame's order, which degrades the frame and its slot once. A line of luma gathers in one place of
the line buffer. Complete, it is written to the slot as captured in a PLAIN frame; else it completes the line above,
which is written enhanced from its three lines, and the last line is written with it. A
write that crosses a line's end completes the line and begins the next; one that runs from luma into chroma ends the
last line and redirects its chroma bytes, and is answered with them. A broken order has the lines
that stand in the buffer written as captured, and each write from then on takes a place and is written as it came. The
writes are as long as possible up to 256 bytes, and the last one granted frees the line's place or leaves it a
NEIGHBOUR. The model's choices: logs 11, 12, 18, 19, 32. -/
def Obligations.CaptureWriteFollowsTheTracker : Prop :=
  (
  ∀ (t : Txn) (g : CapGeom) (off : Nat) (die : Int) (s : State), t.legal = true → t.dir = .write →
    s.classify t = .enhancer off → off ≠ 0 → s.cap.geom = some g → s.isNext t = true → s.cap.tearing = false →
    let okay : UpResponse := ⟨t.id, .write, .okay, []⟩
    let last := g.w * g.h * 3 / 2
    (s.cap.tracker ≠ .receiving → ∃ u, exec (.captureWrite t die) s = .next u
        ∧ u.path.upLog = s.path.upLog ++ [okay] ∧ u.notice.isPending .strayAccess = true
        ∧ s.changesOnly [.path, .notice, .recs] u)
    ∧ (s.cap.tracker = .receiving → off = s.cap.expected → s.cap.dropped = true → off + t.len ≠ last →
        ∃ u, exec (.captureWrite t die) s = .next u
          ∧ u.path.upLog = s.path.upLog ++ [okay] ∧ u.path.fwd = s.path.fwd
          ∧ u.cap = { s.cap with expected := off + t.len, sums := u.cap.sums, whites := u.cap.whites }
          ∧ s.changesOnly [.path, .cap] u)
    ∧ (s.cap.tracker = .receiving → off = s.cap.expected → s.cap.dropped = false → s.cap.broken = false →
        off + t.len ≤ g.w * g.h →
        (s.cap.acceptsLines g off t.len = true → off + t.len ≠ last → ∃ u, exec (.captureWrite t die) s = .next u
          ∧ u.path.upLog = s.path.upLog ++ [okay] ∧ u.path.fwd = s.path.fwd
          ∧ u.cap.expected = off + t.len ∧ u.cap.tracker = .receiving ∧ u.cap.broken = false
          ∧ u.cap.degraded = s.cap.degraded ∧ u.cap.lumaFlight = s.cap.lumaFlight
          ∧ s.changesOnly [.path, .cap] u)
        ∧ (s.cap.acceptsLines g off t.len = false → exec (.captureWrite t die) s = .next (s.holdUntaken t)))
    ∧ (s.cap.tracker = .receiving → s.acceptsWrite g off t.data = false →
        exec (.captureWrite t die) s = .next (s.holdUntaken t))
    ∧ (∀ k sg, s.cap.tracker = .receiving → off = s.cap.expected ∨ s.cap.broken = true → s.cap.dropped = false →
        g.w * g.h ≤ off → s.hasRoom .write = true → s.cap.slot = some k → s.slots.geom = some sg →
        ∃ u, exec (.captureWrite t die) s = .next u
          ∧ u.path.fwd = s.path.fwd ++
              [⟨t.id, .write, sg.base + k * sg.frameSize + off, t.len, t.data, true, [], false, none⟩]
          ∧ u.path.upLog = s.path.upLog ∧ u.cap.expected = off + t.len
          ∧ u.cap.tracker = (if off + t.len = last then .draining else .receiving)
          ∧ s.changesOnly [.path, .cap] u)
    ∧ (s.cap.tracker = .receiving → off ≠ s.cap.expected → s.acceptsWrite g off t.data = true →
        off + t.len ≠ last ∨ s.cap.dropped = false → ∃ u, exec (.captureWrite t die) s = .next u
          ∧ u.cap.broken = true ∧ u.cap.expected = off + t.len
          ∧ u.cap.tracker = (if off + t.len = last then .draining else .receiving)
          ∧ (s.cap.broken = false → u.cap.degraded = true)
          ∧ (s.cap.broken = false → s.cap.degraded = false → u.cap.degradedCount = s.cap.degradedCount + 1
              ∧ u.notice.isPending .frameDegraded = true)
          ∧ (s.cap.broken = true ∨ s.cap.degraded = true →
              u.cap.degradedCount = s.cap.degradedCount ∧ u.notice = s.notice ∧ u.slots = s.slots)
          ∧ (∀ k, s.cap.broken = false → s.cap.degraded = false → k < s.slots.slots.length →
              (s.slots.slot k).state = .filling → (∀ j, j < k → (s.slots.slot j).state ≠ .filling) →
              u.slots.slot k = { s.slots.slot k with kind := .degraded }
              ∧ ∀ j, j ≠ k → u.slots.slot j = s.slots.slot j)
          ∧ u.slots.ready = s.slots.ready ∧ s.changesOnly [.path, .cap, .slots, .notice, .recs] u)
    ∧ (s.cap.tracker = .receiving → s.cap.dropped = true → off ≠ s.cap.expected → off + t.len = last →
        s.cap.broken = false ∨ s.cap.degraded = true → ∃ u, exec (.captureWrite t die) s = .next u
          ∧ u.cap.tracker = .none ∧ u.cap.broken = true ∧ u.cap.degraded = true
          ∧ u.cap.degradedCount = (if s.cap.degraded then s.cap.degradedCount else s.cap.degradedCount + 1)
          ∧ (s.cap.degraded = false → u.notice.isPending .frameDegraded = true)
          ∧ u.cap.whiteMap = s.cap.whiteMap ∧ u.mon = s.mon
          ∧ u.path.upLog = s.path.upLog ++ [okay] ∧ u.path.fwd = s.path.fwd
          ∧ u.gov.sample = some (max (-40) (min 150 die)) ∧ .record .status ∈ u.recs.waiting ∧ s.WaitCounted u
          ∧ s.changesOnly [.path, .cap, .slots, .notice, .recs, .gov, .store] u))
  ∧ (
  ∀ (off n y : Nat) (data : List Byte) (g : CapGeom) (s : State),
    let c := s.cap
    let holds := fun (y k : Nat) => ∃ p, c.places[k]? = some (some p) ∧ p.unit = false ∧ p.line = y
    let first := off / g.w
    let final := (off + n - 1) / g.w
    let luma := data.take (g.w * g.h - off)
    let chroma := data.drop (g.w * g.h - off)
    (c.placeOf y = none ↔ ∀ k, ¬holds y k)
    ∧ (∀ k, c.placeOf y = some k → holds y k ∧ ∀ j, j < k → ¬holds y j)
    ∧ (c.freePlace = none ↔ none ∉ c.places)
    ∧ (∀ k, c.freePlace = some k → c.places[k]? = some none ∧ ∀ j, j < k → c.places[j]? ≠ some none)
    ∧ c.acceptsLines g off 0 = true
    ∧ (0 < n → n ≤ g.w → (c.acceptsLines g off n = true ↔
        (if c.placeOf first = none then 1 else 0) + (if first ≠ final ∧ c.placeOf final = none then 1 else 0)
          ≤ (c.places.filter fun p => decide (p = none)).length))
    ∧ (s.acceptsWrite g off data = true ↔ c.dropped = true
        ∨ ((c.broken = false ∧ off = c.expected → c.acceptsLines g off luma.length = true)
          ∧ (c.broken = true ∨ off ≠ c.expected → luma = [] ∨ none ∈ c.places)
          ∧ (chroma = [] ∨ s.hasRoom .write = true))))
  ∧ (
  ∀ (t : Txn) (g : CapGeom) (off : Nat) (die : Int) (s : State), t.legal = true → t.dir = .write →
    s.classify t = .enhancer off → off ≠ 0 → s.cap.geom = some g → g.Legal → s.isNext t = true →
    s.cap.tearing = false → s.cap.tracker = .receiving → off = s.cap.expected → s.cap.sums.length = 192 →
    s.cap.whites.length = 192 →
    let tile := fun (i : Nat) => (off + i) / g.w / (g.h / 12) * 16 + (off + i) % g.w / (g.w / 16)
    let byte := fun (i : Nat) => (t.data.getD i 0).toNat
    let luma := min t.len (g.w * g.h - off)
    (s.cap.broken = false → s.cap.dropped = true ∨ (s.cap.acceptsLines g off luma = true
          ∧ (off + t.len ≤ g.w * g.h ∨ s.hasRoom .write = true)) →
        ∃ u, exec (.captureWrite t die) s = .next u ∧ ∀ n, n < 192 →
          u.cap.sums.getD n 0 = s.cap.sums.getD n 0
            + (((List.range luma).filter fun i => decide (tile i = n)).map byte).sum
          ∧ u.cap.whites.getD n 0 = (((List.range (luma / 4)).filter fun j => decide (tile (4 * j) = n)).map fun j =>
              (byte (4 * j) + byte (4 * j + 1) + byte (4 * j + 2) + byte (4 * j + 3)) / 4).foldl max
                (s.cap.whites.getD n 0))
    ∧ (s.cap.dropped = true → g.w * g.h ≤ off → off + t.len = g.w * g.h * 3 / 2 →
        ∃ u, exec (.captureWrite t die) s = .next u
          ∧ u.cap.tracker = .none ∧ u.cap.sums = s.cap.sums ∧ u.cap.frameNo = s.cap.frameNo
          ∧ u.path.upLog = s.path.upLog ++ [⟨t.id, .write, .okay, []⟩] ∧ u.path.fwd = s.path.fwd
          ∧ (s.cap.degraded = true → u.mon = s.mon)
          ∧ (s.cap.degraded = false → u.mon = (s.receiveSignature
              ⟨s.cap.sums.map fun v => v / (g.w / 16 * (g.h / 12)), s.cap.frameNo, none⟩).mon)
          ∧ (s.cap.degraded = false → s.cap.frameLevelling ≠ .hold → u.cap.whiteMap =
              List.zipWith (fun old white => (3 * old + white + 2) / 4) s.cap.whiteMap s.cap.whites)
          ∧ u.gov.sample = some (max (-40) (min 150 die)) ∧ .record .status ∈ u.recs.waiting ∧ s.WaitCounted u))
  ∧ (
  ∀ (t : Txn) (g : CapGeom) (sg : SlotGeom) (off slot y k : Nat) (die : Int) (s : State), t.legal = true →
    t.dir = .write → s.classify t = .enhancer off → off ≠ 0 → s.cap.geom = some g → g.Legal → s.isNext t = true →
    s.cap.tearing = false → s.cap.tracker = .receiving → off = s.cap.expected → s.cap.dropped = false →
    s.cap.broken = false → s.cap.acceptsLines g off t.len = true → s.cap.slot = some slot → s.slots.geom = some sg →
    y < g.h → y * g.w ≤ off → off + t.len ≤ (y + 1) * g.w → s.cap.placeOf (y + 1) = none →
    let c := s.cap
    let base := sg.base + slot * sg.frameSize
    let does := fun (P : Capture → Prop) => ∃ u, exec (.captureWrite t die) s = .next u ∧ P u.cap
    (c.frameKind = .plain ∧ c.nextEmit = y) ∨ (c.frameKind ≠ .plain ∧ c.nextEmit + 1 = max y 1) →
    (c.placeOf y = none → c.freePlace = some k → off + t.len < (y + 1) * g.w → does fun d =>
        d.places = c.places.set k (some ⟨y, false, .receiving, t.data, 0⟩) ∧ d.lumaWaiting = c.lumaWaiting
        ∧ d.nextEmit = c.nextEmit)
    ∧ (∀ pl, c.placeOf y = some k → c.places.getD k none = some pl → pl.raw.length = off - y * g.w →
        let raw := pl.raw ++ t.data
        (off + t.len < (y + 1) * g.w → does fun d =>
            d.places = c.places.set k (some { pl with raw := raw, cond := .receiving })
            ∧ d.lumaWaiting = c.lumaWaiting ∧ d.nextEmit = c.nextEmit)
        ∧ (off + t.len = (y + 1) * g.w → c.frameKind = .plain → does fun d =>
            d.lumaWaiting = c.lumaWaiting ++ lineWrites k (base + y * g.w) raw ∧ d.nextEmit = y + 1
            ∧ d.places.getD k none = some { pl with
                raw := raw, cond := .emitted, unsent := (lineWrites k (base + y * g.w) raw).length })
        ∧ (off + t.len = (y + 1) * g.w → c.frameKind ≠ .plain → y = 0 → does fun d =>
            d.places = c.places.set k (some { pl with raw := raw, cond := .complete })
            ∧ d.lumaWaiting = c.lumaWaiting ∧ d.nextEmit = 0)
        ∧ (∀ (k' : Nat) (above : Place) (up : List Byte), off + t.len = (y + 1) * g.w → c.frameKind ≠ .plain → 1 ≤ y →
            c.placeOf (y - 1) = some k' → c.places.getD k' none = some above →
            (if y = 1 then up = above.raw
             else ∃ k2 pl2, c.placeOf (y - 2) = some k2 ∧ c.places.getD k2 none = some pl2 ∧ up = pl2.raw) →
            let levels := fun (n : Nat) => if c.frameLevelling = .off then none
              else some ((List.range 16).map (columnGain c.gains (g.h / 12) n))
            let writes := lineWrites k' (base + (y - 1) * g.w)
              (enhanceLine g.w c.gEff c.cEff (g.w / 16) (levels (y - 1)) up above.raw raw)
            let lastWrites := lineWrites k (base + y * g.w)
              (enhanceLine g.w c.gEff c.cEff (g.w / 16) (levels y) above.raw raw raw)
            does fun d =>
              d.lumaWaiting = c.lumaWaiting ++ writes ++ (if y + 1 = g.h then lastWrites else [])
              ∧ d.nextEmit = (if y + 1 = g.h then g.h else y)
              ∧ d.places.getD k' none = some { above with cond := .emitted, unsent := writes.length }
              ∧ d.places.getD k none = some (if y + 1 = g.h
                  then { pl with raw := raw, cond := .emitted, unsent := lastWrites.length }
                  else { pl with raw := raw, cond := .complete })
              ∧ ∀ k2 pl2, 2 ≤ y → c.placeOf (y - 2) = some k2 → c.places.getD k2 none = some pl2 →
                  pl2.cond = .neighbour → d.places.getD k2 none = none)))
  ∧ (
  ∀ (t : Txn) (g : CapGeom) (sg : SlotGeom) (off slot y k : Nat) (pl : Place) (die : Int) (s : State),
    t.legal = true → t.dir = .write → s.classify t = .enhancer off → off ≠ 0 → s.cap.geom = some g → g.Legal →
    s.isNext t = true → s.cap.tearing = false → s.cap.tracker = .receiving → off = s.cap.expected →
    s.cap.dropped = false → s.cap.broken = false → s.cap.slot = some slot → s.slots.geom = some sg → y < g.h →
    y * g.w ≤ off → off < (y + 1) * g.w → (y + 1) * g.w < off + t.len → s.cap.placeOf y = some k →
    s.cap.places.getD k none = some pl → pl.raw.length = off - y * g.w → s.cap.placeOf (y + 1) = none →
    let c := s.cap
    let base := sg.base + slot * sg.frameSize
    let raw := pl.raw ++ t.data.take ((y + 1) * g.w - off)
    let beyond := t.data.drop ((y + 1) * g.w - off)
    let levels := fun (n : Nat) => if c.frameLevelling = .off then none
      else some ((List.range 16).map (columnGain c.gains (g.h / 12) n))
    let asCaptured := lineWrites k (base + y * g.w) raw
    (c.frameKind = .plain ∧ c.nextEmit = y) ∨ (c.frameKind ≠ .plain ∧ c.nextEmit + 1 = max y 1) →
    (y + 1 < g.h → c.acceptsLines g off t.len = true → ∃ u, exec (.captureWrite t die) s = .next u
        ∧ u.path.upLog = s.path.upLog ++ [⟨t.id, .write, .okay, []⟩] ∧ u.path.fwd = s.path.fwd
        ∧ u.cap.expected = off + t.len ∧ u.cap.tracker = .receiving
        ∧ (∃ k2, k2 ≠ k ∧ u.cap.placeOf (y + 1) = some k2
            ∧ u.cap.places.getD k2 none = some ⟨y + 1, false, .receiving, beyond, 0⟩)
        ∧ (c.frameKind = .plain → u.cap.lumaWaiting = c.lumaWaiting ++ asCaptured ∧ u.cap.nextEmit = y + 1
            ∧ u.cap.places.getD k none = some { pl with raw := raw, cond := .emitted, unsent := asCaptured.length })
        ∧ (c.frameKind ≠ .plain → u.cap.places.getD k none = some { pl with raw := raw, cond := .complete })
        ∧ (c.frameKind ≠ .plain → y = 0 → u.cap.lumaWaiting = c.lumaWaiting ∧ u.cap.nextEmit = 0)
        ∧ ∀ (k' : Nat) (above : Place) (up : List Byte), c.frameKind ≠ .plain → 1 ≤ y → c.placeOf (y - 1) = some k' →
            c.places.getD k' none = some above →
            (if y = 1 then up = above.raw
             else ∃ k2 pl2, c.placeOf (y - 2) = some k2 ∧ c.places.getD k2 none = some pl2 ∧ up = pl2.raw) →
            u.cap.nextEmit = y ∧ u.cap.lumaWaiting = c.lumaWaiting ++ lineWrites k' (base + (y - 1) * g.w)
              (enhanceLine g.w c.gEff c.cEff (g.w / 16) (levels (y - 1)) up above.raw raw))
    ∧ (y + 1 = g.h → c.acceptsLines g off (g.w * g.h - off) = true → s.hasRoom .write = true →
        ∃ u, exec (.captureWrite t die) s = .next u
        ∧ u.path.upLog = s.path.upLog ∧ u.path.fwd = s.path.fwd ++ [⟨t.id, .write, base + g.w * g.h,
            off + t.len - g.w * g.h, beyond, true, [], false, none⟩]
        ∧ u.cap.expected = off + t.len ∧ u.cap.tracker = .receiving
        ∧ (c.frameKind = .plain → u.cap.nextEmit = g.h ∧ u.cap.lumaWaiting = c.lumaWaiting ++ asCaptured)
        ∧ ∀ (k' k2 : Nat) (above pl2 : Place), c.frameKind ≠ .plain → c.placeOf (y - 1) = some k' →
            c.places.getD k' none = some above → c.placeOf (y - 2) = some k2 → c.places.getD k2 none = some pl2 →
            u.cap.nextEmit = g.h ∧ u.cap.lumaWaiting = c.lumaWaiting
              ++ lineWrites k' (base + (y - 1) * g.w)
                (enhanceLine g.w c.gEff c.cEff (g.w / 16) (levels (y - 1)) pl2.raw above.raw raw)
              ++ lineWrites k (base + y * g.w)
                (enhanceLine g.w c.gEff c.cEff (g.w / 16) (levels y) above.raw raw raw)))
  ∧ (
  ∀ (t : Txn) (g : CapGeom) (sg : SlotGeom) (off slot : Nat) (die : Int) (s : State), t.legal = true →
    t.dir = .write → s.classify t = .enhancer off → off ≠ 0 → s.cap.geom = some g → g.Legal → s.isNext t = true →
    s.cap.tearing = false → s.cap.tracker = .receiving → s.cap.dropped = false → s.cap.slot = some slot →
    s.slots.geom = some sg →
    let c := s.cap
    let base := sg.base + slot * sg.frameSize
    let luma := t.data.take (g.w * g.h - off)
    let redirected : FwdEntry := ⟨t.id, .write, base + max off (g.w * g.h), off + t.len - max off (g.w * g.h),
      t.data.drop (g.w * g.h - off), true, [], false, none⟩
    (c.broken = true → off < g.w * g.h →
        (c.freePlace = none → exec (.captureWrite t die) s = .next (s.holdUntaken t))
        ∧ ∀ k, c.freePlace = some k → off + t.len ≤ g.w * g.h ∨ s.hasRoom .write = true →
          ∃ u, exec (.captureWrite t die) s = .next u
          ∧ u.cap.places = c.places.set k (some ⟨off / g.w, true, .emitted, luma, 1⟩)
          ∧ u.cap.lumaWaiting = c.lumaWaiting ++ [⟨base + off, luma, k⟩] ∧ u.cap.expected = off + t.len
          ∧ u.path.upLog = s.path.upLog ++ (if g.w * g.h < off + t.len then [] else [⟨t.id, .write, .okay, []⟩])
          ∧ u.path.fwd = s.path.fwd ++ (if g.w * g.h < off + t.len then [redirected] else []))
    ∧ (c.broken = false → off ≠ c.expected → s.acceptsWrite g off t.data = true →
        ∃ u, exec (.captureWrite t die) s = .next u
          ∧ u.path.fwd = s.path.fwd ++ (if g.w * g.h < off + t.len then [redirected] else [])
          ∧ (off < g.w * g.h → ∃ k, u.cap.places.getD k none = some ⟨off / g.w, true, .emitted, luma, 1⟩
              ∧ ⟨base + off, luma, k⟩ ∈ u.cap.lumaWaiting)
          ∧ (∀ y k pl, c.nextEmit ≤ y → y < c.nextEmit + 4 → c.placeOf y = some k → c.places.getD k none = some pl →
              pl.cond = .receiving ∨ pl.cond = .complete →
              let writes := lineWrites k (base + y * g.w) pl.raw
              u.cap.places.getD k none = some { pl with cond := .emitted, unsent := writes.length }
              ∧ ∀ w ∈ writes, w ∈ u.cap.lumaWaiting)
          ∧ (∀ k pl, u.cap.places.getD k none = some pl → pl.cond ≠ .neighbour)
          ∧ ∃ more, u.cap.lumaWaiting = c.lumaWaiting ++ more))
  ∧ (
  ∀ (k addr : Nat) (bytes : List Byte),
    SplitsSpan addr bytes.length ((lineWrites k addr bytes).map fun w => (w.addr, w.data.length))
    ∧ ((lineWrites k addr bytes).map (·.data)).flatten = bytes ∧ ∀ w ∈ lineWrites k addr bytes, w.place = k)
  ∧ (
  ∀ (w : LumaWrite) (rest : List LumaWrite) (pl : Place) (s : State), s.notice.halted = false →
    s.chooseGrant = some .c → s.cap.lumaWaiting = w :: rest → s.cap.places.getD w.place none = some pl →
    let free := pl.unit = true ∨ s.cap.broken = true ∨ s.cap.frameKind = .plain ∨ pl.line + 1 < s.cap.nextEmit
      ∨ s.cap.geom.map (·.h) = some (pl.line + 1)
    ∃ t, exec .downstreamGrant s = .next t ∧ t.cap.lumaWaiting = rest
      ∧ (1 < pl.unsent → t.cap.places.getD w.place none = some { pl with unsent := pl.unsent - 1 })
      ∧ (pl.unsent ≤ 1 → free → t.cap.places.getD w.place none = none)
      ∧ (pl.unsent ≤ 1 → ¬free → t.cap.places.getD w.place none = some { pl with unsent := 0, cond := .neighbour })
      ∧ ∀ j, j ≠ w.place → t.cap.places.getD j none = s.cap.places.getD j none)
/-- R24, R25, R55, R62, R63, R82, R97, R99: a tear finishes when no response of the torn frame is out, and counts as a
capture frame end that is sampled and changes neither the slots nor the white map; before that nothing happens. A
STOP_CAPTURE that waited for it then stops capture, which returns the outputs on the hold list to LIVE and releases
their FREEZE tags, and is answered DONE; a RESTART that waited for nothing else is answered DONE. The answer raises the
status write of the record accepted. The model's choices: logs 1, 8, 11, 15, 42, 48, 50. -/
def Obligations.TearFinishesWhenItsResponsesHaveReturned : Prop :=
  ∀ (die : Int) (s : State), s.notice.halted = false →
    let due := s.cap.tearing = true ∧ s.cap.lumaFlight = [] ∧ ∀ e ∈ s.path.fwd, e.chroma = true → e.resp ≠ none
    (due → s.cap.stopping = false → s.ring.restarting = false → ∃ t, exec (.tearFinished die) s = .next t
        ∧ t.cap = { s.cap with tearing := false, tracker := .none }
        ∧ t.gov.sample = some (max (-40) (min 150 die)) ∧ .record .status ∈ t.recs.waiting ∧ s.WaitCounted t
        ∧ s.changesOnly [.cap, .gov, .notice, .recs, .store] t)
    ∧ (due → s.cap.stopping = true → s.ring.restarting = false → ∃ t, exec (.tearFinished die) s = .next t
        ∧ t.cap = { s.cap with
            tearing := false, tracker := .none, running := false, stopping := false, live := s.cap.staged }
        ∧ t.mon = { s.mon with state := .off, previous := none, stable := 0, scan := 0, presence := 0
                               holdA := false, holdB := false }
        ∧ t.gov.sample = some (max (-40) (min 150 die)) ∧ s.AnswersLater 3 .done t
        ∧ .record .status ∈ t.recs.waiting ∧ t.slots.ready = s.slots.ready ∧ t.slots.drops = s.slots.drops
        ∧ s.HoldsReleased s.slots.slot t ∧ t.path = s.path ∧ s.WaitCounted t)
    ∧ (due → s.cap.stopping = false → s.ring.restarting = true → ∃ t, exec (.tearFinished die) s = .next t
        ∧ t.cap = { s.cap with tearing := false, tracker := .none }
        ∧ (s.outA.leaving = false → s.outB.leaving = false → s.store.engine.flight = [] →
            t.ring.restarting = false ∧ s.AnswersLater 26 .done t)
        ∧ (s.outA.leaving = true ∨ s.outB.leaving = true ∨ s.store.engine.flight ≠ [] → t.ring = s.ring)
        ∧ s.WaitCounted t
        ∧ s.changesOnly [.cap, .gov, .notice, .recs, .store, .ring] t)
    ∧ (¬due → exec (.tearFinished die) s = .next s)

/-- R24, R25, R37, R55, R62, R77, R78, R97, R99: a draining frame completes when all its responses are in: its slot becomes READY at the
tail, the white map moves a quarter of the way unless the frame is degraded or levelled HOLD, the signature of a frame
not degraded goes to the monitor with the frame number and the slot, and the tracker becomes NONE. A STOP_CAPTURE that
waited for it then stops capture and is answered DONE, with the status write of its record. Unless this frame may itself
begin STANDBY, the outputs on the hold list return to LIVE and their FREEZE tags are released. The model's
choices: logs 1, 8, 11, 12, 15, 42, 50. -/
def Obligations.FrameCompletionMakesTheSlotReady : Prop :=
  ∀ (die : Int) (s : State), s.notice.halted = false →
    let due := s.cap.tracker = .draining ∧ s.cap.lumaWaiting = [] ∧ s.cap.lumaFlight = []
      ∧ ∀ e ∈ s.path.fwd, e.chroma = true → e.resp ≠ none
    (due → ∃ t, exec (.frameCompletion die) s = .next t
        ∧ (∀ k, k < s.slots.slots.length → (s.slots.slot k).state = .filling →
            (∀ j, j < k → (s.slots.slot j).state ≠ .filling) →
            t.slots.ready = s.slots.ready ++ [k] ∧ (t.slots.slot k).state = .ready
            ∧ (t.slots.slot k).frame = (s.slots.slot k).frame ∧ (t.slots.slot k).kind = (s.slots.slot k).kind)
        ∧ t.slots.drops = s.slots.drops
        ∧ (s.cap.degraded = true ∨ s.cap.frameLevelling = .hold → t.cap.whiteMap = s.cap.whiteMap)
        ∧ (s.cap.degraded = false → s.cap.frameLevelling ≠ .hold →
            t.cap.whiteMap = List.zipWith (fun old white => (3 * old + white + 2) / 4) s.cap.whiteMap s.cap.whites)
        ∧ t.gov.sample = some (max (-40) (min 150 die)) ∧ .record .status ∈ t.recs.waiting ∧ t.path = s.path
        ∧ s.WaitCounted t
        ∧ (s.cap.stopping = false → t.ring = s.ring
            ∧ t.cap = { s.cap with whiteMap := t.cap.whiteMap, tracker := .none, slot := none }
            ∧ (s.cap.degraded = true → t.mon = s.mon)
            ∧ (∀ g, s.cap.degraded = false → s.cap.geom = some g → t.mon = (s.receiveSignature
                ⟨s.cap.sums.map fun v => v / (g.w / 16 * (g.h / 12)), s.cap.frameNo,
                  if s.cap.dropped then none else s.cap.slot⟩).mon))
        ∧ (s.cap.stopping = true → s.AnswersLater 3 .done t ∧ t.mon.state = .off
            ∧ t.mon.previous = none ∧ t.mon.stable = 0 ∧ t.mon.scan = 0 ∧ t.mon.presence = 0
            ∧ t.mon.holdA = false ∧ t.mon.holdB = false
            ∧ (s.mon.state = .active → s.cap.degraded = true ∨ s.mon.settings.standby = false →
                s.HoldsReleased s.completedSlot t)
            ∧ (s.mon.state ≠ .active → s.HoldsReleased s.completedSlot t)
            ∧ t.cap = { s.cap with whiteMap := t.cap.whiteMap, tracker := .none, slot := none, running := false
                                   stopping := false, live := s.cap.staged }))
    ∧ (¬due → exec (.frameCompletion die) s = .next s)

/-- R16, R63, R79: an OKAY response to a luma write ends the write; an ERROR logs CAPTURE_WRITE at its address and
degrades the frame once, and for a torn frame does neither. A response to no write in flight is dropped. The
model's choices: log 24. -/
def Obligations.LumaWriteErrorDegradesTheFrameOnce : Prop :=
  (
  ∀ (addr : Nat) (w : LumaWrite) (s : State), s.notice.halted = false →
    s.cap.lumaFlight.find? (fun w => decide (w.addr = addr)) = some w →
    let ended := { s with cap := { s.cap with lumaFlight := s.cap.lumaFlight.erase w } }
    exec (.lumaWriteResponse addr .okay) s = .next ended
    ∧ (s.cap.tearing = true → exec (.lumaWriteResponse addr .error) s = .next ended)
    ∧ (∀ k, s.cap.tearing = false → s.cap.slot = some k → ∃ t, exec (.lumaWriteResponse addr .error) s = .next t
        ∧ t.cap = { ended.cap with
            degraded := true
            degradedCount := if s.cap.degraded then s.cap.degradedCount else s.cap.degradedCount + 1 }
        ∧ t.notice.faults = s.notice.faults + 1 ∧ t.notice.isPending .fault = true
        ∧ .given (.fault s.notice.place) (faultRecord (s.notice.faults + 1) .captureWrite .enhancer addr s.cap.frameNo
            (.slot k)) ∈ t.recs.waiting
        ∧ (s.cap.degraded = false → t.notice.isPending .frameDegraded = true)
        ∧ (s.cap.degraded = true → t.slots = s.slots)
        ∧ (s.cap.degraded = false → ∀ j, j < s.slots.slots.length → (s.slots.slot j).state = .filling →
            (∀ i, i < j → (s.slots.slot i).state ≠ .filling) → (t.slots.slot j).kind = .degraded)
        ∧ s.changesOnly [.cap, .notice, .recs, .slots] t))
  ∧ (
  ∀ (addr : Nat) (r : Resp) (s : State), (∀ w ∈ s.cap.lumaFlight, w.addr ≠ addr) →
    exec (.lumaWriteResponse addr r) s = .next s)

/-- R73: the gain of a tile of white `wt` under dark floor `d`: 256 below the floor, else the rounded ratio of the
target white to `wt` in 1/256 units, clamped to 256..1024; a white of 235 gives 256, a white above it would give less
and is clamped, and whites of 58 and below give 1024. -/
def Obligations.TileGainIsTheRatioToTheTargetWhite : Prop :=
  ∀ d wt : Nat, 32 ≤ d → d ≤ 128 →
    (wt < d → tileGain d wt = 256)
    ∧ (d ≤ wt → tileGain d wt = max 256 (min 1024 ((60160 + wt / 2) / wt)))
    ∧ (wt = 235 → tileGain d wt = 256) ∧ (235 < wt → wt ≤ 255 → (60160 + wt / 2) / wt < 256 ∧ tileGain d wt = 256)
    ∧ (d ≤ wt → wt ≤ 58 → tileGain d wt = 1024) ∧ 256 ≤ tileGain d wt ∧ tileGain d wt ≤ 1024

/-- R65, R70 to R72, R74, R75: an enhanced pixel from its nine captured values, the blur, the cored detail, the gain and
the levelling with their roundings and the clamp; a line's pixels from three lines with the edge columns replicated; the
column values of a line and the gain of a pixel by interpolation between the tile centres and as the outer tiles have
it beyond them. A flat area is only levelled, a gain of 0 with levelling OFF leaves the captured value, and the
interpolated gain of a pixel lies in the range of the tile gains. -/
def Obligations.EnhancementKeepsFlatAreasAndTheGainRange : Prop :=
  (∀ g c gain nw n ne w m e sw s se : Nat,
    let blurred : Nat := (nw + 2 * n + ne + 2 * w + 4 * m + 2 * e + sw + 2 * s + se + 8) / 16
    let detail : Int := (m : Int) - blurred
    let cored : Int := if c < detail then detail - c else if detail < -c then detail + c else 0
    let levelled : Int := ((m + (cored * g + 8) / 16) * gain + 128) / 256
    (enhancePixel g c gain nw n ne w m e sw s se : Int) = max 0 (min 255 levelled))
  ∧ (∀ (w g c tw x : Nat) (columns : Option (List Nat)) (up mid down : List Byte), x < w →
      let at' := fun (row : List Byte) (i : Nat) => (row.getD i 0).toNat
      let l := x - 1
      let r := if x + 1 = w then x else x + 1
      (enhanceLine w g c tw columns up mid down).length = w
      ∧ (enhanceLine w g c tw columns up mid down).getD x 0 = BitVec.ofNat 8
        (enhancePixel g c (match columns with | some lv => pixelGain lv tw x | none => 256)
          (at' up l) (at' up x) (at' up r) (at' mid l) (at' mid x) (at' mid r)
          (at' down l) (at' down x) (at' down r)))
  ∧ (∀ (gains : List Nat) (th y i : Nat),
      let tile := fun (j : Nat) => gains.getD (16 * j + i) 256
      let centre := fun (j : Nat) => j * th + th / 2
      (y < centre 0 → columnGain gains th y i = tile 0)
      ∧ (centre 11 ≤ y → 0 < th → columnGain gains th y i = tile 11)
      ∧ (∀ j, j < 11 → centre j ≤ y → y < centre (j + 1) →
          let f := (y - centre j) * 256 / th
          columnGain gains th y i = (tile j * (256 - f) + tile (j + 1) * f + 128) / 256))
  ∧ (∀ (columns : List Nat) (tw x : Nat),
      let tile := fun (i : Nat) => columns.getD i 256
      let centre := fun (i : Nat) => i * tw + tw / 2
      (x < centre 0 → pixelGain columns tw x = tile 0)
      ∧ (centre 15 ≤ x → 0 < tw → pixelGain columns tw x = tile 15)
      ∧ (∀ i, i < 15 → centre i ≤ x → x < centre (i + 1) →
          let f := (x - centre i) * 256 / tw
          pixelGain columns tw x = (tile i * (256 - f) + tile (i + 1) * f + 128) / 256))
  ∧ (∀ g c gain v, v ≤ 255 → enhancePixel g c gain v v v v v v v v v = min 255 ((v * gain + 128) / 256))
  ∧ (∀ c v n1 n2 n3 n4 n5 n6 n7 n8, v ≤ 255 → enhancePixel 0 c 256 n1 n2 n3 n4 v n5 n6 n7 n8 = v)
  ∧ ∀ (gains : List Nat) (tw th x y : Nat), 0 < tw → 0 < th → (∀ n ∈ gains, 256 ≤ n ∧ n ≤ 1024) →
      let p := pixelGain ((List.range 16).map (columnGain gains th y)) tw x
      256 ≤ p ∧ p ≤ 1024

/-! ### The Page Monitor -/

/-- R85, R86, R88, R89, R91 to R95, R101: the score of two signatures of 192 means counts the tiles whose means differ
by more than the threshold; what an evaluated frame's signature does in each monitor state. Each score becomes the
last score, is counted, and has the signature record written with the content it leaves. The model's choices:
log 10. -/
def Obligations.EvaluatedFramesAreScoredAndMoveTheMonitor : Prop :=
  (
  ∀ (delta : Nat) (a b : List Nat), a.length = 192 → b.length = 192 →
    score delta a b =
      ((List.range 192).filter fun n => decide ((delta : Int) < |(a.getD n 0 : Int) - (b.getD n 0 : Int)|)).length
    ∧ score delta a b ≤ 192 ∧ score delta b a = score delta a b ∧ score delta a a = 0)
  ∧ (
  ∀ (sig : Signature) (s : State),
    let t := s.receiveSignature sig
    let m := s.mon
    let sc := fun (old : List Nat) => score m.settings.delta sig.means old
    let written := fun (a : Against) => .given .signature (signatureRecord t.mon sig a) ∈ t.recs.waiting
    (m.state = .off → t = s)
    ∧ (m.state = .motion → m.previous = none →
        t = { s with mon := { m with last := some sig, previous := some sig.means } })
    ∧ (∀ old, m.state = .motion → m.previous = some old →
        let stable := if sc old < m.settings.k then m.stable + 1 else 0
        (stable < m.settings.hold → t.mon = { m with
            last := some sig, previous := some sig.means, stable := stable, lastScore := sc old
            compares := m.compares + 1 } ∧ written .previous ∧ s.changesOnly [.mon, .recs] t)
        ∧ (m.settings.hold ≤ stable →
            t.mon.state = .active ∧ t.mon.idle = 0 ∧ t.mon.reference = some sig.means ∧ t.mon.stable = stable
            ∧ t.mon.previous = some sig.means ∧ t.mon.last = some sig ∧ t.mon.saved = m.saved
            ∧ t.notice.isPending .pageSettled = true
            ∧ t.mon.autoRequests = (if m.settings.auto = true ∧ s.store.lesson ≠ none
                ∧ (∀ saved, m.saved = some saved → m.settings.k ≤ sc saved)
                then m.autoRequests ++ [⟨sig.means, false⟩] else m.autoRequests)
            ∧ (∀ saved, m.settings.auto = true → s.store.lesson ≠ none → m.saved = some saved →
                t.mon.lastScore = sc saved ∧ t.mon.compares = m.compares + 1 + 1 ∧ written .saved)
            ∧ (m.settings.auto = false ∨ s.store.lesson = none ∨ m.saved = none →
                t.mon.lastScore = sc old ∧ t.mon.compares = m.compares + 1 ∧ written .previous)
            ∧ s.changesOnly [.mon, .notice, .recs] t))
    ∧ (∀ ref, m.state = .active → m.reference = some ref →
        let idle := min (m.idle + 1) 65535
        (m.settings.k ≤ sc ref → t.notice.isPending .pageMotion = true
          ∧ t.mon = { m with last := some sig, previous := some sig.means, state := .motion, stable := 0
                             lastScore := sc ref, compares := m.compares + 1 }
          ∧ written .reference ∧ s.changesOnly [.mon, .notice, .recs] t)
        ∧ (sc ref < m.settings.k → (m.settings.idle = 0 ∨ m.settings.standby = false ∨ idle < m.settings.idle) →
            t.mon = { m with last := some sig, idle := idle, lastScore := sc ref, compares := m.compares + 1 }
            ∧ written .reference ∧ s.changesOnly [.mon, .recs] t)
        ∧ (sc ref < m.settings.k → m.settings.idle ≠ 0 → m.settings.standby = true → m.settings.idle ≤ idle →
            t.mon.state = .standby ∧ t.mon.idle = idle ∧ t.mon.scan = 0 ∧ t.mon.presence = 0
            ∧ t.mon.reference = some ref ∧ t.notice.isPending .standby = true ∧ written .reference
            ∧ t.mon.lastScore = sc ref ∧ t.mon.compares = m.compares + 1
            ∧ (∀ x, (s.out x).source = .live → t.mon.onHold x = true
                ∧ (t.out x).source = (match (s.out x).latch.map (·.what) with
                    | some (.slot k) => .held k
                    | _ => .heldNone)
                ∧ (t.out x).latch = (s.out x).latch)
            ∧ (∀ x, (s.out x).source ≠ .live → t.out x = s.out x ∧ t.mon.onHold x = m.onHold x)
            ∧ s.changesOnly [.mon, .notice, .recs, .outA, .outB, .slots] t))
    ∧ (m.state = .standby → m.scan + 1 < m.settings.scan →
        t = { s with mon := { m with last := some sig, scan := m.scan + 1 } })
    ∧ (∀ ref, m.state = .standby → m.settings.scan ≤ m.scan + 1 → m.reference = some ref →
        (m.settings.k ≤ sc ref → t.mon.state = .motion ∧ t.mon.stable = 0 ∧ t.mon.idle = 0 ∧ t.mon.scan = 0
            ∧ t.mon.presence = 0 ∧ t.mon.previous = some sig.means ∧ t.mon.holdA = false ∧ t.mon.holdB = false
            ∧ t.notice.isPending .woken = true ∧ written .reference ∧ t.mon.lastScore = sc ref
            ∧ t.mon.compares = m.compares + 1
            ∧ (∀ x, m.onHold x = true → (t.out x).source = (match (s.out x).source with
                | .held _ => .live
                | .heldNone => .live
                | src => src))
            ∧ (∀ x, m.onHold x = false → t.out x = s.out x)
            ∧ s.changesOnly [.mon, .notice, .recs, .outA, .outB, .slots] t)
        ∧ (sc ref < m.settings.k →
            let presence := min (m.presence + 1) 65535
            (m.settings.presence ≠ 0 ∧ m.settings.presence ≤ presence → t.notice.isPending .presence = true
              ∧ t.mon = { m with last := some sig, scan := 0, presence := 0, lastScore := sc ref
                                 compares := m.compares + 1 }
              ∧ written .reference ∧ s.changesOnly [.mon, .notice, .recs] t)
            ∧ (m.settings.presence = 0 ∨ presence < m.settings.presence →
              t.mon = { m with last := some sig, scan := 0, presence := presence, lastScore := sc ref
                               compares := m.compares + 1 }
              ∧ written .reference ∧ s.changesOnly [.mon, .recs] t))))

/-- R28, R84, R96, R97, R99: SET_MONITOR is refused RANGE or replaces the settings, clamped, and leaves a STANDBY they
forbid; WAKE resets the idle count, and in STANDBY wakes to ACTIVE and returns the held outputs to LIVE. -/
def Obligations.SetMonitorAndWakeMoveTheMonitor : Prop :=
  (
  ∀ (delta k hold scan standby : BitVec 8) (idle presence : BitVec 16) (auto : BitVec 8) (s : State),
    s.notice.halted = false →
    let c := Instr.setMonitor delta k hold scan standby idle presence auto
    let n : MonSettings := ⟨max 1 (min 64 delta.toNat), max 1 (min 192 k.toNat), max 1 hold.toNat, idle.toNat,
      max 1 (min 64 scan.toNat), presence.toNat, decide (standby = 1), decide (auto = 1)⟩
    let inRange := (1 ≤ delta.toNat ∧ delta.toNat ≤ 64) ∧ (1 ≤ k.toNat ∧ k.toNat ≤ 192) ∧ 1 ≤ hold.toNat
      ∧ 1 ≤ scan.toNat ∧ scan.toNat ≤ 64
    let leaves := s.mon.state = .standby ∧ (standby = 0 ∨ idle = 0)
    (1 < standby.toNat ∨ 1 < auto.toNat → exec c s = .next (s.answer c .refusedRange))
    ∧ (standby.toNat ≤ 1 → auto.toNat ≤ 1 → ¬leaves → exec c s = .next (State.answer c
        (if inRange then .done else .adjusted) { s with mon := { s.mon with settings := n } }))
    ∧ (standby.toNat ≤ 1 → auto.toNat ≤ 1 → leaves → ∃ t, exec c s = .next t
        ∧ t.mon = { s.mon with settings := n, state := .active, idle := 0, holdA := false, holdB := false }
        ∧ t.notice.isPending .woken = true ∧ .record .status ∈ t.recs.waiting
        ∧ (∀ x, s.mon.onHold x = true → (s.out x).source = .heldNone → (t.out x).source = .live)
        ∧ (∀ x j, s.mon.onHold x = true → (s.out x).source = .held j → (t.out x).source = .live)
        ∧ t.ring.lastStatus = some (if inRange then .done else .adjusted)
        ∧ s.changesOnly [.mon, .notice, .recs, .ring, .outA, .outB, .slots] t))
  ∧ (
  ∀ s : State, s.notice.halted = false →
    (s.mon.state ≠ .standby → exec .wake s =
      .next (State.answer .wake .done { s with mon := { s.mon with idle := 0 } }))
    ∧ (s.mon.state = .standby → ∃ t, exec .wake s = .next t
        ∧ t.mon = { s.mon with state := .active, idle := 0, scan := 0, presence := 0, holdA := false, holdB := false }
        ∧ t.notice.isPending .woken = true ∧ .record .status ∈ t.recs.waiting
        ∧ (∀ x, s.mon.onHold x = false → t.out x = s.out x)
        ∧ (∀ x j, s.mon.onHold x = true → (s.out x).source = .held j →
            t.out x = { s.out x with source := .live }
            ∧ (x = .a → (t.slots.slot j).freezeA = false) ∧ (x = .b → (t.slots.slot j).freezeB = false)
            ∧ (t.slots.slot j).showA = (s.slots.slot j).showA ∧ (t.slots.slot j).showB = (s.slots.slot j).showB)
        ∧ (∀ x, s.mon.onHold x = true → (s.out x).source = .heldNone → t.out x = { s.out x with source := .live })
        ∧ t.ring.lastStatus = some .done
        ∧ s.changesOnly [.mon, .notice, .recs, .ring, .outA, .outB, .slots] t))

/-- R90, R100, R104, R148: the controller refuses an AUTO request without an open store and lesson, a READY slot and room, and
otherwise makes the request for the newest slot, which an IDLE engine begins; the monitor's answer saves the
signature or raises SNAP_MISSED, and the answer to a request made before a RESTART saves nothing. The notices of
BEGIN_LESSON and of SNAPSHOT NEWEST that stand behind the answer act on the saved signature after it, in their order, up
to the next answer, which waits. The model's choices: logs 1, 10, 36, 37, 47. -/
def Obligations.AutoRequestsAreAnswered : Prop :=
  ∀ s : State, s.notice.halted = false → s.mon.InboxSound →
    (s.mon.autoRequests = [] → exec .autoRequest s = .next s)
    ∧ (∀ a rest, s.mon.autoRequests = a :: rest →
        (s.store.state ≠ .opened ∨ s.store.lesson = none ∨ s.slots.ready = [] ∨ 4 ≤ s.store.queue.length →
          exec .autoRequest s = .next { s with mon := { s.mon with
            autoRequests := rest, inbox := s.mon.inbox ++ [.refused] } })
        ∧ (∀ n pre k, s.store.state = .opened → s.store.lesson = some n → s.slots.ready = pre ++ [k] →
            s.store.queue.length < 4 → s.store.engine.state ≠ .idle →
            ∃ t r, exec .autoRequest s = .next t
              ∧ r = (⟨k, (s.slots.slot k).frame, (s.slots.slot k).kind, (s.slots.slot k).width,
                  (s.slots.slot k).height, true, false, n, if s.store.page = 65535 then 1 else s.store.page + 1,
                  s.viewOfA⟩ : Request)
              ∧ t.store = { s.store with page := r.page, queue := s.store.queue ++ [r] }
              ∧ (k < s.slots.slots.length → (t.slots.slot k).copies = (s.slots.slot k).copies + 1)
              ∧ t.mon = { s.mon with autoRequests := rest, inbox := s.mon.inbox ++ [.taken a.means a.stale] }
              ∧ s.changesOnly [.mon, .store, .slots, .recs] t)
        ∧ (∀ n pre k, s.store.state = .opened → s.store.lesson = some n → s.slots.ready = pre ++ [k] →
            s.store.queue.length < 4 → s.store.engine.state = .idle →
            let page := if s.store.page = 65535 then 1 else s.store.page + 1
            let sl := s.slots.slot k
            exec .autoRequest s = .next (State.onMon (fun m => { m with inbox := m.inbox ++ [.taken a.means a.stale] })
              (State.nextRequest { s with
                mon := { s.mon with autoRequests := rest }
                store := { s.store with page := page, queue := s.store.queue ++
                  [⟨k, sl.frame, sl.kind, sl.width, sl.height, true, false, n, page, s.viewOfA⟩] }
                slots := s.slots.takeCopy k, recs := s.recs.request .status }))))
    ∧ (s.mon.inbox = [] → exec .autoAnswer s = .next s)
    ∧ (∀ means, s.mon.inbox = [.taken means false] → exec .autoAnswer s =
        .next { s with mon := { s.mon with inbox := [], saved := some means } })
    ∧ (∀ means, s.mon.inbox = [.taken means true] → exec .autoAnswer s = .next { s with mon := { s.mon with inbox := [] } })
    ∧ (s.mon.inbox = [.refused] → exec .autoAnswer s =
        .next (State.raise .snapMissed { s with mon := { s.mon with inbox := [] } }))
    ∧ (∀ answer notices tail, s.mon.inbox = answer :: (notices ++ tail) →
        (∀ n ∈ notices, n = .lessonBegun ∨ n = .newestSaved true ∨ n = .newestSaved false) →
        (∀ n ∈ tail.head?, n = .refused ∨ ∃ means stale, n = .taken means stale) →
        let heard := fun (saved : Option (List Nat)) (n : MonNotice) =>
          (match n with
            | .taken means stale => if stale then saved else some means
            | .refused => saved
            | .lessonBegun => none
            | .newestSaved stale => if stale then saved else (s.mon.last.map (·.means)).or saved)
        let t := { s with mon := { s.mon with
          inbox := tail, saved := (answer :: notices).foldl heard s.mon.saved } }
        exec .autoAnswer s = .next (if answer = .refused then State.raise .snapMissed t else t))

/-! ### The Output Engines -/

/-- R24, R25, R27, R28, R105, R106, R107, R108: CONFIGURE_OUTPUT is refused BUSY while the output is ENABLED and RANGE for a
selector or a geometry that does not fit, and otherwise stores the geometry; ENABLE_OUTPUT, after the wake or idle
reset, is refused STATE unless the output is DISABLED, and otherwise enables it with nothing latched, queued or cached;
DISABLE_OUTPUT is refused STATE unless it is ENABLED, waits unanswered for the queued reads, and leaves it DISABLED with SHOW,
FREEZE and the RECALL marks released, the latch, the cache, the row buffers and the damaged flag cleared, and its source
as the rule gives; fetches raised stay raised and their data goes nowhere. The model's choices: log 15. -/
def Obligations.OutputsAreConfiguredEnabledAndDisabled : Prop :=
  (
  ∀ (sel : BitVec 8) (ow oh : BitVec 16) (window : BitVec 64) (s : State), s.notice.halted = false →
    let c := Instr.configureOutput sel ow oh window
    (1 < sel.toNat → exec c s = .next (s.answer c .refusedRange))
    ∧ ∀ x : OutId, sel = (match x with | .a => 0 | .b => 1) →
      let fits := s.OutputFits x ow.toNat oh.toNat window.toNat
      ((s.out x).state = .enabled → exec c s = .next (s.answer c .refusedBusy))
      ∧ ((s.out x).state ≠ .enabled → ¬fits → exec c s = .next (s.answer c .refusedRange))
      ∧ ((s.out x).state ≠ .enabled → fits → exec c s = .next (State.answer c .done (s.onOut x fun e =>
          { e with geom := some ⟨window.toNat, ow.toNat, oh.toNat⟩, state := .disabled }))))
  ∧ (
  ∀ (sel : BitVec 8) (s : State), s.notice.halted = false →
    let c := Instr.enableOutput sel
    let s' := s.touch
    (1 < sel.toNat → exec c s = .next (s'.answer c .refusedRange))
    ∧ ∀ x : OutId, sel = (match x with | .a => 0 | .b => 1) →
      ((s.out x).state ≠ .disabled → exec c s = .next (s'.answer c .refusedState))
      ∧ ((s.out x).state = .disabled → ∃ t, exec c s = .next t
          ∧ (t.out x).state = .enabled ∧ (t.out x).latch = none ∧ (t.out x).queue = [] ∧ (t.out x).damaged = false
          ∧ (t.out x).luma = ⟨[], none, none, [], []⟩ ∧ (t.out x).chroma = ⟨[], none, none, [], []⟩
          ∧ (t.out x).geom = (s.out x).geom ∧ (t.out x).view = (s.out x).view
          ∧ (t.out x).source = (s'.out x).source ∧ t.out (otherOut x) = s'.out (otherOut x)
          ∧ t.ring.lastStatus = some .done ∧ t.mon = s'.mon ∧ t.slots = s'.slots ∧ t.notice = s'.notice
          ∧ t.path = s.path ∧ t.cap = s.cap ∧ t.store = s.store))
  ∧ (
  ∀ (sel : BitVec 8) (s : State), s.notice.halted = false →
    let c := Instr.disableOutput sel
    (1 < sel.toNat → exec c s = .next (s.answer c .refusedRange))
    ∧ ∀ x : OutId, sel = (match x with | .a => 0 | .b => 1) →
      ((s.out x).state ≠ .enabled → exec c s = .next (s.answer c .refusedState))
      ∧ ((s.out x).state = .enabled → (s.out x).leaving = false → (s.out x).queue ≠ [] → ∃ t, exec c s = .next t
          ∧ t.out x = { s.out x with leaving := true } ∧ t.out (otherOut x) = s.out (otherOut x)
          ∧ s.Accepts c t ∧ s.changesOnly [.ring, .outA, .outB] t)
      ∧ ((s.out x).state = .enabled → (s.out x).leaving = false → (s.out x).queue = [] →
          s.ring.restarting = false → ∃ t, exec c s = .next t
          ∧ (t.out x).state = .disabled ∧ (t.out x).leaving = false ∧ (t.out x).latch = none
          ∧ (t.out x).damaged = false ∧ (t.out x).geom = (s.out x).geom ∧ (t.out x).view = (s.out x).view
          ∧ (t.out x).source = (match (s.out x).source with
              | .frozen _ => .live
              | .recalled _ => .live
              | .held _ => .heldNone
              | src => src)
          ∧ (∀ k, (s.out x).latch.map (·.what) = some (.slot k) →
              (x = .a → (t.slots.slot k).showA = false) ∧ (x = .b → (t.slots.slot k).showB = false))
          ∧ (∀ k, (s.out x).source = .frozen k ∨ (s.out x).source = .held k →
              (x = .a → (t.slots.slot k).freezeA = false) ∧ (x = .b → (t.slots.slot k).freezeB = false))
          ∧ (∀ p, p < s.store.catalog.length → (t.store.recAt p).recalled x = false)
          ∧ (t.out x).luma = ⟨[], none, none, [], []⟩ ∧ (t.out x).chroma = ⟨[], none, none, [], []⟩
          ∧ (t.out x).fetchWaiting = ((s.out x).fetchWaiting.map fun f => { f with stale := true })
          ∧ (t.out x).fetchFlight = ((s.out x).fetchFlight.map fun f => { f with stale := true })
          ∧ t.mon = s.mon ∧ s.AnswersNow c .done t ∧ t.out (otherOut x) = s.out (otherOut x)
          ∧ t.slots.ready = s.slots.ready ∧ s.changesOnly [.outA, .outB, .slots, .store, .recs, .ring] t))

/-- R27, R42, R105, R110, R111, R112, R113: what LIVE, BLANK, FREEZE and RECALL set for output `x` when they are
taken, and when FREEZE and RECALL are refused. LIVE, FREEZE and RECALL follow the wake or idle reset. A selector above
1 is refused RANGE; RECALL names a CLOSED and an OPENING store first. LIVE, BLANK and RECALL release FREEZE when the
source carried it. -/
def Obligations.SourceDirectivesSetTheSource : Prop :=
  (
  ∀ (sel useView : BitVec 8) (pos : BitVec 16) (x : OutId) (s : State), s.notice.halted = false →
    sel = (match x with | .a => 0 | .b => 1) →
    let s' := s.touch
    let e := s'.out x
    (∃ t, exec (.live sel) s = .next t ∧ t.out x = { e with source := .live } ∧ t.ring.lastStatus = some .done
      ∧ (∀ k, e.source = .frozen k →
          (x = .a → (t.slots.slot k).freezeA = false) ∧ (x = .b → (t.slots.slot k).freezeB = false))
      ∧ s'.changesOnly [.outA, .outB, .slots, .ring, .recs] t ∧ t.out (otherOut x) = s'.out (otherOut x))
    ∧ (∃ t, exec (.blank sel) s = .next t ∧ t.out x = { s.out x with source := .blank }
      ∧ t.mon = (match x with
          | .a => { s.mon with holdA := false }
          | .b => { s.mon with holdB := false })
      ∧ (∀ k, (s.out x).source = .frozen k ∨ (s.out x).source = .held k →
          (x = .a → (t.slots.slot k).freezeA = false) ∧ (x = .b → (t.slots.slot k).freezeB = false))
      ∧ t.ring.lastStatus = some .done ∧ t.out (otherOut x) = s.out (otherOut x)
      ∧ s.changesOnly [.outA, .outB, .slots, .mon, .ring, .recs] t)
    ∧ (e.state ≠ .enabled → exec (.freeze sel) s = .next (s'.answer (.freeze sel) .refusedState))
    ∧ (e.state = .enabled → (∀ k, e.latch.map (·.what) ≠ some (.slot k)) →
        exec (.freeze sel) s = .next (s'.answer (.freeze sel) .refusedNoFrame))
    ∧ (∀ k, e.state = .enabled → e.latch.map (·.what) = some (.slot k) → ∃ t, exec (.freeze sel) s = .next t
        ∧ t.out x = { e with source := .frozen k } ∧ t.ring.lastStatus = some .done
        ∧ ((s'.slots.slot k).state = .ready → k < s'.slots.slots.length →
            (x = .a → (t.slots.slot k).freezeA = true) ∧ (x = .b → (t.slots.slot k).freezeB = true))
        ∧ t.out (otherOut x) = s'.out (otherOut x) ∧ s'.changesOnly [.outA, .outB, .slots, .ring, .recs] t)
    ∧ (let c := Instr.recallEntry sel useView pos
       let r := s.store.recAt pos.toNat
       let size := (s.store.geom.map (·.e)).getD 0
       (e.state ≠ .enabled ∨ s.store.state = .closed → exec c s = .next (s'.answer c .refusedState))
       ∧ (e.state = .enabled → s.store.state = .opening → exec c s = .next (s'.answer c .refusedBusy))
       ∧ (e.state = .enabled → s.store.state = .opened → size ≤ pos.toNat →
           exec c s = .next (s'.answer c .refusedRange))
       ∧ (e.state = .enabled → s.store.state = .opened → pos.toNat < size → r.state ≠ .saved ∨ r.wanted = true →
           exec c s = .next (s'.answer c .refusedEntry))
       ∧ (e.state = .enabled → s.store.state = .opened → pos.toNat < size → r.state = .saved → r.wanted = false →
           ∃ t, exec c s = .next t ∧ t.ring.lastStatus = some .done ∧ (t.out x).source = .recalled pos.toNat
             ∧ (useView = 0 ∨ r.view = none → (t.out x).view = e.view)
             ∧ (∀ sv, useView ≠ 0 → r.view = some sv → (t.out x).view = { e.view with
                 zt := sv.zc, cx := if sv.cx = 65535 then none else some sv.cx
                 cy := if sv.cy = 65535 then none else some sv.cy, flip := sv.flip })
             ∧ (t.out x).latch = e.latch ∧ t.out (otherOut x) = s'.out (otherOut x)
             ∧ (∀ k, e.source = .frozen k ∨ e.source = .held k →
                 (x = .a → (t.slots.slot k).freezeA = false) ∧ (x = .b → (t.slots.slot k).freezeB = false))
             ∧ (∀ k, e.source ≠ .frozen k → e.source ≠ .held k → t.slots.slot k = s'.slots.slot k)
             ∧ (pos.toNat < s.store.catalog.length → (t.store.recAt pos.toNat).recalled x = true)
             ∧ s'.changesOnly [.outA, .outB, .slots, .store, .ring, .recs] t)))
  ∧ (
  ∀ (sel useView : BitVec 8) (pos : BitVec 16) (s : State), s.notice.halted = false → 1 < sel.toNat →
    let c := Instr.recallEntry sel useView pos
    exec (.live sel) s = .next (s.touch.answer (.live sel) .refusedRange)
    ∧ exec (.freeze sel) s = .next (s.touch.answer (.freeze sel) .refusedRange)
    ∧ exec (.blank sel) s = .next (s.answer (.blank sel) .refusedRange)
    ∧ (s.store.state = .closed → exec c s = .next (s.touch.answer c .refusedState))
    ∧ (s.store.state = .opening → exec c s = .next (s.touch.answer c .refusedBusy))
    ∧ (s.store.state = .opened → exec c s = .next (s.touch.answer c .refusedRange)))

/-- R105, R118: SET_VIEW, after the wake or idle reset, is refused RANGE for a selector or a flip above 1; else the
target, the ramp, the centres and the flip, clamped, replace the view's, the current zoom kept. The frame that is shown
keeps its latch. -/
def Obligations.SetViewReplacesTheTargetAndCentre : Prop :=
  (
  ∀ (sel flip : BitVec 8) (zt ramp cx cy : BitVec 16) (x : OutId) (ws hs : Nat) (s : State),
    s.notice.halted = false → sel = (match x with | .a => 0 | .b => 1) → 0 < ws → 0 < hs →
    (ws, hs) = (match (s.out x).latch, s.cap.geom with
      | some l, _ => (l.ws, l.hs)
      | none, some g => (g.w, g.h)
      | none, none => (4096, 3072)) →
    let s' := s.touch
    let c := Instr.setView sel flip zt ramp cx cy
    let centre := fun (v size : Nat) => if v = 65535 then none else some (min v (size - 1))
    let inRange := (256 ≤ zt.toNat ∧ zt.toNat ≤ 2048) ∧ ramp.toNat ≤ 1792 ∧ (cx.toNat = 65535 ∨ cx.toNat < ws)
      ∧ (cy.toNat = 65535 ∨ cy.toNat < hs)
    (1 < flip.toNat → exec c s = .next (s'.answer c .refusedRange))
    ∧ (flip.toNat ≤ 1 → exec c s = .next (State.answer c (if inRange then .done else .adjusted) (s'.onOut x fun e =>
        { e with view :=
          { zt := max 256 (min 2048 zt.toNat), zc := e.view.zc, ramp := min 1792 ramp.toNat
            cx := centre cx.toNat ws, cy := centre cy.toNat hs, flip := decide (flip = 1) } }))))
  ∧ (
  ∀ (sel flip : BitVec 8) (zt ramp cx cy : BitVec 16) (s : State), s.notice.halted = false → 1 < sel.toNat →
    exec (.setView sel flip zt ramp cx cy) s =
      .next (s.touch.answer (.setView sel flip zt ramp cx cy) .refusedRange))

/-- R41, R113, R116, R117, R119, R120, R125, R153, R163: the output frame start steps the zoom, resolves the source, latches
what it resolves with its step, its origins and its flip, releases SHOW from the slot it latched before, takes SHOW on
a slot latched, removes the RECALL marks of the entries it does not latch, which may hand a WANTED one over, but not
from the moment RESTART is dispatched, when the record stays SAVED and WANTED until the RESTART acts, samples the die and counts the head read as started. It withdraws the fetches not granted, makes those granted stale, empties
the cache and raises the fetches of the first luma row's source rows. Without a waiting start nothing happens.
The model's choices: logs 1, 8, 11, 12, 21, 26, 51. -/
def Obligations.OutputFrameStartLatchesTheSource : Prop :=
  ∀ (x : OutId) (die : Int) (q : QueuedRead) (rest : List QueuedRead) (g : OutGeom) (s : State),
    s.notice.halted = false → (s.out x).queue = q :: rest → (s.out x).geom = some g →
    (q.off ≠ 0 ∨ q.started = true → exec (.outputFrameStart x die) s = .next s)
    ∧ (q.off = 0 → q.started = false → ∃ t, exec (.outputFrameStart x die) s = .next t
        ∧ (t.out x).queue = { q with started := true } :: rest ∧ (t.out x).damaged = false
        ∧ (t.out x).luma.current = none ∧ (t.out x).chroma.current = none ∧ (t.out x).luma.failed = []
        ∧ (t.out x).chroma = ⟨[], none, none, [], []⟩ ∧ (t.out x).luma.previous = none ∧ (t.out x).luma.waiting = []
        ∧ (t.out x).fetchFlight = ((s.out x).fetchFlight.map fun f => { f with stale := true })
        ∧ (t.out x).computed = none
        ∧ ((t.out x).latch = none → (t.out x).luma.places = [] ∧ (t.out x).fetchWaiting = [])
        ∧ (∀ l, (t.out x).latch = some l →
            let v := planeView l g .luma
            (t.out x).luma.places = ((v.sourceRows 0).map fun j =>
              ⟨j, .fetching, .prefetch, (segmentReads l .luma v j).map fun a => ⟨a.1, a.2, .waiting⟩, none⟩)
            ∧ (t.out x).fetchWaiting = ((v.sourceRows 0).map fun j =>
              (segmentReads l .luma v j).map fun a => ⟨a.1, a.2, .luma, j, false⟩).flatten)
        ∧ (t.out x).source = (s.out x).source ∧ (t.out x).state = (s.out x).state ∧ (t.out x).geom = some g
        ∧ (let v := (s.out x).view
           let zc := if v.ramp = 0 then v.zt else if v.zc < v.zt then min v.zt (v.zc + v.ramp)
             else if v.zt < v.zc then max v.zt (v.zc - v.ramp) else v.zc
           (t.out x).view = { v with zc := zc }
           ∧ ((s.out x).source = .blank ∨ (s.out x).source = .heldNone
                ∨ ((s.out x).source = .live ∧ s.slots.ready = []) → (t.out x).latch = none)
           ∧ (∀ k, ((s.out x).source = .live ∧ s.slots.ready.getLast? = some k) ∨ (s.out x).source = .frozen k
                ∨ (s.out x).source = .held k → ∃ l, (t.out x).latch = some l ∧ l.what = .slot k
                ∧ l.addr = s.slotAddr k ∧ l.ws = (s.slots.slot k).width ∧ l.hs = (s.slots.slot k).height
                ∧ l.frame = (s.slots.slot k).frame
                ∧ l.step = max 4096 (fitStep l.ws l.hs g.ow g.oh * 256 / zc)
                ∧ l.x0 = origin l.ws g.ow l.step v.cx ∧ l.y0 = origin l.hs g.oh l.step v.cy ∧ l.flip = v.flip
                ∧ ((s.slots.slot k).state = .ready → k < s.slots.slots.length →
                    (x = .a → (t.slots.slot k).showA = true) ∧ (x = .b → (t.slots.slot k).showB = true)))
           ∧ (∀ p, (s.out x).source = .recalled p → ∃ l, (t.out x).latch = some l ∧ l.what = .entry p
                ∧ l.addr = s.entryAddr p ∧ l.ws = (s.store.recAt p).width ∧ l.hs = (s.store.recAt p).height
                ∧ l.frame = (s.store.recAt p).frame
                ∧ l.step = max 4096 (fitStep l.ws l.hs g.ow g.oh * 256 / zc)
                ∧ l.x0 = origin l.ws g.ow l.step v.cx ∧ l.y0 = origin l.hs g.oh l.step v.cy ∧ l.flip = v.flip))
        ∧ (∀ k, (s.out x).latch.map (·.what) = some (.slot k) → (∀ l, (t.out x).latch = some l → l.what ≠ .slot k) →
            (x = .a → (t.slots.slot k).showA = false) ∧ (x = .b → (t.slots.slot k).showB = false))
        ∧ (∀ p, p < s.store.catalog.length → (s.out x).source ≠ .recalled p → (t.store.recAt p).recalled x = false)
        ∧ (∀ p, (s.out x).source = .recalled p → t.store.recAt p = s.store.recAt p)
        ∧ (∀ p r n more, p < s.store.catalog.length → (s.out x).source ≠ .recalled p →
            (∀ j, j ≠ p → (s.store.recAt j).wanted = false) → (s.store.recAt p).wanted = true →
            (s.store.recAt p).claimed = false → (s.store.recAt p).recalled x = true →
            (s.store.recAt p).recalled (otherOut x) = false → s.ring.restartDispatched = false →
            s.store.engine.waitCount < s.store.waitLimit → s.store.queue = r :: more → s.store.nextSeq = some n →
            (t.store.recAt p).state = .copying ∧ (t.store.recAt p).seq = n ∧ (t.store.recAt p).wanted = false
            ∧ t.store.order = s.store.order.erase p ++ [p] ∧ .record (.catalog p) ∈ t.recs.waiting
            ∧ (s.gov.state = .normal → t.store.engine.state = .copying p))
        ∧ (∀ p, p < s.store.catalog.length → (s.out x).source ≠ .recalled p → s.ring.restartDispatched = true →
            t.store.recAt p = (match x with
              | .a => { s.store.recAt p with recallA := false }
              | .b => { s.store.recAt p with recallB := false })
            ∧ t.store.order = s.store.order ∧ t.store.queue = s.store.queue ∧ t.store.nextSeq = s.store.nextSeq)
        ∧ t.gov.sample = some (max (-40) (min 150 die))
        ∧ t.out (otherOut x) = s.out (otherOut x) ∧ t.path = s.path ∧ t.cap = s.cap ∧ t.mon = s.mon
        ∧ t.slots.ready = s.slots.ready)

/-- R24, R25, R108, R114, R115, R122, R124 to R128, R131: a read at offset 0 waits for its frame start. A read whose output
rows, one or two, are in the row buffers is answered from them. With nothing latched and nothing buffered the answer
is black. A row whose source rows are VALID is computed from them; one that needs a FAILED row repeats the plane's
current row, or black, and the first of its output frame sets the damaged flag, logs OUTPUT_FETCH and raises
OUTPUT_DAMAGED. Either computed row has the next row's source rows that have no place prefetched while places are
free. A row that must wait for its source rows keeps the read at the head, unanswered: a row without a place is
fetched on demand and a MARKED one is fetched once more, the others wait as they stand. The last read of an output
that leaves makes it DISABLED, and answers DISABLE_OUTPUT or what RESTART waits for. The model's choices: logs
1, 8, 15, 20, 22, 23, 49, 51. -/
def Obligations.OutputReadServedAnswersTheHeadRead : Prop :=
  (
  ∀ (x : OutId) (q : QueuedRead) (rest : List QueuedRead) (g : OutGeom) (s : State),
    s.notice.halted = false → (s.out x).queue = q :: rest → (s.out x).geom = some g →
    (s.out x).leaving = false ∨ rest ≠ [] →
    let c := Instr.outputReadServed x
    (q.off = 0 → q.started = false → exec c s = .next s)
    ∧ (q.off ≠ 0 ∨ q.started = true →
        (∀ p r b, g.rowsOf q.off q.len = [(p, r)] → ((s.out x).cache p).rowBuffer? r = some b →
          exec c s = .next ((s.onOut x fun e => { e with queue := rest }).onPath fun u => { u with
            upLog := u.upLog ++ [⟨q.id, .read, .okay, (List.range q.len).map fun i =>
              if (g.locate (q.off + i)).1 = p ∧ (g.locate (q.off + i)).2.1 = r then
                b.getD (g.locate (q.off + i)).2.2 0 else 0⟩] }))
        ∧ (∀ p r b p' r' b', g.rowsOf q.off q.len = [(p, r), (p', r')] → ((s.out x).cache p).rowBuffer? r = some b →
          ((s.out x).cache p').rowBuffer? r' = some b' →
          exec c s = .next ((s.onOut x fun e => { e with queue := rest }).onPath fun u => { u with
            upLog := u.upLog ++ [⟨q.id, .read, .okay, (List.range q.len).map fun i =>
              if (g.locate (q.off + i)).1 = p ∧ (g.locate (q.off + i)).2.1 = r then
                b.getD (g.locate (q.off + i)).2.2 0
              else if (g.locate (q.off + i)).1 = p' ∧ (g.locate (q.off + i)).2.1 = r' then
                b'.getD (g.locate (q.off + i)).2.2 0 else 0⟩] }))
        ∧ ((s.out x).latch = none → (s.out x).luma.current = none → (s.out x).chroma.current = none →
            320 ≤ g.ow → 0 < g.oh → 16 ≤ q.len → q.len ≤ 256 → q.off + q.len ≤ g.ow * g.oh * 3 / 2 →
            ∃ t, exec c s = .next t ∧ (t.out x).queue = rest
              ∧ t.path = { s.path with upLog := s.path.upLog ++ [⟨q.id, .read, .okay,
                  (List.range q.len).map fun i => if q.off + i < g.ow * g.oh then 16 else 128⟩] }
              ∧ t.out (otherOut x) = s.out (otherOut x) ∧ s.changesOnly [.path, .outA, .outB] t)
        ∧ (∀ p r, g.rowsOf q.off q.len = [(p, r)] → ((s.out x).cache p).rowBuffer? r = none →
            (s.out x).rowWork p r = .blocked → ∃ t, exec c s = .next t ∧ (t.out x).queue = q :: rest
              ∧ (t.out x).latch = (s.out x).latch ∧ s.changesOnly [.outA, .outB] t)))
  ∧ (
  ∀ (x : OutId) (q : QueuedRead) (rest : List QueuedRead) (g : OutGeom) (l : Latch) (p : Plane) (r j : Nat)
    (below : List Nat) (s : State),
    s.notice.halted = false → (s.out x).queue = q :: rest → (s.out x).geom = some g → (s.out x).latch = some l →
    (s.out x).leaving = false ∨ rest ≠ [] → q.off ≠ 0 ∨ q.started = true → g.rowsOf q.off q.len = [(p, r)] →
    ((s.out x).cache p).rowBuffer? r = none → (planeView l g p).sourceRows r = j :: below →
    let c := (s.out x).cache p
    let answer := fun (row : List Byte) => (⟨q.id, .read, .okay, (List.range q.len).map fun i =>
      if (g.locate (q.off + i)).1 = p ∧ (g.locate (q.off + i)).2.1 = r then
        row.getD (g.locate (q.off + i)).2.2 0 else 0⟩ : UpResponse)
    let reads := fun (p' : Plane) (i : Nat) => segmentReads l p' (planeView l g p') i
    let fetched := fun (t : State) (p' : Plane) (i : Nat) (k : FetchKind) (rs : List (Nat × Nat)) =>
      ((t.out x).cache p').place? i = some ⟨i, .fetching, k, rs.map fun a => ⟨a.1, a.2, .waiting⟩, none⟩
        ∧ ∀ a ∈ rs, ⟨a.1, a.2, p', i, false⟩ ∈ (t.out x).fetchWaiting
    let prefetched := fun (t : State) => ∀ (p' : Plane) (r' i : Nat),
      (r + 1 < g.rows p ∧ p' = p ∧ r' = r + 1) ∨ (g.rows p ≤ r + 1 ∧ p = .luma ∧ p' = .chroma ∧ r' = 0) →
      i ∈ (planeView l g p').sourceRows r' → ((s.out x).cache p').place? i = none →
      (∀ f ∈ ((s.out x).cache p').failed, f.1 ≠ i) → ((s.out x).cache p').places.length ≤ 2 →
      fetched t p' i .prefetch (reads p' i)
    (∀ pl pl2, c.failed = [] → c.place? j = some pl → c.place? (below.headD j) = some pl2 → pl.cond = .valid →
        pl2.cond = .valid →
        let row := outputRow p (planeView l g p) g.ow r (fun i => pieceByte (rowAddr l p j + i) pl.pieces)
          (fun i => pieceByte (rowAddr l p (below.headD j) + i) pl2.pieces)
        ∃ t, exec (.outputReadServed x) s = .next t
        ∧ t.path = { s.path with upLog := s.path.upLog ++ [answer row] }
        ∧ (t.out x).queue = rest ∧ ((t.out x).cache p).current = some ⟨r, row⟩ ∧ (t.out x).computed = some (p, r)
        ∧ ((t.out x).cache p).previous = c.current ∧ (t.out x).latch = (s.out x).latch
        ∧ (t.out x).damaged = (s.out x).damaged ∧ t.out (otherOut x) = s.out (otherOut x) ∧ prefetched t
        ∧ s.changesOnly [.path, .outA, .outB] t)
    ∧ (∀ m a, c.failed = [(m, a)] → m = j ∨ m ∈ below →
        let held := (c.current.map (·.bytes)).getD (List.replicate g.ow (if p = .luma then 16 else 128))
        ∃ t, exec (.outputReadServed x) s = .next t
        ∧ t.path = { s.path with upLog := s.path.upLog ++ [answer held] }
        ∧ (t.out x).queue = rest ∧ ((t.out x).cache p).current = some ⟨r, held⟩ ∧ (t.out x).computed = some (p, r)
        ∧ ((t.out x).cache p).previous = c.current ∧ (t.out x).damaged = true
        ∧ ((s.out x).damaged = true → t.notice = s.notice ∧ t.recs = s.recs)
        ∧ ((s.out x).damaged = false → t.notice.faults = s.notice.faults + 1
            ∧ t.notice.isPending .outputDamaged = true ∧ t.notice.isPending .fault = true
            ∧ .given (.fault s.notice.place) (faultRecord (s.notice.faults + 1) .outputFetch
                (match x with | .a => .outputA | .b => .outputB) a l.frame
                (match l.what with | .slot k => .slot k | .entry n => .entry n)) ∈ t.recs.waiting)
        ∧ t.out (otherOut x) = s.out (otherOut x) ∧ prefetched t
        ∧ s.changesOnly [.path, .outA, .outB, .notice, .recs] t)
    ∧ ((∀ f ∈ c.failed, f.1 ≠ j ∧ f.1 ∉ below) → (∃ i ∈ j :: below, ∀ pl, c.place? i = some pl → pl.cond ≠ .valid) →
        ∃ t, exec (.outputReadServed x) s = .next t ∧ (t.out x).queue = q :: rest
        ∧ (∀ i ∈ j :: below,
            (c.place? i = none → c.places.length ≤ 2 → fetched t p i .demand (reads p i))
            ∧ (∀ pl, c.place? i = some pl → pl.cond = .marked →
                fetched t p i .refetch (pl.pieces.map fun a => (a.addr, a.len)))
            ∧ ∀ pl, c.place? i = some pl → pl.cond ≠ .marked → ((t.out x).cache p).place? i = some pl)
        ∧ (∃ more, (t.out x).fetchWaiting = (s.out x).fetchWaiting ++ more) ∧ s.changesOnly [.outA, .outB] t))
  ∧ (
  ∀ (x : OutId) (q : QueuedRead) (g : OutGeom) (p : Plane) (r : Nat) (b : List Byte) (s : State),
    s.notice.halted = false → (s.out x).queue = [q] → (s.out x).geom = some g → (s.out x).leaving = true →
    q.off ≠ 0 ∨ q.started = true → g.rowsOf q.off q.len = [(p, r)] → ((s.out x).cache p).rowBuffer? r = some b →
    ∃ t, exec (.outputReadServed x) s = .next t
      ∧ t.path.upLog = s.path.upLog ++ [⟨q.id, .read, .okay, (List.range q.len).map fun i =>
          if (g.locate (q.off + i)).1 = p ∧ (g.locate (q.off + i)).2.1 = r then
            b.getD (g.locate (q.off + i)).2.2 0 else 0⟩]
      ∧ (t.out x).state = .disabled ∧ (t.out x).leaving = false ∧ (t.out x).latch = none ∧ (t.out x).queue = []
      ∧ (t.out x).damaged = false ∧ t.out (otherOut x) = s.out (otherOut x)
      ∧ (∀ k, (s.out x).latch.map (·.what) = some (.slot k) →
          (x = .a → (t.slots.slot k).showA = false) ∧ (x = .b → (t.slots.slot k).showB = false))
      ∧ (∀ n, n < s.store.catalog.length → (t.store.recAt n).recalled x = false)
      ∧ (s.ring.restarting = false → s.AnswersLater 7 .done t)
      ∧ (s.ring.restarting = true → (t.out x).source = .live
          ∧ (s.cap.tearing = false → (s.out (otherOut x)).leaving = false → s.store.engine.flight = [] →
              t.ring.restarting = false ∧ s.AnswersLater 26 .done t)
          ∧ (s.cap.tearing = true ∨ (s.out (otherOut x)).leaving = true ∨ s.store.engine.flight ≠ [] →
              t.ring = s.ring)))

/-- R116, R125, R126, R127: a class A response. A stale one is dropped. When the segment is complete, an OKAY makes
the place VALID; an ERROR makes a prefetched place MARKED, has a demand fetch read the segment again, and makes a
place that was read again FAILED. A demand fetch that finds its plane's places all FETCHING waits, and one that waited
is raised when a place settles that is not needed, and not when a place is only fetched once more; a fetch that finds
no free place takes the one taken longest ago of those neither FETCHING nor needed. Needed are the source rows of the
output row being computed, or of the one computed last when none is, and of the next one, which after the last luma row
is the first chroma row. A row's segment runs from the first column used to the last second column, on
16-byte boundaries, and is read in pieces of up to 256 bytes that cross no 4 KiB boundary. The model's choices:
logs 21, 24, 40, 49. -/
def Obligations.SourceRowFetchSettlesItsPlace : Prop :=
  (
  ∀ (x : OutId) (addr : Nat) (data : List Byte) (f : RowFetch) (pl : CachePlace) (s : State),
    s.notice.halted = false → (s.out x).fetchFlight.find? (fun f => decide (f.addr = addr)) = some f →
    data.length = f.len →
    let c := Instr.sourceRowFetchResponse x addr .okay data
    let c' := Instr.sourceRowFetchResponse x addr .error data
    let s' := s.onOut x fun e => { e with fetchFlight := e.fetchFlight.erase f }
    (f.stale = true → exec c s = .next s' ∧ exec c' s = .next s')
    ∧ (f.stale = false → ((s.out x).cache f.plane).place? f.row = some pl → pl.failAddr = none →
        (∀ q ∈ pl.pieces, q.addr ≠ addr → q.result ≠ .waiting) → ((s.out x).cache f.plane).waiting = [] →
        (∃ t, exec c s = .next t ∧ ((t.out x).cache f.plane).place? f.row = some { pl with
            cond := .valid
            pieces := pl.pieces.map fun q => if q.addr = addr then { q with result := .ok data } else q }
          ∧ (t.out x).fetchWaiting = (s.out x).fetchWaiting
          ∧ (t.out x).fetchFlight = (s.out x).fetchFlight.erase f ∧ s.changesOnly [.outA, .outB] t)
        ∧ (∃ t pl', exec c' s = .next t ∧ ((t.out x).cache f.plane).place? f.row = some pl'
          ∧ (pl.kind = .prefetch → pl'.cond = .marked ∧ (t.out x).fetchWaiting = (s.out x).fetchWaiting)
          ∧ (pl.kind = .demand → pl'.cond = .fetching ∧ pl'.kind = .refetch ∧ (t.out x).fetchWaiting =
              (s.out x).fetchWaiting ++ pl.pieces.map fun q => ⟨q.addr, q.len, f.plane, pl.row, false⟩)
          ∧ (pl.kind = .refetch → pl'.cond = .failed
              ∧ ((t.out x).cache f.plane).failed = ((s.out x).cache f.plane).failed ++ [(pl.row, addr)])
          ∧ s.changesOnly [.outA, .outB] t)))
  ∧ (
  ∀ (x : OutId) (addr : Nat) (r : Resp) (data : List Byte) (f : RowFetch) (pl : CachePlace) (s : State),
    s.notice.halted = false → (s.out x).fetchFlight.find? (fun f => decide (f.addr = addr)) = some f →
    f.stale = false → ((s.out x).cache f.plane).place? f.row = some pl → pl.kind = .demand →
    (∀ q ∈ pl.pieces, q.addr ≠ addr → q.result ≠ .waiting) →
    r = .error ∨ (data.length = f.len ∧ pl.failAddr ≠ none) →
    ∃ t, exec (.sourceRowFetchResponse x addr r data) s = .next t
      ∧ ((t.out x).cache f.plane).waiting = ((s.out x).cache f.plane).waiting
      ∧ ((t.out x).cache f.plane).places.map (·.row) = ((s.out x).cache f.plane).places.map (·.row)
      ∧ ((t.out x).cache f.plane).place? f.row = some ⟨pl.row, .fetching, .refetch,
          pl.pieces.map fun q => ⟨q.addr, q.len, .waiting⟩, none⟩
      ∧ (t.out x).fetchWaiting =
          (s.out x).fetchWaiting ++ pl.pieces.map fun q => ⟨q.addr, q.len, f.plane, pl.row, false⟩)
  ∧ (
  ∀ (e : Engine) (g : OutGeom) (p p' : Plane) (r : Nat), e.geom = some g →
    (e.queue = [] ∧ e.computed = some (p, r))
      ∨ (∃ q rest, e.queue = q :: rest ∧ (q.off ≠ 0 ∨ q.started = true) ∧ g.rowsOf q.off q.len = [(p, r)]
          ∧ (e.cache p).rowBuffer? r = none) →
    e.keepRows p' = (if p' = p then e.needs p r else [])
      ++ (if r + 1 < g.rows p then if p' = p then e.needs p (r + 1) else []
          else if p = .luma ∧ p' = .chroma then e.needs .chroma 0 else []))
  ∧ (
  ∀ (x : OutId) (addr j : Nat) (k : FetchKind) (data : List Byte) (f : RowFetch) (pl : CachePlace) (s : State),
    s.notice.halted = false → (s.out x).fetchFlight.find? (fun f => decide (f.addr = addr)) = some f →
    data.length = f.len → f.stale = false → ((s.out x).cache f.plane).place? f.row = some pl → pl.failAddr = none →
    (∀ q ∈ pl.pieces, q.addr ≠ addr → q.result ≠ .waiting) → ((s.out x).cache f.plane).waiting = [(j, k)] →
    ((s.out x).cache f.plane).place? j = none → ((s.out x).cache f.plane).failed = [] →
    f.row ∉ (s.out x).keepRows f.plane →
    let reads := (s.out x).rowReads f.plane j
    ∃ t, exec (.sourceRowFetchResponse x addr .okay data) s = .next t
      ∧ ((t.out x).cache f.plane).waiting = []
      ∧ ((t.out x).cache f.plane).place? j = some ⟨j, .fetching, k, reads.map fun a => ⟨a.1, a.2, .waiting⟩, none⟩
      ∧ (t.out x).fetchWaiting = (s.out x).fetchWaiting ++ reads.map fun a => ⟨a.1, a.2, f.plane, j, false⟩)
  ∧ (
  ∀ (e : Engine) (p : Plane) (needed : List Nat) (j : Nat), (e.cache p).places.length = 4 →
    (∀ pl ∈ (e.cache p).places, pl.cond = .fetching ∧ pl.row ≠ j) → (e.cache p).failed = [] →
    (e.cache p).waiting = [] →
    let u := e.demandRow p needed j
    (u.cache p).waiting = [(j, .demand)] ∧ (u.cache p).places = (e.cache p).places ∧ u.fetchWaiting = e.fetchWaiting)
  ∧ (
  ∀ (e : Engine) (p : Plane) (needed : List Nat) (j : Nat) (k : FetchKind) (old : CachePlace)
    (pre post : List CachePlace), (e.cache p).places = pre ++ old :: post → (e.cache p).places.length = 4 →
    (∀ pl ∈ pre, pl.cond = .fetching ∨ pl.row ∈ needed) → old.cond ≠ .fetching → old.row ∉ needed →
    (∀ pl ∈ (e.cache p).places, pl.row ≠ j) → (e.cache p).failed = [] →
    let u := e.fetchRow p k needed j
    let reads := e.rowReads p j
    (u.cache p).places = pre ++ post ++ [⟨j, .fetching, k, reads.map fun a => ⟨a.1, a.2, .waiting⟩, none⟩]
    ∧ u.fetchWaiting = e.fetchWaiting ++ reads.map fun a => ⟨a.1, a.2, p, j, false⟩)
  ∧ (
  ∀ (l : Latch) (g : OutGeom) (p : Plane) (j lo hi c c' : Nat),
    let v := planeView l g p
    let column := fun (c : Nat) => v.x0 + ((if l.flip then v.outWidth - 1 - c else c) * l.step : Nat)
    let used := fun (c i : Nat) => c < v.outWidth ∧ 0 ≤ column c ∧ column c < (v.width * 65536 : Nat)
      ∧ i = (column c).toNat / 65536
    used c lo → (∀ d i, used d i → lo ≤ i) → used c' hi → (∀ d i, used d i → i ≤ hi) →
    let second := min (hi + 1) (v.width - 1)
    let first := match p with | .luma => l.addr + j * l.ws + lo | .chroma => l.addr + l.ws * l.hs + j * l.ws + 2 * lo
    let last := match p with
      | .luma => l.addr + j * l.ws + second
      | .chroma => l.addr + l.ws * l.hs + j * l.ws + 2 * second + 1
    segmentReads l p v j = spanOf (first / 16 * 16) ((last / 16 + 1) * 16 - first / 16 * 16)
    ∧ ∀ e : Engine, e.latch = some l → e.geom = some g → e.rowReads p j = segmentReads l p v j)
  ∧ ∀ addr len, SplitsSpan addr len (spanOf addr len)

/-- R119 to R123, R125: the fit step, which is the larger of the two axes' ratios, each rounded up; the origin of an axis that is letterboxed and of one that is panned, with the pan's clamp; what
each output byte is: black outside the frame, else the two rows' pairs mixed by the fractions, the second column and row
replicated at the edge, with flip turning the output end for end; which source rows an output row needs. A frame of the
output's own size, unzoomed and centred, is shown byte for byte. The model's choices: log 20. -/
def Obligations.UnzoomedFrameIsShownByteForByte : Prop :=
  (
  ∀ (w : Latched) (addr ow oh r o : Nat) (frame : Count) (base : Nat) (ramp zt : Nat) (flip : Bool)
    (luma luma' pairs pairs' : Nat → Nat), 0 < ow → 0 < oh → ow % 2 = 0 → oh % 2 = 0 → o < ow →
    let g : OutGeom := ⟨base, ow, oh⟩
    let l := makeLatch w (addr, ow, oh, frame) g ⟨zt, 256, ramp, none, none, flip⟩
    l.step = 65536 ∧ l.x0 = 0 ∧ l.y0 = 0
    ∧ (r < oh → ∀ v, v = planeView l g .luma →
        v.sourceRows r = (let j := if flip then oh - 1 - r else r; if j + 1 = oh then [j] else [j, j + 1])
        ∧ (outputRow .luma v ow r luma luma').getD o 0 = BitVec.ofNat 8 (luma (if flip then ow - 1 - o else o)))
    ∧ (r < oh / 2 → ∀ v, v = planeView l g .chroma →
        (outputRow .chroma v ow r pairs pairs').getD o 0 =
          BitVec.ofNat 8 (pairs (if flip then 2 * (ow / 2 - 1 - o / 2) + o % 2 else o))))
  ∧ (
  ∀ (size out step : Nat) (centre : Option Nat),
    let c : Nat := match centre with
      | some c => c * 65536
      | none => size * 32768
    let full : Int := (size * 65536 : Nat)
    let crop : Int := (step * out : Nat)
    (full ≤ crop → origin size out step centre = (full - crop) / 2)
    ∧ (crop < full → origin size out step centre = max 0 (min (full - crop) (c - crop / 2))))
  ∧ (
  ∀ (l : Latch) (g : OutGeom) (r o : Nat) (a b : Nat → Nat), o < g.ow →
    let mix := fun (u v f : Nat) => (u * (256 - f) + v * f + 128) / 256
    (r < g.oh →
      let v := planeView l g .luma
      let X : Int := l.x0 + ((if l.flip then g.ow - 1 - o else o) * l.step : Nat)
      let Y : Int := l.y0 + ((if l.flip then g.oh - 1 - r else r) * l.step : Nat)
      let i := X.toNat / 65536
      let i2 := min (i + 1) (l.ws - 1)
      let f := X.toNat % 65536 / 256
      (X < 0 ∨ (l.ws * 65536 : Nat) ≤ X → (outputRow .luma v g.ow r a b).getD o 0 = 16)
      ∧ (0 ≤ X → X < (l.ws * 65536 : Nat) → (outputRow .luma v g.ow r a b).getD o 0 = BitVec.ofNat 8
          (mix (mix (a i) (a i2) f) (mix (b i) (b i2) f) (Y.toNat % 65536 / 256)))
      ∧ (Y < 0 ∨ (l.hs * 65536 : Nat) ≤ Y → v.sourceRows r = []
          ∧ ∀ e : Engine, e.latch = some l → e.geom = some g → e.rowBytes? .luma r = some (List.replicate g.ow 16))
      ∧ (0 ≤ X → X < (l.ws * 65536 : Nat) → 0 ≤ Y → Y < (l.hs * 65536 : Nat) → v.sourceRows r =
          if Y.toNat / 65536 + 1 < l.hs then [Y.toNat / 65536, Y.toNat / 65536 + 1] else [Y.toNat / 65536]))
    ∧ (r < g.oh / 2 → g.ow % 2 = 0 → l.ws % 2 = 0 → l.hs % 2 = 0 →
      let v := planeView l g .chroma
      let X : Int := l.x0 / 2 + ((if l.flip then g.ow / 2 - 1 - o / 2 else o / 2) * l.step : Nat)
      let Y : Int := l.y0 / 2 + ((if l.flip then g.oh / 2 - 1 - r else r) * l.step : Nat)
      let i := X.toNat / 65536
      let i2 := min (i + 1) (l.ws / 2 - 1)
      let f := X.toNat % 65536 / 256
      (X < 0 ∨ (l.ws / 2 * 65536 : Nat) ≤ X → (outputRow .chroma v g.ow r a b).getD o 0 = 128)
      ∧ (0 ≤ X → X < (l.ws / 2 * 65536 : Nat) → (outputRow .chroma v g.ow r a b).getD o 0 = BitVec.ofNat 8
          (mix (mix (a (2 * i + o % 2)) (a (2 * i2 + o % 2)) f) (mix (b (2 * i + o % 2)) (b (2 * i2 + o % 2)) f)
            (Y.toNat % 65536 / 256)))
      ∧ (Y < 0 ∨ (l.hs / 2 * 65536 : Nat) ≤ Y → v.sourceRows r = []
          ∧ ∀ e : Engine, e.latch = some l → e.geom = some g →
            e.rowBytes? .chroma r = some (List.replicate g.ow 128))
      ∧ (0 ≤ X → X < (l.ws / 2 * 65536 : Nat) → 0 ≤ Y → Y < (l.hs / 2 * 65536 : Nat) → v.sourceRows r =
          if Y.toNat / 65536 + 1 < l.hs / 2 then [Y.toNat / 65536, Y.toNat / 65536 + 1] else [Y.toNat / 65536])))
  ∧ (
  ∀ ws hs ow oh : Nat, 0 < ow → 0 < oh →
    let ceil := fun (a b : Nat) => if a % b = 0 then a / b else a / b + 1
    fitStep ws hs ow oh = max (ceil (ws * 65536) ow) (ceil (hs * 65536) oh))

/-! ### The Lesson Store Controller -/

/-- R25, R135, R136, R137: OPEN_STORE is refused STATE while OPEN or without a capture configuration, BUSY while OPENING,
RANGE when it does not fit; without resume it opens an empty store at once, with it it becomes OPENING and reads the
header and the first records, its record in flight and unanswered. The model's choices: log 34. -/
def Obligations.OpenStoreOpensOrResumes : Prop :=
  ∀ (policy resume wait : BitVec 8) (e : BitVec 16) (base : BitVec 64) (s : State), s.notice.halted = false →
    let c := Instr.openStore policy resume wait e base
    let limit := max 1 wait.toNat
    let fits := fun (g : CapGeom) => policy.toNat ≤ 1 ∧ resume.toNat ≤ 1
      ∧ s.StoreFits e.toNat base.toNat (frameSize g.w g.h)
    (s.store.state = .opened ∨ (s.store.state = .closed ∧ s.cap.geom = none) →
      exec c s = .next (s.answer c .refusedState))
    ∧ (s.store.state = .opening → exec c s = .next (s.answer c .refusedBusy))
    ∧ ∀ g : CapGeom, s.store.state = .closed → s.cap.geom = some g →
      (¬fits g → exec c s = .next (s.answer c .refusedRange))
      ∧ (fits g → resume = 0 → ∃ t, exec c s = .next t
          ∧ t.store = { s.store with
              state := .opened, geom := some ⟨base.toNat, e.toNat, frameSize g.w g.h⟩
              keepAll := decide (policy = 1), waitLimit := limit
              catalog := List.replicate e.toNat ⟨.free, 0, 0, 0, 0, false, .enhanced, 0, 0, false, none, false, false,
                false, false⟩
              order := [], nextSeq := some 1, nextLesson := 1, lesson := none, page := 0, resume := none }
          ∧ .record .header ∈ t.recs.waiting ∧ (∀ p, p < e.toNat → .record (.catalog p) ∈ t.recs.waiting)
          ∧ .record .status ∈ t.recs.waiting
          ∧ s.AnswersNow c (if wait = 0 then .adjusted else .done) t
          ∧ s.changesOnly [.store, .recs, .ring] t)
      ∧ (fits g → resume = 1 → ∃ t, exec c s = .next t ∧ t.store.state = .opening
          ∧ t.store.geom = some ⟨base.toNat, e.toNat, frameSize g.w g.h⟩ ∧ t.store.waitLimit = limit
          ∧ t.store.keepAll = decide (policy = 1)
          ∧ t.store.resume = some ⟨[], decide (wait = 0), s.store.keepAll, s.store.waitLimit⟩
          ∧ .resume base.toNat (min 256 (64 + 64 * e.toNat)) ∈ t.recs.waiting
          ∧ s.Accepts c t ∧ s.changesOnly [.store, .recs, .ring] t)

/-- R23, R24, R25, R137, R138, R190: a resume read that returns ERROR closes the store with CATALOG_READ; a header that does not
match closes it REFUSED_FORMAT; both put the policy and the wait limit of before the directive back; else the reads go
on, and after the last the store opens with the catalog rebuilt: a record is SAVED when it says so at its own
position, with a sequence no lower position carries, and every other is FREE and written, unless it was read FREE at
its own position. The SAVED records are ordered by sequence, and the next sequence is one more than the highest, 1
when there is none. Each end answers OPEN_STORE with the status write of its record. The model's choices: logs
27, 28, 34. -/
def Obligations.ResumeReadRebuildsTheCatalog : Prop :=
  ∀ (a n : Nat) (data : List Byte) (re : Resume) (g : StoreGeom) (s : State), s.notice.halted = false →
    s.recs.resumeInFlight = some (a, n) → s.store.resume = some re → s.store.geom = some g →
    let got := re.got ++ data
    let header := fieldAt got 0 4 = 0x20405354 ∧ fieldAt got 4 2 = g.e ∧ fieldAt got 8 4 = g.entrySize
    let rec? := fun p => (got.drop (64 + p * 64)).take 64
    let flag := fun (p i : Nat) => decide (fieldAt (rec? p) 3 1 / 2 ^ i % 2 = 1)
    let good := fun p => fieldAt (rec? p) 2 1 = 2 ∧ fieldAt (rec? p) 0 2 = p ∧ fieldAt (rec? p) 4 4 ≠ 0
    (∃ t, exec (.resumeReadResponse .error data) s = .next t
      ∧ t.store = { s.store with state := .closed, geom := none, catalog := [], order := [], resume := none
                                 keepAll := re.keepAll, waitLimit := re.waitLimit }
      ∧ t.notice.faults = s.notice.faults + 1 ∧ t.notice.isPending .fault = true
      ∧ .given (.fault s.notice.place) (faultRecord (s.notice.faults + 1) .catalogRead .store a s.cap.frameNo .none)
          ∈ t.recs.waiting
      ∧ s.AnswersLater 15 .refusedState t ∧ s.changesOnly [.store, .notice, .recs, .ring] t)
    ∧ (data.length = n → re.got = [] → ¬header → ∃ t, exec (.resumeReadResponse .okay data) s = .next t
      ∧ t.store = { s.store with state := .closed, geom := none, catalog := [], order := [], resume := none
                                 keepAll := re.keepAll, waitLimit := re.waitLimit }
      ∧ s.AnswersLater 15 .refusedFormat t ∧ s.changesOnly [.store, .recs, .ring] t)
    ∧ (data.length = n → (re.got = [] → header) → got.length < 64 + 64 * g.e →
      ∃ t, exec (.resumeReadResponse .okay data) s = .next t
      ∧ t.store = { s.store with resume := some { re with got := got } }
      ∧ .resume (g.base + got.length) (min 256 (64 + 64 * g.e - got.length)) ∈ t.recs.waiting
      ∧ s.changesOnly [.store, .recs] t)
    ∧ (data.length = n → (re.got = [] → header) → 64 + 64 * g.e ≤ got.length →
      ∃ t, exec (.resumeReadResponse .okay data) s = .next t
      ∧ t.store.state = .opened ∧ t.store.resume = none ∧ t.store.lesson = none ∧ t.store.page = 0
      ∧ t.store.nextLesson = max 1 (fieldAt got 12 2) ∧ t.store.catalog.length = g.e
      ∧ (∀ p, p < g.e → ((t.store.recAt p).state = .saved ↔
          good p ∧ ∀ q, q < p → good q → fieldAt (rec? q) 4 4 ≠ fieldAt (rec? p) 4 4))
      ∧ (∀ p, p < g.e → (t.store.recAt p).state = .saved →
          (t.store.recAt p).seq = fieldAt (rec? p) 4 4 ∧ (t.store.recAt p).width = fieldAt (rec? p) 0x12 2
          ∧ (t.store.recAt p).height = fieldAt (rec? p) 0x14 2 ∧ (t.store.recAt p).marked = false
          ∧ (t.store.recAt p).frame = BitVec.ofNat 32 (fieldAt (rec? p) 8 4)
          ∧ (t.store.recAt p).lesson = fieldAt (rec? p) 12 2 ∧ (t.store.recAt p).page = fieldAt (rec? p) 14 2
          ∧ (t.store.recAt p).kind = (if fieldAt (rec? p) 16 1 = 0 then .enhanced
              else if fieldAt (rec? p) 16 1 = 1 then .plain else .degraded)
          ∧ (t.store.recAt p).kept = flag p 0 ∧ (t.store.recAt p).auto = flag p 1
          ∧ (t.store.recAt p).view = if flag p 2 then some ⟨max 256 (min 2048 (fieldAt (rec? p) 22 2)),
              fieldAt (rec? p) 24 2, fieldAt (rec? p) 26 2, flag p 3⟩ else none)
      ∧ (∀ p, p < g.e → (t.store.recAt p).state ≠ .saved → t.store.recAt p = Rec.blank)
      ∧ t.store.order.Nodup ∧ (∀ p, p ∈ t.store.order ↔ p < g.e ∧ (t.store.recAt p).state = .saved)
      ∧ (t.store.order.map fun p => (t.store.recAt p).seq).Pairwise (· < ·)
      ∧ ((∀ p, p < g.e → (t.store.recAt p).state ≠ .saved) → t.store.nextSeq = some 1)
      ∧ (∀ p, p < g.e → (t.store.recAt p).state = .saved →
          (∀ q, q < g.e → (t.store.recAt q).state = .saved → (t.store.recAt q).seq ≤ (t.store.recAt p).seq) →
          t.store.nextSeq =
            if (t.store.recAt p).seq = 0xFFFFFFFF then none else some ((t.store.recAt p).seq + 1))
      ∧ (∀ p, p < g.e → (t.store.recAt p).state ≠ .saved → ¬(fieldAt (rec? p) 2 1 = 0 ∧ fieldAt (rec? p) 0 2 = p) →
          .record (.catalog p) ∈ t.recs.waiting)
      ∧ .record .status ∈ t.recs.waiting ∧ t.store.geom = some g ∧ t.store.keepAll = s.store.keepAll
      ∧ t.store.waitLimit = s.store.waitLimit ∧ t.store.queue = s.store.queue ∧ t.store.outcome = s.store.outcome
      ∧ s.AnswersLater 15 (if re.clamped then .adjusted else .done) t
      ∧ s.changesOnly [.store, .recs, .ring] t)

/-- R133, R139, R144, R145, R178: CLOSE_STORE, BEGIN_LESSON and END_LESSON are refused STATE while CLOSED and BUSY
while OPENING. An OPEN store closes unless a request is queued or a record recalled, and its header and catalog writes
that wait keep their place with the address and the content they have at that moment; a lesson begins with the next
number and page 0, wrapping from 65535 to 1; a lesson ends. The model's choices: log 10. -/
def Obligations.StoreClosesAndLessonsBeginAndEnd : Prop :=
  ∀ s : State, s.notice.halted = false →
    (∀ c, c = .closeStore ∨ c = .beginLesson ∨ c = .endLesson →
      (s.store.state = .closed → exec c s = .next (s.answer c .refusedState))
      ∧ (s.store.state = .opening → exec c s = .next (s.answer c .refusedBusy)))
    ∧ (s.store.state = .opened → (s.store.queue ≠ [] ∨ ∃ r ∈ s.store.catalog, r.recallA = true ∨ r.recallB = true) →
        exec .closeStore s = .next (s.answer .closeStore .refusedBusy))
    ∧ (s.store.state = .opened → s.store.queue = [] →
        (∀ r ∈ s.store.catalog, r.recallA = false ∧ r.recallB = false) → ∃ t, exec .closeStore s = .next t
        ∧ (∀ sg, s.store.geom = some sg →
            (∀ i : Nat, s.recs.waiting[i]? = some (.record .header) → t.recs.waiting[i]? =
              some (.closed .header sg.base (headerRecord sg s.store.nextLesson)))
            ∧ ∀ i p : Nat, s.recs.waiting[i]? = some (.record (.catalog p)) → t.recs.waiting[i]? =
              some (.closed (.catalog p) (sg.base + 64 + p * 64) (catalogRecord p (s.store.recAt p))))
        ∧ (∀ (i : Nat) w, s.recs.waiting[i]? = some w → w ≠ .record .header → (∀ p, w ≠ .record (.catalog p)) →
            (∀ k data, w ≠ .given (.directive k) data) → t.recs.waiting[i]? = some w)
        ∧ t.store = { s.store with state := .closed, geom := none, catalog := [], order := [], lesson := none }
        ∧ t.ring.lastStatus = some .done ∧ .record .status ∈ t.recs.waiting ∧ s.changesOnly [.store, .recs, .ring] t)
    ∧ (s.store.state = .opened → s.mon.InboxSound → ∃ t, exec .beginLesson s = .next t
        ∧ t.store = { s.store with lesson := some s.store.nextLesson, page := 0
                                   nextLesson := if s.store.nextLesson = 65535 then 1 else s.store.nextLesson + 1 }
        ∧ .record .header ∈ t.recs.waiting
        ∧ (s.mon.inbox = [] → t.mon = { s.mon with saved := none })
        ∧ (s.mon.inbox ≠ [] → t.mon = { s.mon with inbox := s.mon.inbox ++ [.lessonBegun] })
        ∧ t.ring.lastStatus = some .done ∧ s.changesOnly [.store, .mon, .recs, .ring] t)
    ∧ (s.store.state = .opened → exec .endLesson s =
        .next (State.answer .endLesson .done { s with store := { s.store with lesson := none } }))

/-- R28, R100, R129, R146, R147, R149, R150: SNAPSHOT, after the wake or idle reset, is refused in the order of R27, and
otherwise queues a request built from the slot its source shows, with its COPY tag, and the next page of an open lesson,
which an IDLE engine begins; a taken NEWEST saves the last signature. The view saved is output A's zoom, centres, 65535
for a centred axis, and flip while output A is ENABLED, and absent else. The model's choices: logs 10, 41, 47. -/
def Obligations.SnapshotQueuesARequest : Prop :=
  (
  ∀ (source keep : BitVec 8) (s : State), s.notice.halted = false →
    let c := Instr.snapshot source keep
    let s' := s.touch
    let slot := if source = 0 then s.slots.ready.getLast?
      else (match (if source = 1 then s.outA.latch else s.outB.latch).map Latch.what with
        | some (.slot k) => some k
        | _ => none)
    let bad := 2 < source.toNat ∨ 1 < keep.toNat
    (s.store.state = .closed → exec c s = .next (s'.answer c .refusedState))
    ∧ (s.store.state = .opening → exec c s = .next (s'.answer c .refusedBusy))
    ∧ (s.store.state = .opened → bad → exec c s = .next (s'.answer c .refusedRange))
    ∧ (s.store.state = .opened → ¬bad → slot = none → exec c s = .next (s'.answer c .refusedNoFrame))
    ∧ (s.store.state = .opened → ¬bad → slot ≠ none → 4 ≤ s.store.queue.length →
        exec c s = .next (s'.answer c .refusedFull))
    ∧ (∀ k, s.store.state = .opened → ¬bad → slot = some k → s.store.queue.length < 4 →
        s.store.engine.state ≠ .idle → s.mon.inbox = [] → ∃ t r, exec c s = .next t
        ∧ t.store = { s.store with
            page := if s.store.lesson = none then s.store.page
              else if s.store.page = 65535 then 1 else s.store.page + 1
            queue := s.store.queue ++ [r] }
        ∧ r.slot = k ∧ r.frame = (s.slots.slot k).frame ∧ r.kind = (s.slots.slot k).kind
        ∧ r.width = (s.slots.slot k).width ∧ r.height = (s.slots.slot k).height ∧ r.auto = false
        ∧ r.keep = decide (keep = 1) ∧ r.lesson = s.store.lesson.getD 0
        ∧ r.page = (if s.store.lesson = none then 0 else t.store.page) ∧ r.view = s.viewOfA
        ∧ (k < s.slots.slots.length → (t.slots.slot k).copies = (s.slots.slot k).copies + 1)
        ∧ (source = 0 → ∀ sig, s.mon.last = some sig → t.mon.saved = some sig.means)
        ∧ (source ≠ 0 → t.mon = s'.mon) ∧ t.ring.lastStatus = some .done
        ∧ s'.changesOnly [.store, .slots, .mon, .recs, .ring] t)
    ∧ (∀ k, s.store.state = .opened → ¬bad → slot = some k → s.store.queue.length < 4 →
        s.store.engine.state = .idle →
        let page := if s.store.lesson = none then s.store.page
          else if s.store.page = 65535 then 1 else s.store.page + 1
        let sl := s.slots.slot k
        let r : Request := ⟨k, sl.frame, sl.kind, sl.width, sl.height, false, decide (keep = 1),
          s.store.lesson.getD 0, if s.store.lesson = none then 0 else page, s.viewOfA⟩
        let u := State.nextRequest { s' with
          store := { s.store with page := page, queue := s.store.queue ++ [r] }
          slots := s'.slots.takeCopy k, recs := s'.recs.request .status }
        exec c s = .next ((if source = 0 then u.tellMonitor (.newestSaved false) else u).answer c .done)))
  ∧ (
  ∀ s : State,
    (s.outA.state ≠ .enabled → s.viewOfA = none)
    ∧ (s.outA.state = .enabled → ∃ v, s.viewOfA = some v ∧ v.zc = s.outA.view.zc
        ∧ v.cx = (match s.outA.view.cx with | some c => c | none => 65535)
        ∧ v.cy = (match s.outA.view.cy with | some c => c | none => 65535) ∧ v.flip = s.outA.view.flip))

/-- R133, R143, R153, R154, R159, R160: CLAIM, RELEASE, KEEP, UNKEEP and DELETE are refused STATE, BUSY, RANGE and
ENTRY in that order, and otherwise act on the record at their position; a record that is not WANTED hands nothing
over. KEEP on the WANTED record, before the wait is over, clears the mark and has the engine choose again. The
model's choices: logs 11, 41. -/
def Obligations.EntryDirectivesActOnTheirRecord : Prop :=
  ∀ (pos : BitVec 16) (s : State), s.notice.halted = false →
    let p := pos.toNat
    let r := s.store.recAt p
    let size := (s.store.geom.map (·.e)).getD 0
    let set := fun (f : Rec → Rec) => s.onStore fun st => { st with catalog := st.catalog.modify p f }
    (∀ c, c = .claim pos ∨ c = .release pos ∨ c = .keep pos ∨ c = .unkeep pos ∨ c = .delete pos →
      (s.store.state = .closed → exec c s = .next (s.answer c .refusedState))
      ∧ (s.store.state = .opening → exec c s = .next (s.answer c .refusedBusy))
      ∧ (s.store.state = .opened → size ≤ p → exec c s = .next (s.answer c .refusedRange)))
    ∧ (s.store.state = .opened → p < size →
        (r.state ≠ .saved ∨ r.claimed = true ∨ r.wanted = true →
          exec (.claim pos) s = .next (s.answer (.claim pos) .refusedEntry))
        ∧ (r.state = .saved → r.claimed = false → r.wanted = false → exec (.claim pos) s =
            .next ((set fun r => { r with claimed := true }).answer (.claim pos) .done))
        ∧ (r.claimed = false → exec (.release pos) s = .next (s.answer (.release pos) .done))
        ∧ (r.claimed = true → r.wanted = false → exec (.release pos) s =
            .next ((set fun r => { r with claimed := false }).answer (.release pos) .done))
        ∧ (r.state = .free → exec (.keep pos) s = .next (s.answer (.keep pos) .refusedEntry)
            ∧ exec (.unkeep pos) s = .next (s.answer (.unkeep pos) .refusedEntry))
        ∧ (r.state ≠ .free → r.wanted = false → exec (.keep pos) s = .next
            (((set fun r => { r with kept := true }).request (.catalog p)).answer (.keep pos) .done))
        ∧ (r.state ≠ .free → r.wanted = true → s.store.engine.waitCount < s.store.waitLimit → exec (.keep pos) s =
            .next ((State.nextRequest ((set fun r => { r with kept := true, wanted := false }).request
              (.catalog p))).answer (.keep pos) .done))
        ∧ (r.state ≠ .free → exec (.unkeep pos) s = .next
            (((set fun r => { r with kept := false }).request (.catalog p)).answer (.unkeep pos) .done))
        ∧ (r.state ≠ .saved ∨ r.marked = true ∨ r.wanted = true →
            exec (.delete pos) s = .next (s.answer (.delete pos) .refusedEntry))
        ∧ (r.state = .saved → r.marked = false → r.wanted = false → ∃ t, exec (.delete pos) s = .next t
            ∧ t.store = { s.store with catalog := s.store.catalog.modify p fun _ => Rec.blank
                                       order := s.store.order.erase p }
            ∧ .record (.catalog p) ∈ t.recs.waiting ∧ .record .status ∈ t.recs.waiting
            ∧ t.ring.lastStatus = some .done ∧ s.changesOnly [.store, .recs, .ring] t))

/-- R22, R143, R150 to R153, R155, R158, R163, R170: RELEASE of the last mark of the WANTED record, before the wait is
over, hands the record over to the head request. From the moment RESTART is dispatched, which is the OKAY response of
its record's fetch, it hands nothing over and leaves the record SAVED. The timeout, once the wait count has reached the limit, fails the request
with HELD and has the engine take the next. The engine begins a request with the FREE record of the lowest position;
without one, under RECYCLE, with the oldest that is not KEPT, which it recycles or, when it is marked, waits on; else
the request fails with STORE_FULL, and so does every request behind it. A copy that starts while the part is not in
NORMAL is PAUSED. The model's choices: logs 1, 8, 11. -/
def Obligations.WaitEndsByHandoverOrTimeout : Prop :=
  (
  ∀ (pos : BitVec 16) (q : Request) (rest : List Request) (n : Nat) (s : State), s.notice.halted = false →
    let p := pos.toNat
    let r := s.store.recAt p
    s.store.state = .opened → p < (s.store.geom.map (·.e)).getD 0 → p < s.store.catalog.length →
    r.wanted = true → r.claimed = true → r.recallA = false → r.recallB = false →
    s.store.engine.waitCount < s.store.waitLimit → s.ring.restartDispatched = false →
    s.store.queue = q :: rest → s.store.nextSeq = some n →
    ∃ t, exec (.release pos) s = .next t
      ∧ t.store.recAt p = ⟨.copying, n, q.lesson, q.page, q.frame, q.auto, q.kind, q.width, q.height, q.keep, q.view,
          false, false, false, false⟩
      ∧ t.store.order = s.store.order.erase p ++ [p]
      ∧ t.store.nextSeq = (if n = 0xFFFFFFFF then none else some (n + 1)) ∧ t.store.queue = s.store.queue
      ∧ t.store.engine.chunk = 0
      ∧ (s.gov.state = .normal → t.store.engine.state = .copying p ∧ t.store.engine.waiting =
          (List.range 16).map (fun i => ⟨.read, s.slotAddr q.slot + i * 256, [], false⟩))
      ∧ (s.gov.state ≠ .normal → t.store.engine.state = .paused p
          ∧ t.store.engine.waiting = s.store.engine.waiting)
      ∧ .record (.catalog p) ∈ t.recs.waiting ∧ t.ring.lastStatus = some .done
      ∧ s.changesOnly [.store, .recs, .ring] t)
  ∧ (
  ∀ (pos : BitVec 16) (s : State), s.notice.halted = false →
    let p := pos.toNat
    s.store.state = .opened → p < (s.store.geom.map (·.e)).getD 0 → (s.store.recAt p).claimed = true →
    s.ring.restartDispatched = true → exec (.release pos) s = .next (State.answer (.release pos) .done { s with
      store := { s.store with catalog := s.store.catalog.modify p fun r => { r with claimed := false } } }))
  ∧ (
  ∀ s : State,
    (s.ring.restartDispatched = true ↔ s.ring.restarting = true
      ∨ ∃ i rec, s.ring.flight = some ⟨i, .dispatched rec⟩ ∧ decodeDirective rec = .restart 0)
    ∧ ∀ (a i : Nat) (data : List Byte), s.notice.halted = false → s.recs.fetchInFlight = some a →
      s.ring.flight = some ⟨i, .fetch⟩ → data.length = 32 → decodeDirective data = .restart 0 →
      ∃ t, exec (.directiveFetchResponse .okay data) s = .next t ∧ t.ring.restartDispatched = true)
  ∧ (
  ∀ (p : Nat) (q : Request) (rest : List Request) (s : State), s.notice.halted = false →
    s.store.engine.state = .waiting p → s.store.queue = q :: rest →
    (s.store.engine.waitCount < s.store.waitLimit → exec .waitLimitTimeout s = .next s)
    ∧ (s.store.waitLimit ≤ s.store.engine.waitCount → ∃ u, exec .waitLimitTimeout s = .next u.nextRequest
        ∧ u.store = { s.store with
            catalog := s.store.catalog.modify p fun r => { r with wanted := false }
            queue := rest, outcome := .held }
        ∧ u.notice.isPending .snapFailed = true ∧ .record .status ∈ u.recs.waiting
        ∧ (u.slots.slot q.slot).copies = (s.slots.slot q.slot).copies - 1
        ∧ s.changesOnly [.store, .slots, .notice, .recs] u))
  ∧ (
  ∀ s : State,
    let st := s.store
    let t := s.nextRequest
    let free := fun p => p < st.catalog.length ∧ (st.recAt p).state = .free
    let copies := fun (p n : Nat) (q : Request) =>
      t.store.recAt p = ⟨.copying, n, q.lesson, q.page, q.frame, q.auto, q.kind, q.width, q.height, q.keep, q.view,
          false, false, false, false⟩
      ∧ (∀ j, j ≠ p → t.store.recAt j = st.recAt j) ∧ t.store.order = st.order.erase p ++ [p]
      ∧ t.store.nextSeq = (if n = 0xFFFFFFFF then none else some (n + 1)) ∧ t.store.queue = st.queue
      ∧ t.store.engine.chunk = 0
      ∧ (s.gov.state = .normal → t.store.engine.state = .copying p ∧ t.store.engine.waiting =
          (List.range 16).map (fun i => ⟨.read, s.slotAddr q.slot + i * 256, [], false⟩))
      ∧ (s.gov.state ≠ .normal → t.store.engine.state = .paused p ∧ t.store.engine.waiting = st.engine.waiting)
      ∧ .record (.catalog p) ∈ t.recs.waiting ∧ (p ∉ st.order → .record .status ∈ t.recs.waiting)
      ∧ s.changesOnly [.store, .recs] t
    (st.queue = [] → t = { s with store := { st with engine := { st.engine with state := .idle } } })
    ∧ (∀ p n q rest, st.queue = q :: rest → st.nextSeq = some n → free p → (∀ j, j < p → ¬free j) → copies p n q)
    ∧ (∀ p n q rest pre post, st.queue = q :: rest → st.nextSeq = some n → (∀ j, ¬free j) → st.keepAll = false →
        st.order = pre ++ p :: post → p < st.catalog.length → (∀ j ∈ pre, (st.recAt j).kept = true) →
        (st.recAt p).kept = false →
        ((st.recAt p).claimed = false ∧ (st.recAt p).recallA = false ∧ (st.recAt p).recallB = false → copies p n q)
        ∧ ((st.recAt p).claimed = true ∨ (st.recAt p).recallA = true ∨ (st.recAt p).recallB = true →
          t = { s with store := { st with
            catalog := st.catalog.modify p fun r => { r with wanted := true }
            engine := { st.engine with state := .waiting p, waitCount := 0 } } }))
    ∧ (st.queue ≠ [] → st.nextSeq = none
          ∨ ((∀ j, ¬free j) ∧ (st.keepAll = true ∨ ∀ j ∈ st.order, (st.recAt j).kept = true)) →
        t.store = { st with queue := [], outcome := .storeFull, engine := { st.engine with state := .idle } }
        ∧ t.notice.isPending .snapFailed = true ∧ .record .status ∈ t.recs.waiting
        ∧ (∀ k, (t.slots.slot k).copies =
            (s.slots.slot k).copies - (st.queue.filter fun r => decide (r.slot = k)).length)
        ∧ s.changesOnly [.store, .slots, .notice, .recs] t))

/-- R16, R24, R25, R31, R34, R134, R150, R156, R157, R158, R163, R170: the responses of a chunk. Each read's bytes enter the buffer; after the
last read the sixteen writes are raised with them; after the last write the chunk index advances and the next chunk's
reads are raised in NORMAL, or the engine pauses, or the copy completes; an ERROR makes the request fail when the
chunk's transactions are back, with the first failing address. The engine then takes the next request. A response of a
copy that RESTART abandoned is dropped, and the last that RESTART waits for answers it. A slot begins at the slot region
base and as many frame sizes as its index, an entry behind the header and the catalog rounded up to a page, and a frame
size is the frame's bytes rounded up to a page. The model's choices: logs 16, 24, 45. -/
def Obligations.ChunkResponsesDriveTheCopy : Prop :=
  (
  ∀ (p addr : Nat) (d : Dir) (x : ChunkTxn) (data : List Byte) (q : Request) (rest : List Request) (s : State),
    s.notice.halted = false → s.store.engine.state = .copying p → s.ring.restarting = false →
    s.store.engine.flight.find? (fun y => decide (y.dir = d ∧ y.addr = addr)) = some x → x.stale = false →
    s.store.queue = q :: rest → (d = .read → data.length = 256) →
    let c := fun r => match d with
      | .read => Instr.chunkReadResponse addr r data
      | .write => Instr.chunkWriteResponse addr r
    let e := s.store.engine
    let flight := e.flight.erase x
    let last := e.waiting = [] ∧ ∀ y ∈ flight, y.stale = true
    let next := e.chunk + 1
    let total := frameSize q.width q.height / 4096
    let ends := fun (u : State) => (u.slots.slot q.slot).copies = (s.slots.slot q.slot).copies - 1
      ∧ .record (.catalog p) ∈ u.recs.waiting ∧ .record .status ∈ u.recs.waiting
      ∧ s.changesOnly [.store, .slots, .notice, .recs] u
      ∧ (rest = [] → u.nextRequest = { u with store := { u.store with
          engine := { u.store.engine with state := .idle } } })
    (¬last → exec (c .okay) s = .next { s with store := { s.store with engine := { e with
          flight := flight
          buffer := if d = .read then e.buffer ++ [(addr % 4096, data)] else e.buffer } } }
        ∧ exec (c .error) s = .next { s with store := { s.store with engine := { e with
          flight := flight, failAddr := some (e.failAddr.getD addr) } } })
    ∧ (last → e.failAddr = none → d = .read → exec (c .okay) s = .next { s with store := { s.store with
        engine := { e with
          flight := flight, buffer := e.buffer ++ [(addr % 4096, data)], writing := true
          waiting := (List.range 16).map fun i => ⟨.write, s.entryAddr p + e.chunk * 4096 + i * 256,
            (((e.buffer ++ [(addr % 4096, data)]).find? fun b => decide (b.1 = i * 256)).map (·.2)).getD [],
            false⟩ } } })
    ∧ (last → e.failAddr = none → d = .write → next < total → ∃ t, exec (c .okay) s = .next t
        ∧ t.store = { s.store with engine := t.store.engine } ∧ t.store.engine.chunk = next
        ∧ (s.gov.state = .normal → t.store.engine.state = .copying p ∧ t.store.engine.buffer = []
            ∧ t.store.engine.waiting =
              (List.range 16).map fun i => ⟨.read, s.slotAddr q.slot + next * 4096 + i * 256, [], false⟩)
        ∧ (s.gov.state ≠ .normal → t.store.engine.state = .paused p ∧ t.store.engine.waiting = [])
        ∧ s.changesOnly [.store] t)
    ∧ (last → e.failAddr = none → d = .write → total ≤ next → ∃ u, exec (c .okay) s = .next u.nextRequest
        ∧ u.store = { s.store with
            catalog := s.store.catalog.modify p fun r => { r with state := .saved }
            queue := rest, outcome := .saved, engine := u.store.engine }
        ∧ u.notice.isPending .snapDone = true ∧ ends u)
    ∧ (∀ r, last → r = .error ∨ e.failAddr ≠ none → ∃ u, exec (c r) s = .next u.nextRequest
        ∧ u.store = { s.store with
            catalog := s.store.catalog.modify p fun _ => Rec.blank
            order := s.store.order.erase p, queue := rest, outcome := .io, engine := u.store.engine }
        ∧ u.notice.isPending .snapFailed = true ∧ u.notice.faults = s.notice.faults + 1
        ∧ .given (.fault s.notice.place) (faultRecord (s.notice.faults + 1)
            (if d = .read then .copyRead else .copyWrite) .store (e.failAddr.getD addr) q.frame (.entry p))
            ∈ u.recs.waiting
        ∧ ends u))
  ∧ (
  ∀ (addr : Nat) (d : Dir) (r : Resp) (data : List Byte) (s : State), s.notice.halted = false →
    (d = .read → data.length = 256) →
    let c := match d with
      | .read => Instr.chunkReadResponse addr r data
      | .write => Instr.chunkWriteResponse addr r
    let found := s.store.engine.flight.find? fun y => decide (y.dir = d ∧ y.addr = addr)
    (found = none → exec c s = .next s)
    ∧ ∀ x, found = some x → x.stale = true →
      let s' := { s with store := { s.store with engine := { s.store.engine with
        flight := s.store.engine.flight.erase x } } }
      let done := s.ring.restarting = true ∧ s.cap.tearing = false ∧ s.outA.leaving = false ∧ s.outB.leaving = false
        ∧ s.store.engine.flight = [x]
      (¬done → exec c s = .next s')
      ∧ (done → ∃ t, exec c s = .next t ∧ t.store = s'.store ∧ t.ring.restarting = false
          ∧ s.AnswersLater 26 .done t ∧ s.changesOnly [.store, .ring, .recs] t))
  ∧ (
  ∀ (e w h p k : Nat) (s : State),
    let page := fun (n : Nat) => if n % 4096 = 0 then n else (n / 4096 + 1) * 4096
    catalogEnd e = page (64 + 64 * e) ∧ frameSize w h = page (w * h * 3 / 2)
    ∧ (∀ g, s.store.geom = some g → s.entryAddr p = g.base + catalogEnd g.e + p * g.entrySize)
    ∧ ∀ g, s.slots.geom = some g → s.slotAddr k = g.base + k * g.frameSize)

/-! ### The whole part -/

/-- R16, R51, R83, R104, R132, R164, R172, R183: while HALTED no command but RESET_N changes any block but the Path
Unit, whose window of the control page, observations, class A turn and loss count stand too. -/
def Obligations.HaltedFreezesEverythingButTheForwardingPath : Prop :=
  ∀ (c : Instr) (s t : State), s.notice.halted = true → (∀ n, c ≠ .resetN n) → exec c s = .next t →
    s.changesOnly [.path] t ∧ t.notice.halted = true ∧ t.attn = true
    ∧ t.path.cpBase = s.path.cpBase ∧ t.path.handed = s.path.handed ∧ t.path.lastA = s.path.lastA
    ∧ t.path.lossCount = s.path.lossCount

/-- Every step keeps the invariants of Safety: the slots and the READY list (R33, R35), the counts' ranges (R14, R20,
R149, R165, R177, R181), the zooms (R117, R118, R190), the capture configuration and settings (R53, R56), the
forwarding queue's depth (R2), the monitor's inbox, the monitor OFF exactly while capture is STOPPED (R87) and the
hold list empty outside STANDBY (R98). The model's choices: log 10. -/
def Obligations.EveryStepKeepsTheInvariants : Prop :=
  ∀ s t : State, step s = .next t →
    (s.slots.Sound → t.slots.Sound)
    ∧ (s.CountsInRange → t.CountsInRange)
    ∧ (s.ZoomInRange → t.ZoomInRange)
    ∧ (s.cap.Legal → t.cap.Legal)
    ∧ (s.cap.Legal → s.path.QueueInRange → t.path.QueueInRange)
    ∧ (s.mon.InboxSound → t.mon.InboxSound)
    ∧ (s.MonitorFollowsCapture → t.MonitorFollowsCapture)
    ∧ (s.MonitorFollowsCapture → s.mon.HoldsOnlyInStandby → t.mon.HoldsOnlyInStandby)

/-- R17, R49, R81, R103, R130, R162, R184: the invariants hold at reset. The model's choices: logs 3, 4. -/
def Obligations.InvariantsHoldAtReset : Prop :=
  State.reset.slots.Sound ∧ State.reset.CountsInRange ∧ State.reset.ZoomInRange ∧ State.reset.cap.Legal
    ∧ State.reset.path.QueueInRange ∧ State.reset.mon.InboxSound ∧ State.reset.MonitorFollowsCapture
    ∧ State.reset.mon.HoldsOnlyInStandby ∧ State.reset.store.Sound ∧ State.reset.TagsSound

/-- R41, R42, R44, R141, R149, R150: every step keeps the catalog sound (the ordered catalog holds every record that
is not FREE, its sequences strictly increasing and below next sequence; at most one record is COPYING, the one the
copy engine serves; the engine is IDLE exactly while the queue is empty) and the tags sound (a slot's COPY count is
the number of queued requests for it, so the COPY tags of all slots are as many as the requests; tagged slots are
READY). While a RESTART waits the Directive Unit dispatches nothing, so no SNAPSHOT comes then. The model's
choices: logs 2, 11, 15. -/
def Obligations.EveryStepKeepsTheCatalogAndTheTags : Prop :=
  (
  ∀ s t : State, step s = .next t → s.store.Sound → t.store.Sound)
  ∧ (
  ∀ s t : State, step s = .next t → s.slots.Sound → s.store.Sound → s.TagsSound →
    (s.ring.restarting = true → ∀ source keep, s.pending.head? ≠ some (.snapshot source keep)) → t.TagsSound)
  ∧ (
  ∀ s : State, s.slots.Sound → s.TagsSound → (s.slots.slots.map (·.copies)).sum = s.store.queue.length)
end

