-- ==== Sys2Proof/Laws/State.lean ====
section
/-! SUPPORT. One lemma per block per update of State, true by rfl. -/

namespace Sys2Proof.Machine

section
variable (f : PathUnit → PathUnit) (s : State)
@[simp] theorem State.onPath_path : (s.onPath f).path = f s.path := rfl
@[simp] theorem State.onPath_recs : (s.onPath f).recs = s.recs := rfl
@[simp] theorem State.onPath_ring : (s.onPath f).ring = s.ring := rfl
@[simp] theorem State.onPath_slots : (s.onPath f).slots = s.slots := rfl
@[simp] theorem State.onPath_cap : (s.onPath f).cap = s.cap := rfl
@[simp] theorem State.onPath_mon : (s.onPath f).mon = s.mon := rfl
@[simp] theorem State.onPath_outA : (s.onPath f).outA = s.outA := rfl
@[simp] theorem State.onPath_outB : (s.onPath f).outB = s.outB := rfl
@[simp] theorem State.onPath_store : (s.onPath f).store = s.store := rfl
@[simp] theorem State.onPath_gov : (s.onPath f).gov = s.gov := rfl
@[simp] theorem State.onPath_notice : (s.onPath f).notice = s.notice := rfl
@[simp] theorem State.onPath_pending : (s.onPath f).pending = s.pending := rfl
end

section
variable (f : RecordWriter → RecordWriter) (s : State)
@[simp] theorem State.onRecs_path : (s.onRecs f).path = s.path := rfl
@[simp] theorem State.onRecs_recs : (s.onRecs f).recs = f s.recs := rfl
@[simp] theorem State.onRecs_ring : (s.onRecs f).ring = s.ring := rfl
@[simp] theorem State.onRecs_slots : (s.onRecs f).slots = s.slots := rfl
@[simp] theorem State.onRecs_cap : (s.onRecs f).cap = s.cap := rfl
@[simp] theorem State.onRecs_mon : (s.onRecs f).mon = s.mon := rfl
@[simp] theorem State.onRecs_outA : (s.onRecs f).outA = s.outA := rfl
@[simp] theorem State.onRecs_outB : (s.onRecs f).outB = s.outB := rfl
@[simp] theorem State.onRecs_store : (s.onRecs f).store = s.store := rfl
@[simp] theorem State.onRecs_gov : (s.onRecs f).gov = s.gov := rfl
@[simp] theorem State.onRecs_notice : (s.onRecs f).notice = s.notice := rfl
@[simp] theorem State.onRecs_pending : (s.onRecs f).pending = s.pending := rfl
end

section
variable (f : Ring → Ring) (s : State)
@[simp] theorem State.onRing_path : (s.onRing f).path = s.path := rfl
@[simp] theorem State.onRing_recs : (s.onRing f).recs = s.recs := rfl
@[simp] theorem State.onRing_ring : (s.onRing f).ring = f s.ring := rfl
@[simp] theorem State.onRing_slots : (s.onRing f).slots = s.slots := rfl
@[simp] theorem State.onRing_cap : (s.onRing f).cap = s.cap := rfl
@[simp] theorem State.onRing_mon : (s.onRing f).mon = s.mon := rfl
@[simp] theorem State.onRing_outA : (s.onRing f).outA = s.outA := rfl
@[simp] theorem State.onRing_outB : (s.onRing f).outB = s.outB := rfl
@[simp] theorem State.onRing_store : (s.onRing f).store = s.store := rfl
@[simp] theorem State.onRing_gov : (s.onRing f).gov = s.gov := rfl
@[simp] theorem State.onRing_notice : (s.onRing f).notice = s.notice := rfl
@[simp] theorem State.onRing_pending : (s.onRing f).pending = s.pending := rfl
end

section
variable (f : SlotTable → SlotTable) (s : State)
@[simp] theorem State.onSlots_path : (s.onSlots f).path = s.path := rfl
@[simp] theorem State.onSlots_recs : (s.onSlots f).recs = s.recs := rfl
@[simp] theorem State.onSlots_ring : (s.onSlots f).ring = s.ring := rfl
@[simp] theorem State.onSlots_slots : (s.onSlots f).slots = f s.slots := rfl
@[simp] theorem State.onSlots_cap : (s.onSlots f).cap = s.cap := rfl
@[simp] theorem State.onSlots_mon : (s.onSlots f).mon = s.mon := rfl
@[simp] theorem State.onSlots_outA : (s.onSlots f).outA = s.outA := rfl
@[simp] theorem State.onSlots_outB : (s.onSlots f).outB = s.outB := rfl
@[simp] theorem State.onSlots_store : (s.onSlots f).store = s.store := rfl
@[simp] theorem State.onSlots_gov : (s.onSlots f).gov = s.gov := rfl
@[simp] theorem State.onSlots_notice : (s.onSlots f).notice = s.notice := rfl
@[simp] theorem State.onSlots_pending : (s.onSlots f).pending = s.pending := rfl
end

section
variable (f : Capture → Capture) (s : State)
@[simp] theorem State.onCap_path : (s.onCap f).path = s.path := rfl
@[simp] theorem State.onCap_recs : (s.onCap f).recs = s.recs := rfl
@[simp] theorem State.onCap_ring : (s.onCap f).ring = s.ring := rfl
@[simp] theorem State.onCap_slots : (s.onCap f).slots = s.slots := rfl
@[simp] theorem State.onCap_cap : (s.onCap f).cap = f s.cap := rfl
@[simp] theorem State.onCap_mon : (s.onCap f).mon = s.mon := rfl
@[simp] theorem State.onCap_outA : (s.onCap f).outA = s.outA := rfl
@[simp] theorem State.onCap_outB : (s.onCap f).outB = s.outB := rfl
@[simp] theorem State.onCap_store : (s.onCap f).store = s.store := rfl
@[simp] theorem State.onCap_gov : (s.onCap f).gov = s.gov := rfl
@[simp] theorem State.onCap_notice : (s.onCap f).notice = s.notice := rfl
@[simp] theorem State.onCap_pending : (s.onCap f).pending = s.pending := rfl
end

section
variable (f : Monitor → Monitor) (s : State)
@[simp] theorem State.onMon_path : (s.onMon f).path = s.path := rfl
@[simp] theorem State.onMon_recs : (s.onMon f).recs = s.recs := rfl
@[simp] theorem State.onMon_ring : (s.onMon f).ring = s.ring := rfl
@[simp] theorem State.onMon_slots : (s.onMon f).slots = s.slots := rfl
@[simp] theorem State.onMon_cap : (s.onMon f).cap = s.cap := rfl
@[simp] theorem State.onMon_mon : (s.onMon f).mon = f s.mon := rfl
@[simp] theorem State.onMon_outA : (s.onMon f).outA = s.outA := rfl
@[simp] theorem State.onMon_outB : (s.onMon f).outB = s.outB := rfl
@[simp] theorem State.onMon_store : (s.onMon f).store = s.store := rfl
@[simp] theorem State.onMon_gov : (s.onMon f).gov = s.gov := rfl
@[simp] theorem State.onMon_notice : (s.onMon f).notice = s.notice := rfl
@[simp] theorem State.onMon_pending : (s.onMon f).pending = s.pending := rfl
end

section
variable (f : Engine → Engine) (s : State)
@[simp] theorem State.onOutA_path : (s.onOutA f).path = s.path := rfl
@[simp] theorem State.onOutA_recs : (s.onOutA f).recs = s.recs := rfl
@[simp] theorem State.onOutA_ring : (s.onOutA f).ring = s.ring := rfl
@[simp] theorem State.onOutA_slots : (s.onOutA f).slots = s.slots := rfl
@[simp] theorem State.onOutA_cap : (s.onOutA f).cap = s.cap := rfl
@[simp] theorem State.onOutA_mon : (s.onOutA f).mon = s.mon := rfl
@[simp] theorem State.onOutA_outA : (s.onOutA f).outA = f s.outA := rfl
@[simp] theorem State.onOutA_outB : (s.onOutA f).outB = s.outB := rfl
@[simp] theorem State.onOutA_store : (s.onOutA f).store = s.store := rfl
@[simp] theorem State.onOutA_gov : (s.onOutA f).gov = s.gov := rfl
@[simp] theorem State.onOutA_notice : (s.onOutA f).notice = s.notice := rfl
@[simp] theorem State.onOutA_pending : (s.onOutA f).pending = s.pending := rfl
end

section
variable (f : Engine → Engine) (s : State)
@[simp] theorem State.onOutB_path : (s.onOutB f).path = s.path := rfl
@[simp] theorem State.onOutB_recs : (s.onOutB f).recs = s.recs := rfl
@[simp] theorem State.onOutB_ring : (s.onOutB f).ring = s.ring := rfl
@[simp] theorem State.onOutB_slots : (s.onOutB f).slots = s.slots := rfl
@[simp] theorem State.onOutB_cap : (s.onOutB f).cap = s.cap := rfl
@[simp] theorem State.onOutB_mon : (s.onOutB f).mon = s.mon := rfl
@[simp] theorem State.onOutB_outA : (s.onOutB f).outA = s.outA := rfl
@[simp] theorem State.onOutB_outB : (s.onOutB f).outB = f s.outB := rfl
@[simp] theorem State.onOutB_store : (s.onOutB f).store = s.store := rfl
@[simp] theorem State.onOutB_gov : (s.onOutB f).gov = s.gov := rfl
@[simp] theorem State.onOutB_notice : (s.onOutB f).notice = s.notice := rfl
@[simp] theorem State.onOutB_pending : (s.onOutB f).pending = s.pending := rfl
end

section
variable (f : Store → Store) (s : State)
@[simp] theorem State.onStore_path : (s.onStore f).path = s.path := rfl
@[simp] theorem State.onStore_recs : (s.onStore f).recs = s.recs := rfl
@[simp] theorem State.onStore_ring : (s.onStore f).ring = s.ring := rfl
@[simp] theorem State.onStore_slots : (s.onStore f).slots = s.slots := rfl
@[simp] theorem State.onStore_cap : (s.onStore f).cap = s.cap := rfl
@[simp] theorem State.onStore_mon : (s.onStore f).mon = s.mon := rfl
@[simp] theorem State.onStore_outA : (s.onStore f).outA = s.outA := rfl
@[simp] theorem State.onStore_outB : (s.onStore f).outB = s.outB := rfl
@[simp] theorem State.onStore_store : (s.onStore f).store = f s.store := rfl
@[simp] theorem State.onStore_gov : (s.onStore f).gov = s.gov := rfl
@[simp] theorem State.onStore_notice : (s.onStore f).notice = s.notice := rfl
@[simp] theorem State.onStore_pending : (s.onStore f).pending = s.pending := rfl
end

section
variable (f : Governor → Governor) (s : State)
@[simp] theorem State.onGov_path : (s.onGov f).path = s.path := rfl
@[simp] theorem State.onGov_recs : (s.onGov f).recs = s.recs := rfl
@[simp] theorem State.onGov_ring : (s.onGov f).ring = s.ring := rfl
@[simp] theorem State.onGov_slots : (s.onGov f).slots = s.slots := rfl
@[simp] theorem State.onGov_cap : (s.onGov f).cap = s.cap := rfl
@[simp] theorem State.onGov_mon : (s.onGov f).mon = s.mon := rfl
@[simp] theorem State.onGov_outA : (s.onGov f).outA = s.outA := rfl
@[simp] theorem State.onGov_outB : (s.onGov f).outB = s.outB := rfl
@[simp] theorem State.onGov_store : (s.onGov f).store = s.store := rfl
@[simp] theorem State.onGov_gov : (s.onGov f).gov = f s.gov := rfl
@[simp] theorem State.onGov_notice : (s.onGov f).notice = s.notice := rfl
@[simp] theorem State.onGov_pending : (s.onGov f).pending = s.pending := rfl
end

section
variable (f : NoticeUnit → NoticeUnit) (s : State)
@[simp] theorem State.onNotice_path : (s.onNotice f).path = s.path := rfl
@[simp] theorem State.onNotice_recs : (s.onNotice f).recs = s.recs := rfl
@[simp] theorem State.onNotice_ring : (s.onNotice f).ring = s.ring := rfl
@[simp] theorem State.onNotice_slots : (s.onNotice f).slots = s.slots := rfl
@[simp] theorem State.onNotice_cap : (s.onNotice f).cap = s.cap := rfl
@[simp] theorem State.onNotice_mon : (s.onNotice f).mon = s.mon := rfl
@[simp] theorem State.onNotice_outA : (s.onNotice f).outA = s.outA := rfl
@[simp] theorem State.onNotice_outB : (s.onNotice f).outB = s.outB := rfl
@[simp] theorem State.onNotice_store : (s.onNotice f).store = s.store := rfl
@[simp] theorem State.onNotice_gov : (s.onNotice f).gov = s.gov := rfl
@[simp] theorem State.onNotice_notice : (s.onNotice f).notice = f s.notice := rfl
@[simp] theorem State.onNotice_pending : (s.onNotice f).pending = s.pending := rfl
end

section
variable (x : OutId) (f : Engine → Engine) (s : State)
@[simp] theorem State.onOut_path : (s.onOut x f).path = s.path := by cases x <;> rfl
@[simp] theorem State.onOut_recs : (s.onOut x f).recs = s.recs := by cases x <;> rfl
@[simp] theorem State.onOut_ring : (s.onOut x f).ring = s.ring := by cases x <;> rfl
@[simp] theorem State.onOut_slots : (s.onOut x f).slots = s.slots := by cases x <;> rfl
@[simp] theorem State.onOut_cap : (s.onOut x f).cap = s.cap := by cases x <;> rfl
@[simp] theorem State.onOut_mon : (s.onOut x f).mon = s.mon := by cases x <;> rfl
theorem State.onOut_outA : (s.onOut x f).outA = if x = .a then f s.outA else s.outA := by cases x <;> rfl
theorem State.onOut_outB : (s.onOut x f).outB = if x = .b then f s.outB else s.outB := by cases x <;> rfl
@[simp] theorem State.onOut_store : (s.onOut x f).store = s.store := by cases x <;> rfl
@[simp] theorem State.onOut_gov : (s.onOut x f).gov = s.gov := by cases x <;> rfl
@[simp] theorem State.onOut_notice : (s.onOut x f).notice = s.notice := by cases x <;> rfl
@[simp] theorem State.onOut_pending : (s.onOut x f).pending = s.pending := by cases x <;> rfl
@[simp] theorem State.onOut_out : (s.onOut x f).out x = f (s.out x) := by cases x <;> rfl
theorem State.onOut_out_ne (y : OutId) (h : y ≠ x) : (s.onOut x f).out y = s.out y := by
  cases x <;> cases y <;> first | rfl | exact absurd rfl h
@[simp] theorem State.out_a : s.out .a = s.outA := rfl
@[simp] theorem State.out_b : s.out .b = s.outB := rfl
@[simp] theorem State.onOut_a : s.onOut .a f = s.onOutA f := rfl
@[simp] theorem State.onOut_b : s.onOut .b f = s.onOutB f := rfl
end

end Sys2Proof.Machine
end

