-- ==== Sys2Proof/Laws/FramesOps.lean ====
section
/-! SUPPORT. Frames of the shared operations: the blocks each operation leaves as they are. -/

namespace Sys2Proof.Machine

@[simp] theorem State.request_path (t : Target) (s : State) : (State.request t s).path = s.path := by
  simp [State.request]
@[simp] theorem State.request_ring (t : Target) (s : State) : (State.request t s).ring = s.ring := by
  simp [State.request]
@[simp] theorem State.request_slots (t : Target) (s : State) : (State.request t s).slots = s.slots := by
  simp [State.request]
@[simp] theorem State.request_cap (t : Target) (s : State) : (State.request t s).cap = s.cap := by
  simp [State.request]
@[simp] theorem State.request_mon (t : Target) (s : State) : (State.request t s).mon = s.mon := by
  simp [State.request]
@[simp] theorem State.request_outA (t : Target) (s : State) : (State.request t s).outA = s.outA := by
  simp [State.request]
@[simp] theorem State.request_outB (t : Target) (s : State) : (State.request t s).outB = s.outB := by
  simp [State.request]
@[simp] theorem State.request_store (t : Target) (s : State) : (State.request t s).store = s.store := by
  simp [State.request]
@[simp] theorem State.request_gov (t : Target) (s : State) : (State.request t s).gov = s.gov := by
  simp [State.request]
@[simp] theorem State.request_notice (t : Target) (s : State) : (State.request t s).notice = s.notice := by
  simp [State.request]
@[simp] theorem State.request_pending (t : Target) (s : State) : (State.request t s).pending = s.pending := by
  simp [State.request]
@[simp] theorem State.requestStatus_path (s : State) : (State.requestStatus s).path = s.path := by
  simp [State.requestStatus]
@[simp] theorem State.requestStatus_ring (s : State) : (State.requestStatus s).ring = s.ring := by
  simp [State.requestStatus]
@[simp] theorem State.requestStatus_slots (s : State) : (State.requestStatus s).slots = s.slots := by
  simp [State.requestStatus]
@[simp] theorem State.requestStatus_cap (s : State) : (State.requestStatus s).cap = s.cap := by
  simp [State.requestStatus]
@[simp] theorem State.requestStatus_mon (s : State) : (State.requestStatus s).mon = s.mon := by
  simp [State.requestStatus]
@[simp] theorem State.requestStatus_outA (s : State) : (State.requestStatus s).outA = s.outA := by
  simp [State.requestStatus]
@[simp] theorem State.requestStatus_outB (s : State) : (State.requestStatus s).outB = s.outB := by
  simp [State.requestStatus]
@[simp] theorem State.requestStatus_store (s : State) : (State.requestStatus s).store = s.store := by
  simp [State.requestStatus]
@[simp] theorem State.requestStatus_gov (s : State) : (State.requestStatus s).gov = s.gov := by
  simp [State.requestStatus]
@[simp] theorem State.requestStatus_notice (s : State) : (State.requestStatus s).notice = s.notice := by
  simp [State.requestStatus]
@[simp] theorem State.requestStatus_pending (s : State) : (State.requestStatus s).pending = s.pending := by
  simp [State.requestStatus]
@[simp] theorem State.raise_path (k : EventKind) (s : State) : (State.raise k s).path = s.path := by
  unfold State.raise
  (repeat' first | split | dsimp only)
  all_goals simp
@[simp] theorem State.raise_ring (k : EventKind) (s : State) : (State.raise k s).ring = s.ring := by
  unfold State.raise
  (repeat' first | split | dsimp only)
  all_goals simp
@[simp] theorem State.raise_slots (k : EventKind) (s : State) : (State.raise k s).slots = s.slots := by
  unfold State.raise
  (repeat' first | split | dsimp only)
  all_goals simp
@[simp] theorem State.raise_cap (k : EventKind) (s : State) : (State.raise k s).cap = s.cap := by
  unfold State.raise
  (repeat' first | split | dsimp only)
  all_goals simp
@[simp] theorem State.raise_mon (k : EventKind) (s : State) : (State.raise k s).mon = s.mon := by
  unfold State.raise
  (repeat' first | split | dsimp only)
  all_goals simp
@[simp] theorem State.raise_outA (k : EventKind) (s : State) : (State.raise k s).outA = s.outA := by
  unfold State.raise
  (repeat' first | split | dsimp only)
  all_goals simp
@[simp] theorem State.raise_outB (k : EventKind) (s : State) : (State.raise k s).outB = s.outB := by
  unfold State.raise
  (repeat' first | split | dsimp only)
  all_goals simp
@[simp] theorem State.raise_store (k : EventKind) (s : State) : (State.raise k s).store = s.store := by
  unfold State.raise
  (repeat' first | split | dsimp only)
  all_goals simp
@[simp] theorem State.raise_gov (k : EventKind) (s : State) : (State.raise k s).gov = s.gov := by
  unfold State.raise
  (repeat' first | split | dsimp only)
  all_goals simp
@[simp] theorem State.raise_pending (k : EventKind) (s : State) : (State.raise k s).pending = s.pending := by
  unfold State.raise
  (repeat' first | split | dsimp only)
  all_goals simp
@[simp] theorem State.logFault_path (k : FaultKind) (b : BlockId) (addr : Nat) (frame : Count) (pos : FaultPos) (s : State) : (State.logFault k b addr frame pos s).path = s.path := by
  simp [State.logFault]
@[simp] theorem State.logFault_ring (k : FaultKind) (b : BlockId) (addr : Nat) (frame : Count) (pos : FaultPos) (s : State) : (State.logFault k b addr frame pos s).ring = s.ring := by
  simp [State.logFault]
@[simp] theorem State.logFault_slots (k : FaultKind) (b : BlockId) (addr : Nat) (frame : Count) (pos : FaultPos) (s : State) : (State.logFault k b addr frame pos s).slots = s.slots := by
  simp [State.logFault]
@[simp] theorem State.logFault_cap (k : FaultKind) (b : BlockId) (addr : Nat) (frame : Count) (pos : FaultPos) (s : State) : (State.logFault k b addr frame pos s).cap = s.cap := by
  simp [State.logFault]
@[simp] theorem State.logFault_mon (k : FaultKind) (b : BlockId) (addr : Nat) (frame : Count) (pos : FaultPos) (s : State) : (State.logFault k b addr frame pos s).mon = s.mon := by
  simp [State.logFault]
@[simp] theorem State.logFault_outA (k : FaultKind) (b : BlockId) (addr : Nat) (frame : Count) (pos : FaultPos) (s : State) : (State.logFault k b addr frame pos s).outA = s.outA := by
  simp [State.logFault]
@[simp] theorem State.logFault_outB (k : FaultKind) (b : BlockId) (addr : Nat) (frame : Count) (pos : FaultPos) (s : State) : (State.logFault k b addr frame pos s).outB = s.outB := by
  simp [State.logFault]
@[simp] theorem State.logFault_store (k : FaultKind) (b : BlockId) (addr : Nat) (frame : Count) (pos : FaultPos) (s : State) : (State.logFault k b addr frame pos s).store = s.store := by
  simp [State.logFault]
@[simp] theorem State.logFault_gov (k : FaultKind) (b : BlockId) (addr : Nat) (frame : Count) (pos : FaultPos) (s : State) : (State.logFault k b addr frame pos s).gov = s.gov := by
  simp [State.logFault]
@[simp] theorem State.logFault_pending (k : FaultKind) (b : BlockId) (addr : Nat) (frame : Count) (pos : FaultPos) (s : State) : (State.logFault k b addr frame pos s).pending = s.pending := by
  simp [State.logFault]
@[simp] theorem State.respond_recs (r : UpResponse) (s : State) : (State.respond r s).recs = s.recs := by
  simp [State.respond]
@[simp] theorem State.respond_ring (r : UpResponse) (s : State) : (State.respond r s).ring = s.ring := by
  simp [State.respond]
@[simp] theorem State.respond_slots (r : UpResponse) (s : State) : (State.respond r s).slots = s.slots := by
  simp [State.respond]
@[simp] theorem State.respond_cap (r : UpResponse) (s : State) : (State.respond r s).cap = s.cap := by
  simp [State.respond]
@[simp] theorem State.respond_mon (r : UpResponse) (s : State) : (State.respond r s).mon = s.mon := by
  simp [State.respond]
@[simp] theorem State.respond_outA (r : UpResponse) (s : State) : (State.respond r s).outA = s.outA := by
  simp [State.respond]
@[simp] theorem State.respond_outB (r : UpResponse) (s : State) : (State.respond r s).outB = s.outB := by
  simp [State.respond]
@[simp] theorem State.respond_store (r : UpResponse) (s : State) : (State.respond r s).store = s.store := by
  simp [State.respond]
@[simp] theorem State.respond_gov (r : UpResponse) (s : State) : (State.respond r s).gov = s.gov := by
  simp [State.respond]
@[simp] theorem State.respond_notice (r : UpResponse) (s : State) : (State.respond r s).notice = s.notice := by
  simp [State.respond]
@[simp] theorem State.respond_pending (r : UpResponse) (s : State) : (State.respond r s).pending = s.pending := by
  simp [State.respond]
@[simp] theorem State.answerRecord_path (i : Nat) (rec : List Byte) (st : Status) (s : State) : (State.answerRecord i rec st s).path = s.path := by
  simp [State.answerRecord]
@[simp] theorem State.answerRecord_slots (i : Nat) (rec : List Byte) (st : Status) (s : State) : (State.answerRecord i rec st s).slots = s.slots := by
  simp [State.answerRecord]
@[simp] theorem State.answerRecord_cap (i : Nat) (rec : List Byte) (st : Status) (s : State) : (State.answerRecord i rec st s).cap = s.cap := by
  simp [State.answerRecord]
@[simp] theorem State.answerRecord_mon (i : Nat) (rec : List Byte) (st : Status) (s : State) : (State.answerRecord i rec st s).mon = s.mon := by
  simp [State.answerRecord]
@[simp] theorem State.answerRecord_outA (i : Nat) (rec : List Byte) (st : Status) (s : State) : (State.answerRecord i rec st s).outA = s.outA := by
  simp [State.answerRecord]
@[simp] theorem State.answerRecord_outB (i : Nat) (rec : List Byte) (st : Status) (s : State) : (State.answerRecord i rec st s).outB = s.outB := by
  simp [State.answerRecord]
@[simp] theorem State.answerRecord_store (i : Nat) (rec : List Byte) (st : Status) (s : State) : (State.answerRecord i rec st s).store = s.store := by
  simp [State.answerRecord]
@[simp] theorem State.answerRecord_gov (i : Nat) (rec : List Byte) (st : Status) (s : State) : (State.answerRecord i rec st s).gov = s.gov := by
  simp [State.answerRecord]
@[simp] theorem State.answerRecord_notice (i : Nat) (rec : List Byte) (st : Status) (s : State) : (State.answerRecord i rec st s).notice = s.notice := by
  simp [State.answerRecord]
@[simp] theorem State.answerRecord_pending (i : Nat) (rec : List Byte) (st : Status) (s : State) : (State.answerRecord i rec st s).pending = s.pending := by
  simp [State.answerRecord]
@[simp] theorem State.answer_path (c : Instr) (st : Status) (s : State) : (State.answer c st s).path = s.path := by
  unfold State.answer
  (repeat' first | split | dsimp only)
  all_goals simp
@[simp] theorem State.answer_slots (c : Instr) (st : Status) (s : State) : (State.answer c st s).slots = s.slots := by
  unfold State.answer
  (repeat' first | split | dsimp only)
  all_goals simp
@[simp] theorem State.answer_cap (c : Instr) (st : Status) (s : State) : (State.answer c st s).cap = s.cap := by
  unfold State.answer
  (repeat' first | split | dsimp only)
  all_goals simp
@[simp] theorem State.answer_mon (c : Instr) (st : Status) (s : State) : (State.answer c st s).mon = s.mon := by
  unfold State.answer
  (repeat' first | split | dsimp only)
  all_goals simp
@[simp] theorem State.answer_outA (c : Instr) (st : Status) (s : State) : (State.answer c st s).outA = s.outA := by
  unfold State.answer
  (repeat' first | split | dsimp only)
  all_goals simp
@[simp] theorem State.answer_outB (c : Instr) (st : Status) (s : State) : (State.answer c st s).outB = s.outB := by
  unfold State.answer
  (repeat' first | split | dsimp only)
  all_goals simp
@[simp] theorem State.answer_store (c : Instr) (st : Status) (s : State) : (State.answer c st s).store = s.store := by
  unfold State.answer
  (repeat' first | split | dsimp only)
  all_goals simp
@[simp] theorem State.answer_gov (c : Instr) (st : Status) (s : State) : (State.answer c st s).gov = s.gov := by
  unfold State.answer
  (repeat' first | split | dsimp only)
  all_goals simp
@[simp] theorem State.answer_notice (c : Instr) (st : Status) (s : State) : (State.answer c st s).notice = s.notice := by
  unfold State.answer
  (repeat' first | split | dsimp only)
  all_goals simp
@[simp] theorem State.answer_pending (c : Instr) (st : Status) (s : State) : (State.answer c st s).pending = s.pending := by
  unfold State.answer
  (repeat' first | split | dsimp only)
  all_goals simp
@[simp] theorem State.accept_path (c : Instr) (s : State) : (State.accept c s).path = s.path := by
  unfold State.accept
  (repeat' first | split | dsimp only)
  all_goals simp
@[simp] theorem State.accept_recs (c : Instr) (s : State) : (State.accept c s).recs = s.recs := by
  unfold State.accept
  (repeat' first | split | dsimp only)
  all_goals simp
@[simp] theorem State.accept_slots (c : Instr) (s : State) : (State.accept c s).slots = s.slots := by
  unfold State.accept
  (repeat' first | split | dsimp only)
  all_goals simp
@[simp] theorem State.accept_cap (c : Instr) (s : State) : (State.accept c s).cap = s.cap := by
  unfold State.accept
  (repeat' first | split | dsimp only)
  all_goals simp
@[simp] theorem State.accept_mon (c : Instr) (s : State) : (State.accept c s).mon = s.mon := by
  unfold State.accept
  (repeat' first | split | dsimp only)
  all_goals simp
@[simp] theorem State.accept_outA (c : Instr) (s : State) : (State.accept c s).outA = s.outA := by
  unfold State.accept
  (repeat' first | split | dsimp only)
  all_goals simp
@[simp] theorem State.accept_outB (c : Instr) (s : State) : (State.accept c s).outB = s.outB := by
  unfold State.accept
  (repeat' first | split | dsimp only)
  all_goals simp
@[simp] theorem State.accept_store (c : Instr) (s : State) : (State.accept c s).store = s.store := by
  unfold State.accept
  (repeat' first | split | dsimp only)
  all_goals simp
@[simp] theorem State.accept_gov (c : Instr) (s : State) : (State.accept c s).gov = s.gov := by
  unfold State.accept
  (repeat' first | split | dsimp only)
  all_goals simp
@[simp] theorem State.accept_notice (c : Instr) (s : State) : (State.accept c s).notice = s.notice := by
  unfold State.accept
  (repeat' first | split | dsimp only)
  all_goals simp
@[simp] theorem State.accept_pending (c : Instr) (s : State) : (State.accept c s).pending = s.pending := by
  unfold State.accept
  (repeat' first | split | dsimp only)
  all_goals simp
@[simp] theorem State.answerAccepted_path (ty : Nat) (st : Status) (s : State) : (State.answerAccepted ty st s).path = s.path := by
  unfold State.answerAccepted
  (repeat' first | split | dsimp only)
  all_goals simp
@[simp] theorem State.answerAccepted_slots (ty : Nat) (st : Status) (s : State) : (State.answerAccepted ty st s).slots = s.slots := by
  unfold State.answerAccepted
  (repeat' first | split | dsimp only)
  all_goals simp
@[simp] theorem State.answerAccepted_cap (ty : Nat) (st : Status) (s : State) : (State.answerAccepted ty st s).cap = s.cap := by
  unfold State.answerAccepted
  (repeat' first | split | dsimp only)
  all_goals simp
@[simp] theorem State.answerAccepted_mon (ty : Nat) (st : Status) (s : State) : (State.answerAccepted ty st s).mon = s.mon := by
  unfold State.answerAccepted
  (repeat' first | split | dsimp only)
  all_goals simp
@[simp] theorem State.answerAccepted_outA (ty : Nat) (st : Status) (s : State) : (State.answerAccepted ty st s).outA = s.outA := by
  unfold State.answerAccepted
  (repeat' first | split | dsimp only)
  all_goals simp
@[simp] theorem State.answerAccepted_outB (ty : Nat) (st : Status) (s : State) : (State.answerAccepted ty st s).outB = s.outB := by
  unfold State.answerAccepted
  (repeat' first | split | dsimp only)
  all_goals simp
@[simp] theorem State.answerAccepted_store (ty : Nat) (st : Status) (s : State) : (State.answerAccepted ty st s).store = s.store := by
  unfold State.answerAccepted
  (repeat' first | split | dsimp only)
  all_goals simp
@[simp] theorem State.answerAccepted_gov (ty : Nat) (st : Status) (s : State) : (State.answerAccepted ty st s).gov = s.gov := by
  unfold State.answerAccepted
  (repeat' first | split | dsimp only)
  all_goals simp
@[simp] theorem State.answerAccepted_notice (ty : Nat) (st : Status) (s : State) : (State.answerAccepted ty st s).notice = s.notice := by
  unfold State.answerAccepted
  (repeat' first | split | dsimp only)
  all_goals simp
@[simp] theorem State.answerAccepted_pending (ty : Nat) (st : Status) (s : State) : (State.answerAccepted ty st s).pending = s.pending := by
  unfold State.answerAccepted
  (repeat' first | split | dsimp only)
  all_goals simp
@[simp] theorem State.enterHalted_ring (s : State) : (State.enterHalted s).ring = s.ring := by
  simp [State.enterHalted]
@[simp] theorem State.enterHalted_slots (s : State) : (State.enterHalted s).slots = s.slots := by
  simp [State.enterHalted]
@[simp] theorem State.enterHalted_mon (s : State) : (State.enterHalted s).mon = s.mon := by
  simp [State.enterHalted]
@[simp] theorem State.enterHalted_gov (s : State) : (State.enterHalted s).gov = s.gov := by
  simp [State.enterHalted]
@[simp] theorem State.enterHalted_pending (s : State) : (State.enterHalted s).pending = s.pending := by
  simp [State.enterHalted]

end Sys2Proof.Machine
end

