-- ==== Sys2Proof/Laws/FramesBlocks.lean ====
section
/-! SUPPORT. Frames of the Page Monitor, the copy engine and the governor: the blocks each operation leaves as they are. -/

namespace Sys2Proof.Machine

@[simp] theorem State.writeSignature_path (sig : Signature) (a : Against) (s : State) : (State.writeSignature sig a s).path = s.path := by
  simp [State.writeSignature]
@[simp] theorem State.writeSignature_ring (sig : Signature) (a : Against) (s : State) : (State.writeSignature sig a s).ring = s.ring := by
  simp [State.writeSignature]
@[simp] theorem State.writeSignature_slots (sig : Signature) (a : Against) (s : State) : (State.writeSignature sig a s).slots = s.slots := by
  simp [State.writeSignature]
@[simp] theorem State.writeSignature_cap (sig : Signature) (a : Against) (s : State) : (State.writeSignature sig a s).cap = s.cap := by
  simp [State.writeSignature]
@[simp] theorem State.writeSignature_mon (sig : Signature) (a : Against) (s : State) : (State.writeSignature sig a s).mon = s.mon := by
  simp [State.writeSignature]
@[simp] theorem State.writeSignature_outA (sig : Signature) (a : Against) (s : State) : (State.writeSignature sig a s).outA = s.outA := by
  simp [State.writeSignature]
@[simp] theorem State.writeSignature_outB (sig : Signature) (a : Against) (s : State) : (State.writeSignature sig a s).outB = s.outB := by
  simp [State.writeSignature]
@[simp] theorem State.writeSignature_store (sig : Signature) (a : Against) (s : State) : (State.writeSignature sig a s).store = s.store := by
  simp [State.writeSignature]
@[simp] theorem State.writeSignature_gov (sig : Signature) (a : Against) (s : State) : (State.writeSignature sig a s).gov = s.gov := by
  simp [State.writeSignature]
@[simp] theorem State.writeSignature_notice (sig : Signature) (a : Against) (s : State) : (State.writeSignature sig a s).notice = s.notice := by
  simp [State.writeSignature]
@[simp] theorem State.writeSignature_pending (sig : Signature) (a : Against) (s : State) : (State.writeSignature sig a s).pending = s.pending := by
  simp [State.writeSignature]
@[simp] theorem State.holdOutput_path (x : OutId) (s : State) : (State.holdOutput x s).path = s.path := by
  unfold State.holdOutput
  (repeat' first | split | dsimp only)
  all_goals simp
@[simp] theorem State.holdOutput_recs (x : OutId) (s : State) : (State.holdOutput x s).recs = s.recs := by
  unfold State.holdOutput
  (repeat' first | split | dsimp only)
  all_goals simp
@[simp] theorem State.holdOutput_ring (x : OutId) (s : State) : (State.holdOutput x s).ring = s.ring := by
  unfold State.holdOutput
  (repeat' first | split | dsimp only)
  all_goals simp
@[simp] theorem State.holdOutput_cap (x : OutId) (s : State) : (State.holdOutput x s).cap = s.cap := by
  unfold State.holdOutput
  (repeat' first | split | dsimp only)
  all_goals simp
@[simp] theorem State.holdOutput_store (x : OutId) (s : State) : (State.holdOutput x s).store = s.store := by
  unfold State.holdOutput
  (repeat' first | split | dsimp only)
  all_goals simp
@[simp] theorem State.holdOutput_gov (x : OutId) (s : State) : (State.holdOutput x s).gov = s.gov := by
  unfold State.holdOutput
  (repeat' first | split | dsimp only)
  all_goals simp
@[simp] theorem State.holdOutput_notice (x : OutId) (s : State) : (State.holdOutput x s).notice = s.notice := by
  unfold State.holdOutput
  (repeat' first | split | dsimp only)
  all_goals simp
@[simp] theorem State.holdOutput_pending (x : OutId) (s : State) : (State.holdOutput x s).pending = s.pending := by
  unfold State.holdOutput
  (repeat' first | split | dsimp only)
  all_goals simp
@[simp] theorem State.unholdOutput_path (x : OutId) (s : State) : (State.unholdOutput x s).path = s.path := by
  unfold State.unholdOutput
  (repeat' first | split | dsimp only)
  all_goals simp
@[simp] theorem State.unholdOutput_recs (x : OutId) (s : State) : (State.unholdOutput x s).recs = s.recs := by
  unfold State.unholdOutput
  (repeat' first | split | dsimp only)
  all_goals simp
@[simp] theorem State.unholdOutput_ring (x : OutId) (s : State) : (State.unholdOutput x s).ring = s.ring := by
  unfold State.unholdOutput
  (repeat' first | split | dsimp only)
  all_goals simp
@[simp] theorem State.unholdOutput_cap (x : OutId) (s : State) : (State.unholdOutput x s).cap = s.cap := by
  unfold State.unholdOutput
  (repeat' first | split | dsimp only)
  all_goals simp
@[simp] theorem State.unholdOutput_store (x : OutId) (s : State) : (State.unholdOutput x s).store = s.store := by
  unfold State.unholdOutput
  (repeat' first | split | dsimp only)
  all_goals simp
@[simp] theorem State.unholdOutput_gov (x : OutId) (s : State) : (State.unholdOutput x s).gov = s.gov := by
  unfold State.unholdOutput
  (repeat' first | split | dsimp only)
  all_goals simp
@[simp] theorem State.unholdOutput_notice (x : OutId) (s : State) : (State.unholdOutput x s).notice = s.notice := by
  unfold State.unholdOutput
  (repeat' first | split | dsimp only)
  all_goals simp
@[simp] theorem State.unholdOutput_pending (x : OutId) (s : State) : (State.unholdOutput x s).pending = s.pending := by
  unfold State.unholdOutput
  (repeat' first | split | dsimp only)
  all_goals simp
@[simp] theorem State.unholdAll_path (s : State) : (State.unholdAll s).path = s.path := by
  simp [State.unholdAll]
@[simp] theorem State.unholdAll_recs (s : State) : (State.unholdAll s).recs = s.recs := by
  simp [State.unholdAll]
@[simp] theorem State.unholdAll_ring (s : State) : (State.unholdAll s).ring = s.ring := by
  simp [State.unholdAll]
@[simp] theorem State.unholdAll_cap (s : State) : (State.unholdAll s).cap = s.cap := by
  simp [State.unholdAll]
@[simp] theorem State.unholdAll_store (s : State) : (State.unholdAll s).store = s.store := by
  simp [State.unholdAll]
@[simp] theorem State.unholdAll_gov (s : State) : (State.unholdAll s).gov = s.gov := by
  simp [State.unholdAll]
@[simp] theorem State.unholdAll_notice (s : State) : (State.unholdAll s).notice = s.notice := by
  simp [State.unholdAll]
@[simp] theorem State.unholdAll_pending (s : State) : (State.unholdAll s).pending = s.pending := by
  simp [State.unholdAll]
@[simp] theorem State.wakeActive_path (s : State) : (State.wakeActive s).path = s.path := by
  simp [State.wakeActive]
@[simp] theorem State.wakeActive_ring (s : State) : (State.wakeActive s).ring = s.ring := by
  simp [State.wakeActive]
@[simp] theorem State.wakeActive_cap (s : State) : (State.wakeActive s).cap = s.cap := by
  simp [State.wakeActive]
@[simp] theorem State.wakeActive_store (s : State) : (State.wakeActive s).store = s.store := by
  simp [State.wakeActive]
@[simp] theorem State.wakeActive_gov (s : State) : (State.wakeActive s).gov = s.gov := by
  simp [State.wakeActive]
@[simp] theorem State.wakeActive_pending (s : State) : (State.wakeActive s).pending = s.pending := by
  simp [State.wakeActive]
@[simp] theorem State.touch_path (s : State) : (State.touch s).path = s.path := by
  unfold State.touch
  (repeat' first | split | dsimp only)
  all_goals simp
@[simp] theorem State.touch_ring (s : State) : (State.touch s).ring = s.ring := by
  unfold State.touch
  (repeat' first | split | dsimp only)
  all_goals simp
@[simp] theorem State.touch_cap (s : State) : (State.touch s).cap = s.cap := by
  unfold State.touch
  (repeat' first | split | dsimp only)
  all_goals simp
@[simp] theorem State.touch_store (s : State) : (State.touch s).store = s.store := by
  unfold State.touch
  (repeat' first | split | dsimp only)
  all_goals simp
@[simp] theorem State.touch_gov (s : State) : (State.touch s).gov = s.gov := by
  unfold State.touch
  (repeat' first | split | dsimp only)
  all_goals simp
@[simp] theorem State.touch_pending (s : State) : (State.touch s).pending = s.pending := by
  unfold State.touch
  (repeat' first | split | dsimp only)
  all_goals simp
@[simp] theorem State.requestAuto_path (sig : Signature) (s : State) : (State.requestAuto sig s).path = s.path := by
  simp [State.requestAuto]
@[simp] theorem State.requestAuto_recs (sig : Signature) (s : State) : (State.requestAuto sig s).recs = s.recs := by
  simp [State.requestAuto]
@[simp] theorem State.requestAuto_ring (sig : Signature) (s : State) : (State.requestAuto sig s).ring = s.ring := by
  simp [State.requestAuto]
@[simp] theorem State.requestAuto_slots (sig : Signature) (s : State) : (State.requestAuto sig s).slots = s.slots := by
  simp [State.requestAuto]
@[simp] theorem State.requestAuto_cap (sig : Signature) (s : State) : (State.requestAuto sig s).cap = s.cap := by
  simp [State.requestAuto]
@[simp] theorem State.requestAuto_outA (sig : Signature) (s : State) : (State.requestAuto sig s).outA = s.outA := by
  simp [State.requestAuto]
@[simp] theorem State.requestAuto_outB (sig : Signature) (s : State) : (State.requestAuto sig s).outB = s.outB := by
  simp [State.requestAuto]
@[simp] theorem State.requestAuto_store (sig : Signature) (s : State) : (State.requestAuto sig s).store = s.store := by
  simp [State.requestAuto]
@[simp] theorem State.requestAuto_gov (sig : Signature) (s : State) : (State.requestAuto sig s).gov = s.gov := by
  simp [State.requestAuto]
@[simp] theorem State.requestAuto_notice (sig : Signature) (s : State) : (State.requestAuto sig s).notice = s.notice := by
  simp [State.requestAuto]
@[simp] theorem State.requestAuto_pending (sig : Signature) (s : State) : (State.requestAuto sig s).pending = s.pending := by
  simp [State.requestAuto]
@[simp] theorem State.autoTest_path (sig : Signature) (s : State) : (State.autoTest sig s).path = s.path := by
  unfold State.autoTest
  (repeat' first | split | dsimp only)
  all_goals simp
@[simp] theorem State.autoTest_ring (sig : Signature) (s : State) : (State.autoTest sig s).ring = s.ring := by
  unfold State.autoTest
  (repeat' first | split | dsimp only)
  all_goals simp
@[simp] theorem State.autoTest_slots (sig : Signature) (s : State) : (State.autoTest sig s).slots = s.slots := by
  unfold State.autoTest
  (repeat' first | split | dsimp only)
  all_goals simp
@[simp] theorem State.autoTest_cap (sig : Signature) (s : State) : (State.autoTest sig s).cap = s.cap := by
  unfold State.autoTest
  (repeat' first | split | dsimp only)
  all_goals simp
@[simp] theorem State.autoTest_outA (sig : Signature) (s : State) : (State.autoTest sig s).outA = s.outA := by
  unfold State.autoTest
  (repeat' first | split | dsimp only)
  all_goals simp
@[simp] theorem State.autoTest_outB (sig : Signature) (s : State) : (State.autoTest sig s).outB = s.outB := by
  unfold State.autoTest
  (repeat' first | split | dsimp only)
  all_goals simp
@[simp] theorem State.autoTest_store (sig : Signature) (s : State) : (State.autoTest sig s).store = s.store := by
  unfold State.autoTest
  (repeat' first | split | dsimp only)
  all_goals simp
@[simp] theorem State.autoTest_gov (sig : Signature) (s : State) : (State.autoTest sig s).gov = s.gov := by
  unfold State.autoTest
  (repeat' first | split | dsimp only)
  all_goals simp
@[simp] theorem State.autoTest_notice (sig : Signature) (s : State) : (State.autoTest sig s).notice = s.notice := by
  unfold State.autoTest
  (repeat' first | split | dsimp only)
  all_goals simp
@[simp] theorem State.autoTest_pending (sig : Signature) (s : State) : (State.autoTest sig s).pending = s.pending := by
  unfold State.autoTest
  (repeat' first | split | dsimp only)
  all_goals simp
@[simp] theorem State.motionFrame_path (sig : Signature) (s : State) : (State.motionFrame sig s).path = s.path := by
  unfold State.motionFrame
  (repeat' first | split | dsimp only)
  all_goals simp
@[simp] theorem State.motionFrame_ring (sig : Signature) (s : State) : (State.motionFrame sig s).ring = s.ring := by
  unfold State.motionFrame
  (repeat' first | split | dsimp only)
  all_goals simp
@[simp] theorem State.motionFrame_slots (sig : Signature) (s : State) : (State.motionFrame sig s).slots = s.slots := by
  unfold State.motionFrame
  (repeat' first | split | dsimp only)
  all_goals simp
@[simp] theorem State.motionFrame_cap (sig : Signature) (s : State) : (State.motionFrame sig s).cap = s.cap := by
  unfold State.motionFrame
  (repeat' first | split | dsimp only)
  all_goals simp
@[simp] theorem State.motionFrame_outA (sig : Signature) (s : State) : (State.motionFrame sig s).outA = s.outA := by
  unfold State.motionFrame
  (repeat' first | split | dsimp only)
  all_goals simp
@[simp] theorem State.motionFrame_outB (sig : Signature) (s : State) : (State.motionFrame sig s).outB = s.outB := by
  unfold State.motionFrame
  (repeat' first | split | dsimp only)
  all_goals simp
@[simp] theorem State.motionFrame_store (sig : Signature) (s : State) : (State.motionFrame sig s).store = s.store := by
  unfold State.motionFrame
  (repeat' first | split | dsimp only)
  all_goals simp
@[simp] theorem State.motionFrame_gov (sig : Signature) (s : State) : (State.motionFrame sig s).gov = s.gov := by
  unfold State.motionFrame
  (repeat' first | split | dsimp only)
  all_goals simp
@[simp] theorem State.motionFrame_pending (sig : Signature) (s : State) : (State.motionFrame sig s).pending = s.pending := by
  unfold State.motionFrame
  (repeat' first | split | dsimp only)
  all_goals simp
@[simp] theorem State.enterStandby_path (s : State) : (State.enterStandby s).path = s.path := by
  simp [State.enterStandby]
@[simp] theorem State.enterStandby_ring (s : State) : (State.enterStandby s).ring = s.ring := by
  simp [State.enterStandby]
@[simp] theorem State.enterStandby_cap (s : State) : (State.enterStandby s).cap = s.cap := by
  simp [State.enterStandby]
@[simp] theorem State.enterStandby_store (s : State) : (State.enterStandby s).store = s.store := by
  simp [State.enterStandby]
@[simp] theorem State.enterStandby_gov (s : State) : (State.enterStandby s).gov = s.gov := by
  simp [State.enterStandby]
@[simp] theorem State.enterStandby_pending (s : State) : (State.enterStandby s).pending = s.pending := by
  simp [State.enterStandby]
@[simp] theorem State.activeFrame_path (sig : Signature) (s : State) : (State.activeFrame sig s).path = s.path := by
  unfold State.activeFrame
  (repeat' first | split | dsimp only)
  all_goals simp
@[simp] theorem State.activeFrame_ring (sig : Signature) (s : State) : (State.activeFrame sig s).ring = s.ring := by
  unfold State.activeFrame
  (repeat' first | split | dsimp only)
  all_goals simp
@[simp] theorem State.activeFrame_cap (sig : Signature) (s : State) : (State.activeFrame sig s).cap = s.cap := by
  unfold State.activeFrame
  (repeat' first | split | dsimp only)
  all_goals simp
@[simp] theorem State.activeFrame_store (sig : Signature) (s : State) : (State.activeFrame sig s).store = s.store := by
  unfold State.activeFrame
  (repeat' first | split | dsimp only)
  all_goals simp
@[simp] theorem State.activeFrame_gov (sig : Signature) (s : State) : (State.activeFrame sig s).gov = s.gov := by
  unfold State.activeFrame
  (repeat' first | split | dsimp only)
  all_goals simp
@[simp] theorem State.activeFrame_pending (sig : Signature) (s : State) : (State.activeFrame sig s).pending = s.pending := by
  unfold State.activeFrame
  (repeat' first | split | dsimp only)
  all_goals simp
@[simp] theorem State.wakeMotion_path (sig : Signature) (s : State) : (State.wakeMotion sig s).path = s.path := by
  simp [State.wakeMotion]
@[simp] theorem State.wakeMotion_ring (sig : Signature) (s : State) : (State.wakeMotion sig s).ring = s.ring := by
  simp [State.wakeMotion]
@[simp] theorem State.wakeMotion_cap (sig : Signature) (s : State) : (State.wakeMotion sig s).cap = s.cap := by
  simp [State.wakeMotion]
@[simp] theorem State.wakeMotion_store (sig : Signature) (s : State) : (State.wakeMotion sig s).store = s.store := by
  simp [State.wakeMotion]
@[simp] theorem State.wakeMotion_gov (sig : Signature) (s : State) : (State.wakeMotion sig s).gov = s.gov := by
  simp [State.wakeMotion]
@[simp] theorem State.wakeMotion_pending (sig : Signature) (s : State) : (State.wakeMotion sig s).pending = s.pending := by
  simp [State.wakeMotion]
@[simp] theorem State.standbyFrame_path (sig : Signature) (s : State) : (State.standbyFrame sig s).path = s.path := by
  unfold State.standbyFrame
  (repeat' first | split | dsimp only)
  all_goals simp
@[simp] theorem State.standbyFrame_ring (sig : Signature) (s : State) : (State.standbyFrame sig s).ring = s.ring := by
  unfold State.standbyFrame
  (repeat' first | split | dsimp only)
  all_goals simp
@[simp] theorem State.standbyFrame_cap (sig : Signature) (s : State) : (State.standbyFrame sig s).cap = s.cap := by
  unfold State.standbyFrame
  (repeat' first | split | dsimp only)
  all_goals simp
@[simp] theorem State.standbyFrame_store (sig : Signature) (s : State) : (State.standbyFrame sig s).store = s.store := by
  unfold State.standbyFrame
  (repeat' first | split | dsimp only)
  all_goals simp
@[simp] theorem State.standbyFrame_gov (sig : Signature) (s : State) : (State.standbyFrame sig s).gov = s.gov := by
  unfold State.standbyFrame
  (repeat' first | split | dsimp only)
  all_goals simp
@[simp] theorem State.standbyFrame_pending (sig : Signature) (s : State) : (State.standbyFrame sig s).pending = s.pending := by
  unfold State.standbyFrame
  (repeat' first | split | dsimp only)
  all_goals simp
@[simp] theorem State.receiveSignature_path (sig : Signature) (s : State) : (State.receiveSignature sig s).path = s.path := by
  unfold State.receiveSignature
  (repeat' first | split | dsimp only)
  all_goals simp
@[simp] theorem State.receiveSignature_ring (sig : Signature) (s : State) : (State.receiveSignature sig s).ring = s.ring := by
  unfold State.receiveSignature
  (repeat' first | split | dsimp only)
  all_goals simp
@[simp] theorem State.receiveSignature_cap (sig : Signature) (s : State) : (State.receiveSignature sig s).cap = s.cap := by
  unfold State.receiveSignature
  (repeat' first | split | dsimp only)
  all_goals simp
@[simp] theorem State.receiveSignature_store (sig : Signature) (s : State) : (State.receiveSignature sig s).store = s.store := by
  unfold State.receiveSignature
  (repeat' first | split | dsimp only)
  all_goals simp
@[simp] theorem State.receiveSignature_gov (sig : Signature) (s : State) : (State.receiveSignature sig s).gov = s.gov := by
  unfold State.receiveSignature
  (repeat' first | split | dsimp only)
  all_goals simp
@[simp] theorem State.receiveSignature_pending (sig : Signature) (s : State) : (State.receiveSignature sig s).pending = s.pending := by
  unfold State.receiveSignature
  (repeat' first | split | dsimp only)
  all_goals simp
@[simp] theorem State.monitorStart_path (s : State) : (State.monitorStart s).path = s.path := by
  simp [State.monitorStart]
@[simp] theorem State.monitorStart_ring (s : State) : (State.monitorStart s).ring = s.ring := by
  simp [State.monitorStart]
@[simp] theorem State.monitorStart_slots (s : State) : (State.monitorStart s).slots = s.slots := by
  simp [State.monitorStart]
@[simp] theorem State.monitorStart_cap (s : State) : (State.monitorStart s).cap = s.cap := by
  simp [State.monitorStart]
@[simp] theorem State.monitorStart_outA (s : State) : (State.monitorStart s).outA = s.outA := by
  simp [State.monitorStart]
@[simp] theorem State.monitorStart_outB (s : State) : (State.monitorStart s).outB = s.outB := by
  simp [State.monitorStart]
@[simp] theorem State.monitorStart_store (s : State) : (State.monitorStart s).store = s.store := by
  simp [State.monitorStart]
@[simp] theorem State.monitorStart_gov (s : State) : (State.monitorStart s).gov = s.gov := by
  simp [State.monitorStart]
@[simp] theorem State.monitorStart_notice (s : State) : (State.monitorStart s).notice = s.notice := by
  simp [State.monitorStart]
@[simp] theorem State.monitorStart_pending (s : State) : (State.monitorStart s).pending = s.pending := by
  simp [State.monitorStart]
@[simp] theorem State.monitorStop_path (s : State) : (State.monitorStop s).path = s.path := by
  unfold State.monitorStop
  (repeat' first | split | dsimp only)
  all_goals simp
@[simp] theorem State.monitorStop_ring (s : State) : (State.monitorStop s).ring = s.ring := by
  unfold State.monitorStop
  (repeat' first | split | dsimp only)
  all_goals simp
@[simp] theorem State.monitorStop_cap (s : State) : (State.monitorStop s).cap = s.cap := by
  unfold State.monitorStop
  (repeat' first | split | dsimp only)
  all_goals simp
@[simp] theorem State.monitorStop_store (s : State) : (State.monitorStop s).store = s.store := by
  unfold State.monitorStop
  (repeat' first | split | dsimp only)
  all_goals simp
@[simp] theorem State.monitorStop_gov (s : State) : (State.monitorStop s).gov = s.gov := by
  unfold State.monitorStop
  (repeat' first | split | dsimp only)
  all_goals simp
@[simp] theorem State.monitorStop_notice (s : State) : (State.monitorStop s).notice = s.notice := by
  unfold State.monitorStop
  (repeat' first | split | dsimp only)
  all_goals simp
@[simp] theorem State.monitorStop_pending (s : State) : (State.monitorStop s).pending = s.pending := by
  unfold State.monitorStop
  (repeat' first | split | dsimp only)
  all_goals simp
@[simp] theorem State.monitorRestart_path (s : State) : (State.monitorRestart s).path = s.path := by
  unfold State.monitorRestart
  (repeat' first | split | dsimp only)
  all_goals simp
@[simp] theorem State.monitorRestart_ring (s : State) : (State.monitorRestart s).ring = s.ring := by
  unfold State.monitorRestart
  (repeat' first | split | dsimp only)
  all_goals simp
@[simp] theorem State.monitorRestart_slots (s : State) : (State.monitorRestart s).slots = s.slots := by
  unfold State.monitorRestart
  (repeat' first | split | dsimp only)
  all_goals simp
@[simp] theorem State.monitorRestart_cap (s : State) : (State.monitorRestart s).cap = s.cap := by
  unfold State.monitorRestart
  (repeat' first | split | dsimp only)
  all_goals simp
@[simp] theorem State.monitorRestart_outA (s : State) : (State.monitorRestart s).outA = s.outA := by
  unfold State.monitorRestart
  (repeat' first | split | dsimp only)
  all_goals simp
@[simp] theorem State.monitorRestart_outB (s : State) : (State.monitorRestart s).outB = s.outB := by
  unfold State.monitorRestart
  (repeat' first | split | dsimp only)
  all_goals simp
@[simp] theorem State.monitorRestart_store (s : State) : (State.monitorRestart s).store = s.store := by
  unfold State.monitorRestart
  (repeat' first | split | dsimp only)
  all_goals simp
@[simp] theorem State.monitorRestart_gov (s : State) : (State.monitorRestart s).gov = s.gov := by
  unfold State.monitorRestart
  (repeat' first | split | dsimp only)
  all_goals simp
@[simp] theorem State.monitorRestart_notice (s : State) : (State.monitorRestart s).notice = s.notice := by
  unfold State.monitorRestart
  (repeat' first | split | dsimp only)
  all_goals simp
@[simp] theorem State.monitorRestart_pending (s : State) : (State.monitorRestart s).pending = s.pending := by
  unfold State.monitorRestart
  (repeat' first | split | dsimp only)
  all_goals simp
@[simp] theorem State.tellMonitor_path (n : MonNotice) (s : State) : (State.tellMonitor n s).path = s.path := by
  simp [State.tellMonitor]
@[simp] theorem State.tellMonitor_recs (n : MonNotice) (s : State) : (State.tellMonitor n s).recs = s.recs := by
  simp [State.tellMonitor]
@[simp] theorem State.tellMonitor_ring (n : MonNotice) (s : State) : (State.tellMonitor n s).ring = s.ring := by
  simp [State.tellMonitor]
@[simp] theorem State.tellMonitor_slots (n : MonNotice) (s : State) : (State.tellMonitor n s).slots = s.slots := by
  simp [State.tellMonitor]
@[simp] theorem State.tellMonitor_cap (n : MonNotice) (s : State) : (State.tellMonitor n s).cap = s.cap := by
  simp [State.tellMonitor]
@[simp] theorem State.tellMonitor_outA (n : MonNotice) (s : State) : (State.tellMonitor n s).outA = s.outA := by
  simp [State.tellMonitor]
@[simp] theorem State.tellMonitor_outB (n : MonNotice) (s : State) : (State.tellMonitor n s).outB = s.outB := by
  simp [State.tellMonitor]
@[simp] theorem State.tellMonitor_store (n : MonNotice) (s : State) : (State.tellMonitor n s).store = s.store := by
  simp [State.tellMonitor]
@[simp] theorem State.tellMonitor_gov (n : MonNotice) (s : State) : (State.tellMonitor n s).gov = s.gov := by
  simp [State.tellMonitor]
@[simp] theorem State.tellMonitor_notice (n : MonNotice) (s : State) : (State.tellMonitor n s).notice = s.notice := by
  simp [State.tellMonitor]
@[simp] theorem State.tellMonitor_pending (n : MonNotice) (s : State) : (State.tellMonitor n s).pending = s.pending := by
  simp [State.tellMonitor]
@[simp] theorem State.takeMonitorSettings_path (n : MonSettings) (s : State) : (State.takeMonitorSettings n s).path = s.path := by
  unfold State.takeMonitorSettings
  (repeat' first | split | dsimp only)
  all_goals simp
@[simp] theorem State.takeMonitorSettings_ring (n : MonSettings) (s : State) : (State.takeMonitorSettings n s).ring = s.ring := by
  unfold State.takeMonitorSettings
  (repeat' first | split | dsimp only)
  all_goals simp
@[simp] theorem State.takeMonitorSettings_cap (n : MonSettings) (s : State) : (State.takeMonitorSettings n s).cap = s.cap := by
  unfold State.takeMonitorSettings
  (repeat' first | split | dsimp only)
  all_goals simp
@[simp] theorem State.takeMonitorSettings_store (n : MonSettings) (s : State) : (State.takeMonitorSettings n s).store = s.store := by
  unfold State.takeMonitorSettings
  (repeat' first | split | dsimp only)
  all_goals simp
@[simp] theorem State.takeMonitorSettings_gov (n : MonSettings) (s : State) : (State.takeMonitorSettings n s).gov = s.gov := by
  unfold State.takeMonitorSettings
  (repeat' first | split | dsimp only)
  all_goals simp
@[simp] theorem State.takeMonitorSettings_pending (n : MonSettings) (s : State) : (State.takeMonitorSettings n s).pending = s.pending := by
  unfold State.takeMonitorSettings
  (repeat' first | split | dsimp only)
  all_goals simp
@[simp] theorem State.raiseChunk_path (p : Nat) (s : State) : (State.raiseChunk p s).path = s.path := by
  unfold State.raiseChunk
  (repeat' first | split | dsimp only)
  all_goals simp
@[simp] theorem State.raiseChunk_recs (p : Nat) (s : State) : (State.raiseChunk p s).recs = s.recs := by
  unfold State.raiseChunk
  (repeat' first | split | dsimp only)
  all_goals simp
@[simp] theorem State.raiseChunk_ring (p : Nat) (s : State) : (State.raiseChunk p s).ring = s.ring := by
  unfold State.raiseChunk
  (repeat' first | split | dsimp only)
  all_goals simp
@[simp] theorem State.raiseChunk_slots (p : Nat) (s : State) : (State.raiseChunk p s).slots = s.slots := by
  unfold State.raiseChunk
  (repeat' first | split | dsimp only)
  all_goals simp
@[simp] theorem State.raiseChunk_cap (p : Nat) (s : State) : (State.raiseChunk p s).cap = s.cap := by
  unfold State.raiseChunk
  (repeat' first | split | dsimp only)
  all_goals simp
@[simp] theorem State.raiseChunk_mon (p : Nat) (s : State) : (State.raiseChunk p s).mon = s.mon := by
  unfold State.raiseChunk
  (repeat' first | split | dsimp only)
  all_goals simp
@[simp] theorem State.raiseChunk_outA (p : Nat) (s : State) : (State.raiseChunk p s).outA = s.outA := by
  unfold State.raiseChunk
  (repeat' first | split | dsimp only)
  all_goals simp
@[simp] theorem State.raiseChunk_outB (p : Nat) (s : State) : (State.raiseChunk p s).outB = s.outB := by
  unfold State.raiseChunk
  (repeat' first | split | dsimp only)
  all_goals simp
@[simp] theorem State.raiseChunk_gov (p : Nat) (s : State) : (State.raiseChunk p s).gov = s.gov := by
  unfold State.raiseChunk
  (repeat' first | split | dsimp only)
  all_goals simp
@[simp] theorem State.raiseChunk_notice (p : Nat) (s : State) : (State.raiseChunk p s).notice = s.notice := by
  unfold State.raiseChunk
  (repeat' first | split | dsimp only)
  all_goals simp
@[simp] theorem State.raiseChunk_pending (p : Nat) (s : State) : (State.raiseChunk p s).pending = s.pending := by
  unfold State.raiseChunk
  (repeat' first | split | dsimp only)
  all_goals simp
@[simp] theorem State.raiseOrPause_path (p : Nat) (s : State) : (State.raiseOrPause p s).path = s.path := by
  unfold State.raiseOrPause
  (repeat' first | split | dsimp only)
  all_goals simp
@[simp] theorem State.raiseOrPause_recs (p : Nat) (s : State) : (State.raiseOrPause p s).recs = s.recs := by
  unfold State.raiseOrPause
  (repeat' first | split | dsimp only)
  all_goals simp
@[simp] theorem State.raiseOrPause_ring (p : Nat) (s : State) : (State.raiseOrPause p s).ring = s.ring := by
  unfold State.raiseOrPause
  (repeat' first | split | dsimp only)
  all_goals simp
@[simp] theorem State.raiseOrPause_slots (p : Nat) (s : State) : (State.raiseOrPause p s).slots = s.slots := by
  unfold State.raiseOrPause
  (repeat' first | split | dsimp only)
  all_goals simp
@[simp] theorem State.raiseOrPause_cap (p : Nat) (s : State) : (State.raiseOrPause p s).cap = s.cap := by
  unfold State.raiseOrPause
  (repeat' first | split | dsimp only)
  all_goals simp
@[simp] theorem State.raiseOrPause_mon (p : Nat) (s : State) : (State.raiseOrPause p s).mon = s.mon := by
  unfold State.raiseOrPause
  (repeat' first | split | dsimp only)
  all_goals simp
@[simp] theorem State.raiseOrPause_outA (p : Nat) (s : State) : (State.raiseOrPause p s).outA = s.outA := by
  unfold State.raiseOrPause
  (repeat' first | split | dsimp only)
  all_goals simp
@[simp] theorem State.raiseOrPause_outB (p : Nat) (s : State) : (State.raiseOrPause p s).outB = s.outB := by
  unfold State.raiseOrPause
  (repeat' first | split | dsimp only)
  all_goals simp
@[simp] theorem State.raiseOrPause_gov (p : Nat) (s : State) : (State.raiseOrPause p s).gov = s.gov := by
  unfold State.raiseOrPause
  (repeat' first | split | dsimp only)
  all_goals simp
@[simp] theorem State.raiseOrPause_notice (p : Nat) (s : State) : (State.raiseOrPause p s).notice = s.notice := by
  unfold State.raiseOrPause
  (repeat' first | split | dsimp only)
  all_goals simp
@[simp] theorem State.raiseOrPause_pending (p : Nat) (s : State) : (State.raiseOrPause p s).pending = s.pending := by
  unfold State.raiseOrPause
  (repeat' first | split | dsimp only)
  all_goals simp
@[simp] theorem State.copyResume_path (s : State) : (State.copyResume s).path = s.path := by
  unfold State.copyResume
  (repeat' first | split | dsimp only)
  all_goals simp
@[simp] theorem State.copyResume_recs (s : State) : (State.copyResume s).recs = s.recs := by
  unfold State.copyResume
  (repeat' first | split | dsimp only)
  all_goals simp
@[simp] theorem State.copyResume_ring (s : State) : (State.copyResume s).ring = s.ring := by
  unfold State.copyResume
  (repeat' first | split | dsimp only)
  all_goals simp
@[simp] theorem State.copyResume_slots (s : State) : (State.copyResume s).slots = s.slots := by
  unfold State.copyResume
  (repeat' first | split | dsimp only)
  all_goals simp
@[simp] theorem State.copyResume_cap (s : State) : (State.copyResume s).cap = s.cap := by
  unfold State.copyResume
  (repeat' first | split | dsimp only)
  all_goals simp
@[simp] theorem State.copyResume_mon (s : State) : (State.copyResume s).mon = s.mon := by
  unfold State.copyResume
  (repeat' first | split | dsimp only)
  all_goals simp
@[simp] theorem State.copyResume_outA (s : State) : (State.copyResume s).outA = s.outA := by
  unfold State.copyResume
  (repeat' first | split | dsimp only)
  all_goals simp
@[simp] theorem State.copyResume_outB (s : State) : (State.copyResume s).outB = s.outB := by
  unfold State.copyResume
  (repeat' first | split | dsimp only)
  all_goals simp
@[simp] theorem State.copyResume_gov (s : State) : (State.copyResume s).gov = s.gov := by
  unfold State.copyResume
  (repeat' first | split | dsimp only)
  all_goals simp
@[simp] theorem State.copyResume_notice (s : State) : (State.copyResume s).notice = s.notice := by
  unfold State.copyResume
  (repeat' first | split | dsimp only)
  all_goals simp
@[simp] theorem State.copyResume_pending (s : State) : (State.copyResume s).pending = s.pending := by
  unfold State.copyResume
  (repeat' first | split | dsimp only)
  all_goals simp
@[simp] theorem State.startCopy_path (p : Nat) (s : State) : (State.startCopy p s).path = s.path := by
  unfold State.startCopy
  (repeat' first | split | dsimp only)
  all_goals simp
@[simp] theorem State.startCopy_ring (p : Nat) (s : State) : (State.startCopy p s).ring = s.ring := by
  unfold State.startCopy
  (repeat' first | split | dsimp only)
  all_goals simp
@[simp] theorem State.startCopy_slots (p : Nat) (s : State) : (State.startCopy p s).slots = s.slots := by
  unfold State.startCopy
  (repeat' first | split | dsimp only)
  all_goals simp
@[simp] theorem State.startCopy_cap (p : Nat) (s : State) : (State.startCopy p s).cap = s.cap := by
  unfold State.startCopy
  (repeat' first | split | dsimp only)
  all_goals simp
@[simp] theorem State.startCopy_mon (p : Nat) (s : State) : (State.startCopy p s).mon = s.mon := by
  unfold State.startCopy
  (repeat' first | split | dsimp only)
  all_goals simp
@[simp] theorem State.startCopy_outA (p : Nat) (s : State) : (State.startCopy p s).outA = s.outA := by
  unfold State.startCopy
  (repeat' first | split | dsimp only)
  all_goals simp
@[simp] theorem State.startCopy_outB (p : Nat) (s : State) : (State.startCopy p s).outB = s.outB := by
  unfold State.startCopy
  (repeat' first | split | dsimp only)
  all_goals simp
@[simp] theorem State.startCopy_gov (p : Nat) (s : State) : (State.startCopy p s).gov = s.gov := by
  unfold State.startCopy
  (repeat' first | split | dsimp only)
  all_goals simp
@[simp] theorem State.startCopy_notice (p : Nat) (s : State) : (State.startCopy p s).notice = s.notice := by
  unfold State.startCopy
  (repeat' first | split | dsimp only)
  all_goals simp
@[simp] theorem State.startCopy_pending (p : Nat) (s : State) : (State.startCopy p s).pending = s.pending := by
  unfold State.startCopy
  (repeat' first | split | dsimp only)
  all_goals simp
@[simp] theorem State.popHead_path (o : Outcome) (k : EventKind) (s : State) : (State.popHead o k s).path = s.path := by
  unfold State.popHead
  (repeat' first | split | dsimp only)
  all_goals simp
@[simp] theorem State.popHead_ring (o : Outcome) (k : EventKind) (s : State) : (State.popHead o k s).ring = s.ring := by
  unfold State.popHead
  (repeat' first | split | dsimp only)
  all_goals simp
@[simp] theorem State.popHead_cap (o : Outcome) (k : EventKind) (s : State) : (State.popHead o k s).cap = s.cap := by
  unfold State.popHead
  (repeat' first | split | dsimp only)
  all_goals simp
@[simp] theorem State.popHead_mon (o : Outcome) (k : EventKind) (s : State) : (State.popHead o k s).mon = s.mon := by
  unfold State.popHead
  (repeat' first | split | dsimp only)
  all_goals simp
@[simp] theorem State.popHead_outA (o : Outcome) (k : EventKind) (s : State) : (State.popHead o k s).outA = s.outA := by
  unfold State.popHead
  (repeat' first | split | dsimp only)
  all_goals simp
@[simp] theorem State.popHead_outB (o : Outcome) (k : EventKind) (s : State) : (State.popHead o k s).outB = s.outB := by
  unfold State.popHead
  (repeat' first | split | dsimp only)
  all_goals simp
@[simp] theorem State.popHead_gov (o : Outcome) (k : EventKind) (s : State) : (State.popHead o k s).gov = s.gov := by
  unfold State.popHead
  (repeat' first | split | dsimp only)
  all_goals simp
@[simp] theorem State.popHead_pending (o : Outcome) (k : EventKind) (s : State) : (State.popHead o k s).pending = s.pending := by
  unfold State.popHead
  (repeat' first | split | dsimp only)
  all_goals simp
@[simp] theorem State.copyIdle_path (s : State) : (State.copyIdle s).path = s.path := by
  simp [State.copyIdle]
@[simp] theorem State.copyIdle_recs (s : State) : (State.copyIdle s).recs = s.recs := by
  simp [State.copyIdle]
@[simp] theorem State.copyIdle_ring (s : State) : (State.copyIdle s).ring = s.ring := by
  simp [State.copyIdle]
@[simp] theorem State.copyIdle_slots (s : State) : (State.copyIdle s).slots = s.slots := by
  simp [State.copyIdle]
@[simp] theorem State.copyIdle_cap (s : State) : (State.copyIdle s).cap = s.cap := by
  simp [State.copyIdle]
@[simp] theorem State.copyIdle_mon (s : State) : (State.copyIdle s).mon = s.mon := by
  simp [State.copyIdle]
@[simp] theorem State.copyIdle_outA (s : State) : (State.copyIdle s).outA = s.outA := by
  simp [State.copyIdle]
@[simp] theorem State.copyIdle_outB (s : State) : (State.copyIdle s).outB = s.outB := by
  simp [State.copyIdle]
@[simp] theorem State.copyIdle_gov (s : State) : (State.copyIdle s).gov = s.gov := by
  simp [State.copyIdle]
@[simp] theorem State.copyIdle_notice (s : State) : (State.copyIdle s).notice = s.notice := by
  simp [State.copyIdle]
@[simp] theorem State.copyIdle_pending (s : State) : (State.copyIdle s).pending = s.pending := by
  simp [State.copyIdle]
@[simp] theorem State.serveQueue_path (n : Nat) (s : State) : (State.serveQueue n s).path = s.path := by
  induction n generalizing s with
  | zero => simp [State.serveQueue]
  | succ n ih => 
    unfold State.serveQueue
    (repeat' first | split | dsimp only)
    all_goals simp [ih]
@[simp] theorem State.serveQueue_ring (n : Nat) (s : State) : (State.serveQueue n s).ring = s.ring := by
  induction n generalizing s with
  | zero => simp [State.serveQueue]
  | succ n ih => 
    unfold State.serveQueue
    (repeat' first | split | dsimp only)
    all_goals simp [ih]
@[simp] theorem State.serveQueue_cap (n : Nat) (s : State) : (State.serveQueue n s).cap = s.cap := by
  induction n generalizing s with
  | zero => simp [State.serveQueue]
  | succ n ih => 
    unfold State.serveQueue
    (repeat' first | split | dsimp only)
    all_goals simp [ih]
@[simp] theorem State.serveQueue_mon (n : Nat) (s : State) : (State.serveQueue n s).mon = s.mon := by
  induction n generalizing s with
  | zero => simp [State.serveQueue]
  | succ n ih => 
    unfold State.serveQueue
    (repeat' first | split | dsimp only)
    all_goals simp [ih]
@[simp] theorem State.serveQueue_outA (n : Nat) (s : State) : (State.serveQueue n s).outA = s.outA := by
  induction n generalizing s with
  | zero => simp [State.serveQueue]
  | succ n ih => 
    unfold State.serveQueue
    (repeat' first | split | dsimp only)
    all_goals simp [ih]
@[simp] theorem State.serveQueue_outB (n : Nat) (s : State) : (State.serveQueue n s).outB = s.outB := by
  induction n generalizing s with
  | zero => simp [State.serveQueue]
  | succ n ih => 
    unfold State.serveQueue
    (repeat' first | split | dsimp only)
    all_goals simp [ih]
@[simp] theorem State.serveQueue_gov (n : Nat) (s : State) : (State.serveQueue n s).gov = s.gov := by
  induction n generalizing s with
  | zero => simp [State.serveQueue]
  | succ n ih => 
    unfold State.serveQueue
    (repeat' first | split | dsimp only)
    all_goals simp [ih]
@[simp] theorem State.serveQueue_pending (n : Nat) (s : State) : (State.serveQueue n s).pending = s.pending := by
  induction n generalizing s with
  | zero => simp [State.serveQueue]
  | succ n ih => 
    unfold State.serveQueue
    (repeat' first | split | dsimp only)
    all_goals simp [ih]
@[simp] theorem State.nextRequest_path (s : State) : (State.nextRequest s).path = s.path := by
  simp [State.nextRequest]
@[simp] theorem State.nextRequest_ring (s : State) : (State.nextRequest s).ring = s.ring := by
  simp [State.nextRequest]
@[simp] theorem State.nextRequest_cap (s : State) : (State.nextRequest s).cap = s.cap := by
  simp [State.nextRequest]
@[simp] theorem State.nextRequest_mon (s : State) : (State.nextRequest s).mon = s.mon := by
  simp [State.nextRequest]
@[simp] theorem State.nextRequest_outA (s : State) : (State.nextRequest s).outA = s.outA := by
  simp [State.nextRequest]
@[simp] theorem State.nextRequest_outB (s : State) : (State.nextRequest s).outB = s.outB := by
  simp [State.nextRequest]
@[simp] theorem State.nextRequest_gov (s : State) : (State.nextRequest s).gov = s.gov := by
  simp [State.nextRequest]
@[simp] theorem State.nextRequest_pending (s : State) : (State.nextRequest s).pending = s.pending := by
  simp [State.nextRequest]
@[simp] theorem State.joinQueue_path (r : Request) (s : State) : (State.joinQueue r s).path = s.path := by
  unfold State.joinQueue
  (repeat' first | split | dsimp only)
  all_goals simp
@[simp] theorem State.joinQueue_ring (r : Request) (s : State) : (State.joinQueue r s).ring = s.ring := by
  unfold State.joinQueue
  (repeat' first | split | dsimp only)
  all_goals simp
@[simp] theorem State.joinQueue_cap (r : Request) (s : State) : (State.joinQueue r s).cap = s.cap := by
  unfold State.joinQueue
  (repeat' first | split | dsimp only)
  all_goals simp
@[simp] theorem State.joinQueue_mon (r : Request) (s : State) : (State.joinQueue r s).mon = s.mon := by
  unfold State.joinQueue
  (repeat' first | split | dsimp only)
  all_goals simp
@[simp] theorem State.joinQueue_outA (r : Request) (s : State) : (State.joinQueue r s).outA = s.outA := by
  unfold State.joinQueue
  (repeat' first | split | dsimp only)
  all_goals simp
@[simp] theorem State.joinQueue_outB (r : Request) (s : State) : (State.joinQueue r s).outB = s.outB := by
  unfold State.joinQueue
  (repeat' first | split | dsimp only)
  all_goals simp
@[simp] theorem State.joinQueue_gov (r : Request) (s : State) : (State.joinQueue r s).gov = s.gov := by
  unfold State.joinQueue
  (repeat' first | split | dsimp only)
  all_goals simp
@[simp] theorem State.joinQueue_pending (r : Request) (s : State) : (State.joinQueue r s).pending = s.pending := by
  unfold State.joinQueue
  (repeat' first | split | dsimp only)
  all_goals simp
@[simp] theorem State.copyComplete_path (p : Nat) (s : State) : (State.copyComplete p s).path = s.path := by
  simp [State.copyComplete]
@[simp] theorem State.copyComplete_ring (p : Nat) (s : State) : (State.copyComplete p s).ring = s.ring := by
  simp [State.copyComplete]
@[simp] theorem State.copyComplete_cap (p : Nat) (s : State) : (State.copyComplete p s).cap = s.cap := by
  simp [State.copyComplete]
@[simp] theorem State.copyComplete_mon (p : Nat) (s : State) : (State.copyComplete p s).mon = s.mon := by
  simp [State.copyComplete]
@[simp] theorem State.copyComplete_outA (p : Nat) (s : State) : (State.copyComplete p s).outA = s.outA := by
  simp [State.copyComplete]
@[simp] theorem State.copyComplete_outB (p : Nat) (s : State) : (State.copyComplete p s).outB = s.outB := by
  simp [State.copyComplete]
@[simp] theorem State.copyComplete_gov (p : Nat) (s : State) : (State.copyComplete p s).gov = s.gov := by
  simp [State.copyComplete]
@[simp] theorem State.copyComplete_pending (p : Nat) (s : State) : (State.copyComplete p s).pending = s.pending := by
  simp [State.copyComplete]
@[simp] theorem State.copyFailed_path (p : Nat) (k : FaultKind) (addr : Nat) (s : State) : (State.copyFailed p k addr s).path = s.path := by
  simp [State.copyFailed]
@[simp] theorem State.copyFailed_ring (p : Nat) (k : FaultKind) (addr : Nat) (s : State) : (State.copyFailed p k addr s).ring = s.ring := by
  simp [State.copyFailed]
@[simp] theorem State.copyFailed_cap (p : Nat) (k : FaultKind) (addr : Nat) (s : State) : (State.copyFailed p k addr s).cap = s.cap := by
  simp [State.copyFailed]
@[simp] theorem State.copyFailed_mon (p : Nat) (k : FaultKind) (addr : Nat) (s : State) : (State.copyFailed p k addr s).mon = s.mon := by
  simp [State.copyFailed]
@[simp] theorem State.copyFailed_outA (p : Nat) (k : FaultKind) (addr : Nat) (s : State) : (State.copyFailed p k addr s).outA = s.outA := by
  simp [State.copyFailed]
@[simp] theorem State.copyFailed_outB (p : Nat) (k : FaultKind) (addr : Nat) (s : State) : (State.copyFailed p k addr s).outB = s.outB := by
  simp [State.copyFailed]
@[simp] theorem State.copyFailed_gov (p : Nat) (k : FaultKind) (addr : Nat) (s : State) : (State.copyFailed p k addr s).gov = s.gov := by
  simp [State.copyFailed]
@[simp] theorem State.copyFailed_pending (p : Nat) (k : FaultKind) (addr : Nat) (s : State) : (State.copyFailed p k addr s).pending = s.pending := by
  simp [State.copyFailed]
/-- R163: once a RESTART is dispatched a handover does nothing. -/
theorem State.handover_of_restartDispatched (p : Nat) {s : State} (h : s.ring.restartDispatched = true) :
    State.handover p s = s := by
  simp [State.handover, h]
@[simp] theorem State.handover_path (p : Nat) (s : State) : (State.handover p s).path = s.path := by
  unfold State.handover
  (repeat' first | split | dsimp only)
  all_goals simp
@[simp] theorem State.handover_ring (p : Nat) (s : State) : (State.handover p s).ring = s.ring := by
  unfold State.handover
  (repeat' first | split | dsimp only)
  all_goals simp
@[simp] theorem State.handover_slots (p : Nat) (s : State) : (State.handover p s).slots = s.slots := by
  unfold State.handover
  (repeat' first | split | dsimp only)
  all_goals simp
@[simp] theorem State.handover_cap (p : Nat) (s : State) : (State.handover p s).cap = s.cap := by
  unfold State.handover
  (repeat' first | split | dsimp only)
  all_goals simp
@[simp] theorem State.handover_mon (p : Nat) (s : State) : (State.handover p s).mon = s.mon := by
  unfold State.handover
  (repeat' first | split | dsimp only)
  all_goals simp
@[simp] theorem State.handover_outA (p : Nat) (s : State) : (State.handover p s).outA = s.outA := by
  unfold State.handover
  (repeat' first | split | dsimp only)
  all_goals simp
@[simp] theorem State.handover_outB (p : Nat) (s : State) : (State.handover p s).outB = s.outB := by
  unfold State.handover
  (repeat' first | split | dsimp only)
  all_goals simp
@[simp] theorem State.handover_gov (p : Nat) (s : State) : (State.handover p s).gov = s.gov := by
  unfold State.handover
  (repeat' first | split | dsimp only)
  all_goals simp
@[simp] theorem State.handover_notice (p : Nat) (s : State) : (State.handover p s).notice = s.notice := by
  unfold State.handover
  (repeat' first | split | dsimp only)
  all_goals simp
@[simp] theorem State.handover_pending (p : Nat) (s : State) : (State.handover p s).pending = s.pending := by
  unfold State.handover
  (repeat' first | split | dsimp only)
  all_goals simp
@[simp] theorem State.unmark_path (p : Nat) (f : Rec → Rec) (s : State) : (State.unmark p f s).path = s.path := by
  simp [State.unmark]
@[simp] theorem State.unmark_ring (p : Nat) (f : Rec → Rec) (s : State) : (State.unmark p f s).ring = s.ring := by
  simp [State.unmark]
@[simp] theorem State.unmark_slots (p : Nat) (f : Rec → Rec) (s : State) : (State.unmark p f s).slots = s.slots := by
  simp [State.unmark]
@[simp] theorem State.unmark_cap (p : Nat) (f : Rec → Rec) (s : State) : (State.unmark p f s).cap = s.cap := by
  simp [State.unmark]
@[simp] theorem State.unmark_mon (p : Nat) (f : Rec → Rec) (s : State) : (State.unmark p f s).mon = s.mon := by
  simp [State.unmark]
@[simp] theorem State.unmark_outA (p : Nat) (f : Rec → Rec) (s : State) : (State.unmark p f s).outA = s.outA := by
  simp [State.unmark]
@[simp] theorem State.unmark_outB (p : Nat) (f : Rec → Rec) (s : State) : (State.unmark p f s).outB = s.outB := by
  simp [State.unmark]
@[simp] theorem State.unmark_gov (p : Nat) (f : Rec → Rec) (s : State) : (State.unmark p f s).gov = s.gov := by
  simp [State.unmark]
@[simp] theorem State.unmark_notice (p : Nat) (f : Rec → Rec) (s : State) : (State.unmark p f s).notice = s.notice := by
  simp [State.unmark]
@[simp] theorem State.unmark_pending (p : Nat) (f : Rec → Rec) (s : State) : (State.unmark p f s).pending = s.pending := by
  simp [State.unmark]
@[simp] theorem State.copyFrameEnd_path (s : State) : (State.copyFrameEnd s).path = s.path := by
  unfold State.copyFrameEnd
  (repeat' first | split | dsimp only)
  all_goals simp
@[simp] theorem State.copyFrameEnd_recs (s : State) : (State.copyFrameEnd s).recs = s.recs := by
  unfold State.copyFrameEnd
  (repeat' first | split | dsimp only)
  all_goals simp
@[simp] theorem State.copyFrameEnd_ring (s : State) : (State.copyFrameEnd s).ring = s.ring := by
  unfold State.copyFrameEnd
  (repeat' first | split | dsimp only)
  all_goals simp
@[simp] theorem State.copyFrameEnd_slots (s : State) : (State.copyFrameEnd s).slots = s.slots := by
  unfold State.copyFrameEnd
  (repeat' first | split | dsimp only)
  all_goals simp
@[simp] theorem State.copyFrameEnd_cap (s : State) : (State.copyFrameEnd s).cap = s.cap := by
  unfold State.copyFrameEnd
  (repeat' first | split | dsimp only)
  all_goals simp
@[simp] theorem State.copyFrameEnd_mon (s : State) : (State.copyFrameEnd s).mon = s.mon := by
  unfold State.copyFrameEnd
  (repeat' first | split | dsimp only)
  all_goals simp
@[simp] theorem State.copyFrameEnd_outA (s : State) : (State.copyFrameEnd s).outA = s.outA := by
  unfold State.copyFrameEnd
  (repeat' first | split | dsimp only)
  all_goals simp
@[simp] theorem State.copyFrameEnd_outB (s : State) : (State.copyFrameEnd s).outB = s.outB := by
  unfold State.copyFrameEnd
  (repeat' first | split | dsimp only)
  all_goals simp
@[simp] theorem State.copyFrameEnd_gov (s : State) : (State.copyFrameEnd s).gov = s.gov := by
  unfold State.copyFrameEnd
  (repeat' first | split | dsimp only)
  all_goals simp
@[simp] theorem State.copyFrameEnd_notice (s : State) : (State.copyFrameEnd s).notice = s.notice := by
  unfold State.copyFrameEnd
  (repeat' first | split | dsimp only)
  all_goals simp
@[simp] theorem State.copyFrameEnd_pending (s : State) : (State.copyFrameEnd s).pending = s.pending := by
  unfold State.copyFrameEnd
  (repeat' first | split | dsimp only)
  all_goals simp
@[simp] theorem State.finishRestart_path (s : State) : (State.finishRestart s).path = s.path := by
  unfold State.finishRestart
  (repeat' first | split | dsimp only)
  all_goals simp
@[simp] theorem State.finishRestart_slots (s : State) : (State.finishRestart s).slots = s.slots := by
  unfold State.finishRestart
  (repeat' first | split | dsimp only)
  all_goals simp
@[simp] theorem State.finishRestart_cap (s : State) : (State.finishRestart s).cap = s.cap := by
  unfold State.finishRestart
  (repeat' first | split | dsimp only)
  all_goals simp
@[simp] theorem State.finishRestart_mon (s : State) : (State.finishRestart s).mon = s.mon := by
  unfold State.finishRestart
  (repeat' first | split | dsimp only)
  all_goals simp
@[simp] theorem State.finishRestart_outA (s : State) : (State.finishRestart s).outA = s.outA := by
  unfold State.finishRestart
  (repeat' first | split | dsimp only)
  all_goals simp
@[simp] theorem State.finishRestart_outB (s : State) : (State.finishRestart s).outB = s.outB := by
  unfold State.finishRestart
  (repeat' first | split | dsimp only)
  all_goals simp
@[simp] theorem State.finishRestart_store (s : State) : (State.finishRestart s).store = s.store := by
  unfold State.finishRestart
  (repeat' first | split | dsimp only)
  all_goals simp
@[simp] theorem State.finishRestart_gov (s : State) : (State.finishRestart s).gov = s.gov := by
  unfold State.finishRestart
  (repeat' first | split | dsimp only)
  all_goals simp
@[simp] theorem State.finishRestart_notice (s : State) : (State.finishRestart s).notice = s.notice := by
  unfold State.finishRestart
  (repeat' first | split | dsimp only)
  all_goals simp
@[simp] theorem State.finishRestart_pending (s : State) : (State.finishRestart s).pending = s.pending := by
  unfold State.finishRestart
  (repeat' first | split | dsimp only)
  all_goals simp
@[simp] theorem State.readsReturned_path (p : Nat) (s : State) : (State.readsReturned p s).path = s.path := by
  unfold State.readsReturned
  (repeat' first | split | dsimp only)
  all_goals simp
@[simp] theorem State.readsReturned_ring (p : Nat) (s : State) : (State.readsReturned p s).ring = s.ring := by
  unfold State.readsReturned
  (repeat' first | split | dsimp only)
  all_goals simp
@[simp] theorem State.readsReturned_cap (p : Nat) (s : State) : (State.readsReturned p s).cap = s.cap := by
  unfold State.readsReturned
  (repeat' first | split | dsimp only)
  all_goals simp
@[simp] theorem State.readsReturned_mon (p : Nat) (s : State) : (State.readsReturned p s).mon = s.mon := by
  unfold State.readsReturned
  (repeat' first | split | dsimp only)
  all_goals simp
@[simp] theorem State.readsReturned_outA (p : Nat) (s : State) : (State.readsReturned p s).outA = s.outA := by
  unfold State.readsReturned
  (repeat' first | split | dsimp only)
  all_goals simp
@[simp] theorem State.readsReturned_outB (p : Nat) (s : State) : (State.readsReturned p s).outB = s.outB := by
  unfold State.readsReturned
  (repeat' first | split | dsimp only)
  all_goals simp
@[simp] theorem State.readsReturned_gov (p : Nat) (s : State) : (State.readsReturned p s).gov = s.gov := by
  unfold State.readsReturned
  (repeat' first | split | dsimp only)
  all_goals simp
@[simp] theorem State.readsReturned_pending (p : Nat) (s : State) : (State.readsReturned p s).pending = s.pending := by
  unfold State.readsReturned
  (repeat' first | split | dsimp only)
  all_goals simp
@[simp] theorem State.writesReturned_path (p : Nat) (s : State) : (State.writesReturned p s).path = s.path := by
  unfold State.writesReturned
  (repeat' first | split | dsimp only)
  all_goals simp
@[simp] theorem State.writesReturned_ring (p : Nat) (s : State) : (State.writesReturned p s).ring = s.ring := by
  unfold State.writesReturned
  (repeat' first | split | dsimp only)
  all_goals simp
@[simp] theorem State.writesReturned_cap (p : Nat) (s : State) : (State.writesReturned p s).cap = s.cap := by
  unfold State.writesReturned
  (repeat' first | split | dsimp only)
  all_goals simp
@[simp] theorem State.writesReturned_mon (p : Nat) (s : State) : (State.writesReturned p s).mon = s.mon := by
  unfold State.writesReturned
  (repeat' first | split | dsimp only)
  all_goals simp
@[simp] theorem State.writesReturned_outA (p : Nat) (s : State) : (State.writesReturned p s).outA = s.outA := by
  unfold State.writesReturned
  (repeat' first | split | dsimp only)
  all_goals simp
@[simp] theorem State.writesReturned_outB (p : Nat) (s : State) : (State.writesReturned p s).outB = s.outB := by
  unfold State.writesReturned
  (repeat' first | split | dsimp only)
  all_goals simp
@[simp] theorem State.writesReturned_gov (p : Nat) (s : State) : (State.writesReturned p s).gov = s.gov := by
  unfold State.writesReturned
  (repeat' first | split | dsimp only)
  all_goals simp
@[simp] theorem State.writesReturned_pending (p : Nat) (s : State) : (State.writesReturned p s).pending = s.pending := by
  unfold State.writesReturned
  (repeat' first | split | dsimp only)
  all_goals simp
@[simp] theorem State.chunkReturned_path (t : ChunkTxn) (r : Resp) (data : List Byte) (s : State) : (State.chunkReturned t r data s).path = s.path := by
  unfold State.chunkReturned
  (repeat' first | split | dsimp only)
  all_goals simp
@[simp] theorem State.chunkReturned_ring (t : ChunkTxn) (r : Resp) (data : List Byte) (s : State) : (State.chunkReturned t r data s).ring = s.ring := by
  unfold State.chunkReturned
  (repeat' first | split | dsimp only)
  all_goals simp
@[simp] theorem State.chunkReturned_cap (t : ChunkTxn) (r : Resp) (data : List Byte) (s : State) : (State.chunkReturned t r data s).cap = s.cap := by
  unfold State.chunkReturned
  (repeat' first | split | dsimp only)
  all_goals simp
@[simp] theorem State.chunkReturned_mon (t : ChunkTxn) (r : Resp) (data : List Byte) (s : State) : (State.chunkReturned t r data s).mon = s.mon := by
  unfold State.chunkReturned
  (repeat' first | split | dsimp only)
  all_goals simp
@[simp] theorem State.chunkReturned_outA (t : ChunkTxn) (r : Resp) (data : List Byte) (s : State) : (State.chunkReturned t r data s).outA = s.outA := by
  unfold State.chunkReturned
  (repeat' first | split | dsimp only)
  all_goals simp
@[simp] theorem State.chunkReturned_outB (t : ChunkTxn) (r : Resp) (data : List Byte) (s : State) : (State.chunkReturned t r data s).outB = s.outB := by
  unfold State.chunkReturned
  (repeat' first | split | dsimp only)
  all_goals simp
@[simp] theorem State.chunkReturned_gov (t : ChunkTxn) (r : Resp) (data : List Byte) (s : State) : (State.chunkReturned t r data s).gov = s.gov := by
  unfold State.chunkReturned
  (repeat' first | split | dsimp only)
  all_goals simp
@[simp] theorem State.chunkReturned_pending (t : ChunkTxn) (r : Resp) (data : List Byte) (s : State) : (State.chunkReturned t r data s).pending = s.pending := by
  unfold State.chunkReturned
  (repeat' first | split | dsimp only)
  all_goals simp
@[simp] theorem State.chunkResponse_path (d : Dir) (addr : Nat) (r : Resp) (data : List Byte) (s : State) : (State.chunkResponse d addr r data s).path = s.path := by
  unfold State.chunkResponse
  (repeat' first | split | dsimp only)
  all_goals simp
@[simp] theorem State.chunkResponse_cap (d : Dir) (addr : Nat) (r : Resp) (data : List Byte) (s : State) : (State.chunkResponse d addr r data s).cap = s.cap := by
  unfold State.chunkResponse
  (repeat' first | split | dsimp only)
  all_goals simp
@[simp] theorem State.chunkResponse_mon (d : Dir) (addr : Nat) (r : Resp) (data : List Byte) (s : State) : (State.chunkResponse d addr r data s).mon = s.mon := by
  unfold State.chunkResponse
  (repeat' first | split | dsimp only)
  all_goals simp
@[simp] theorem State.chunkResponse_outA (d : Dir) (addr : Nat) (r : Resp) (data : List Byte) (s : State) : (State.chunkResponse d addr r data s).outA = s.outA := by
  unfold State.chunkResponse
  (repeat' first | split | dsimp only)
  all_goals simp
@[simp] theorem State.chunkResponse_outB (d : Dir) (addr : Nat) (r : Resp) (data : List Byte) (s : State) : (State.chunkResponse d addr r data s).outB = s.outB := by
  unfold State.chunkResponse
  (repeat' first | split | dsimp only)
  all_goals simp
@[simp] theorem State.chunkResponse_gov (d : Dir) (addr : Nat) (r : Resp) (data : List Byte) (s : State) : (State.chunkResponse d addr r data s).gov = s.gov := by
  unfold State.chunkResponse
  (repeat' first | split | dsimp only)
  all_goals simp
@[simp] theorem State.chunkResponse_pending (d : Dir) (addr : Nat) (r : Resp) (data : List Byte) (s : State) : (State.chunkResponse d addr r data s).pending = s.pending := by
  unfold State.chunkResponse
  (repeat' first | split | dsimp only)
  all_goals simp
@[simp] theorem State.thermalChange_path (before after : TempState) (s : State) : (State.thermalChange before after s).path = s.path := by
  unfold State.thermalChange
  (repeat' first | split | dsimp only)
  all_goals simp
@[simp] theorem State.thermalChange_ring (before after : TempState) (s : State) : (State.thermalChange before after s).ring = s.ring := by
  unfold State.thermalChange
  (repeat' first | split | dsimp only)
  all_goals simp
@[simp] theorem State.thermalChange_slots (before after : TempState) (s : State) : (State.thermalChange before after s).slots = s.slots := by
  unfold State.thermalChange
  (repeat' first | split | dsimp only)
  all_goals simp
@[simp] theorem State.thermalChange_cap (before after : TempState) (s : State) : (State.thermalChange before after s).cap = s.cap := by
  unfold State.thermalChange
  (repeat' first | split | dsimp only)
  all_goals simp
@[simp] theorem State.thermalChange_mon (before after : TempState) (s : State) : (State.thermalChange before after s).mon = s.mon := by
  unfold State.thermalChange
  (repeat' first | split | dsimp only)
  all_goals simp
@[simp] theorem State.thermalChange_outA (before after : TempState) (s : State) : (State.thermalChange before after s).outA = s.outA := by
  unfold State.thermalChange
  (repeat' first | split | dsimp only)
  all_goals simp
@[simp] theorem State.thermalChange_outB (before after : TempState) (s : State) : (State.thermalChange before after s).outB = s.outB := by
  unfold State.thermalChange
  (repeat' first | split | dsimp only)
  all_goals simp
@[simp] theorem State.thermalChange_pending (before after : TempState) (s : State) : (State.thermalChange before after s).pending = s.pending := by
  unfold State.thermalChange
  (repeat' first | split | dsimp only)
  all_goals simp
@[simp] theorem State.sampleDie_path (reading : Int) (s : State) : (State.sampleDie reading s).path = s.path := by
  unfold State.sampleDie
  (repeat' first | split | dsimp only)
  all_goals simp
@[simp] theorem State.sampleDie_ring (reading : Int) (s : State) : (State.sampleDie reading s).ring = s.ring := by
  unfold State.sampleDie
  (repeat' first | split | dsimp only)
  all_goals simp
@[simp] theorem State.sampleDie_slots (reading : Int) (s : State) : (State.sampleDie reading s).slots = s.slots := by
  unfold State.sampleDie
  (repeat' first | split | dsimp only)
  all_goals simp
@[simp] theorem State.sampleDie_cap (reading : Int) (s : State) : (State.sampleDie reading s).cap = s.cap := by
  unfold State.sampleDie
  (repeat' first | split | dsimp only)
  all_goals simp
@[simp] theorem State.sampleDie_mon (reading : Int) (s : State) : (State.sampleDie reading s).mon = s.mon := by
  unfold State.sampleDie
  (repeat' first | split | dsimp only)
  all_goals simp
@[simp] theorem State.sampleDie_outA (reading : Int) (s : State) : (State.sampleDie reading s).outA = s.outA := by
  unfold State.sampleDie
  (repeat' first | split | dsimp only)
  all_goals simp
@[simp] theorem State.sampleDie_outB (reading : Int) (s : State) : (State.sampleDie reading s).outB = s.outB := by
  unfold State.sampleDie
  (repeat' first | split | dsimp only)
  all_goals simp
@[simp] theorem State.sampleDie_pending (reading : Int) (s : State) : (State.sampleDie reading s).pending = s.pending := by
  unfold State.sampleDie
  (repeat' first | split | dsimp only)
  all_goals simp
@[simp] theorem State.statusReadSeen_path (s : State) : (State.statusReadSeen s).path = s.path := by
  unfold State.statusReadSeen
  (repeat' first | split | dsimp only)
  all_goals simp
@[simp] theorem State.statusReadSeen_ring (s : State) : (State.statusReadSeen s).ring = s.ring := by
  unfold State.statusReadSeen
  (repeat' first | split | dsimp only)
  all_goals simp
@[simp] theorem State.statusReadSeen_slots (s : State) : (State.statusReadSeen s).slots = s.slots := by
  unfold State.statusReadSeen
  (repeat' first | split | dsimp only)
  all_goals simp
@[simp] theorem State.statusReadSeen_cap (s : State) : (State.statusReadSeen s).cap = s.cap := by
  unfold State.statusReadSeen
  (repeat' first | split | dsimp only)
  all_goals simp
@[simp] theorem State.statusReadSeen_mon (s : State) : (State.statusReadSeen s).mon = s.mon := by
  unfold State.statusReadSeen
  (repeat' first | split | dsimp only)
  all_goals simp
@[simp] theorem State.statusReadSeen_outA (s : State) : (State.statusReadSeen s).outA = s.outA := by
  unfold State.statusReadSeen
  (repeat' first | split | dsimp only)
  all_goals simp
@[simp] theorem State.statusReadSeen_outB (s : State) : (State.statusReadSeen s).outB = s.outB := by
  unfold State.statusReadSeen
  (repeat' first | split | dsimp only)
  all_goals simp
@[simp] theorem State.statusReadSeen_store (s : State) : (State.statusReadSeen s).store = s.store := by
  unfold State.statusReadSeen
  (repeat' first | split | dsimp only)
  all_goals simp
@[simp] theorem State.statusReadSeen_notice (s : State) : (State.statusReadSeen s).notice = s.notice := by
  unfold State.statusReadSeen
  (repeat' first | split | dsimp only)
  all_goals simp
@[simp] theorem State.statusReadSeen_pending (s : State) : (State.statusReadSeen s).pending = s.pending := by
  unfold State.statusReadSeen
  (repeat' first | split | dsimp only)
  all_goals simp

end Sys2Proof.Machine
end

