-- ==== Sys2Proof/Laws/FramesOwners.lean ====
section
/-! SUPPORT. Frames of the store, the outputs and the Path Unit: the blocks each operation leaves as they are. -/

namespace Sys2Proof.Machine

@[simp] theorem State.requestRecords_path (l : List Nat) (s : State) : (State.requestRecords l s).path = s.path := by
  induction l generalizing s with
  | nil => simp [State.requestRecords]
  | cons a l ih => 
    unfold State.requestRecords
    simp [ih]
@[simp] theorem State.requestRecords_ring (l : List Nat) (s : State) : (State.requestRecords l s).ring = s.ring := by
  induction l generalizing s with
  | nil => simp [State.requestRecords]
  | cons a l ih => 
    unfold State.requestRecords
    simp [ih]
@[simp] theorem State.requestRecords_slots (l : List Nat) (s : State) : (State.requestRecords l s).slots = s.slots := by
  induction l generalizing s with
  | nil => simp [State.requestRecords]
  | cons a l ih => 
    unfold State.requestRecords
    simp [ih]
@[simp] theorem State.requestRecords_cap (l : List Nat) (s : State) : (State.requestRecords l s).cap = s.cap := by
  induction l generalizing s with
  | nil => simp [State.requestRecords]
  | cons a l ih => 
    unfold State.requestRecords
    simp [ih]
@[simp] theorem State.requestRecords_mon (l : List Nat) (s : State) : (State.requestRecords l s).mon = s.mon := by
  induction l generalizing s with
  | nil => simp [State.requestRecords]
  | cons a l ih => 
    unfold State.requestRecords
    simp [ih]
@[simp] theorem State.requestRecords_outA (l : List Nat) (s : State) : (State.requestRecords l s).outA = s.outA := by
  induction l generalizing s with
  | nil => simp [State.requestRecords]
  | cons a l ih => 
    unfold State.requestRecords
    simp [ih]
@[simp] theorem State.requestRecords_outB (l : List Nat) (s : State) : (State.requestRecords l s).outB = s.outB := by
  induction l generalizing s with
  | nil => simp [State.requestRecords]
  | cons a l ih => 
    unfold State.requestRecords
    simp [ih]
@[simp] theorem State.requestRecords_store (l : List Nat) (s : State) : (State.requestRecords l s).store = s.store := by
  induction l generalizing s with
  | nil => simp [State.requestRecords]
  | cons a l ih => 
    unfold State.requestRecords
    simp [ih]
@[simp] theorem State.requestRecords_gov (l : List Nat) (s : State) : (State.requestRecords l s).gov = s.gov := by
  induction l generalizing s with
  | nil => simp [State.requestRecords]
  | cons a l ih => 
    unfold State.requestRecords
    simp [ih]
@[simp] theorem State.requestRecords_notice (l : List Nat) (s : State) : (State.requestRecords l s).notice = s.notice := by
  induction l generalizing s with
  | nil => simp [State.requestRecords]
  | cons a l ih => 
    unfold State.requestRecords
    simp [ih]
@[simp] theorem State.requestRecords_pending (l : List Nat) (s : State) : (State.requestRecords l s).pending = s.pending := by
  induction l generalizing s with
  | nil => simp [State.requestRecords]
  | cons a l ih => 
    unfold State.requestRecords
    simp [ih]
@[simp] theorem State.openEmpty_path (g : StoreGeom) (s : State) : (State.openEmpty g s).path = s.path := by
  simp [State.openEmpty]
@[simp] theorem State.openEmpty_ring (g : StoreGeom) (s : State) : (State.openEmpty g s).ring = s.ring := by
  simp [State.openEmpty]
@[simp] theorem State.openEmpty_slots (g : StoreGeom) (s : State) : (State.openEmpty g s).slots = s.slots := by
  simp [State.openEmpty]
@[simp] theorem State.openEmpty_cap (g : StoreGeom) (s : State) : (State.openEmpty g s).cap = s.cap := by
  simp [State.openEmpty]
@[simp] theorem State.openEmpty_mon (g : StoreGeom) (s : State) : (State.openEmpty g s).mon = s.mon := by
  simp [State.openEmpty]
@[simp] theorem State.openEmpty_outA (g : StoreGeom) (s : State) : (State.openEmpty g s).outA = s.outA := by
  simp [State.openEmpty]
@[simp] theorem State.openEmpty_outB (g : StoreGeom) (s : State) : (State.openEmpty g s).outB = s.outB := by
  simp [State.openEmpty]
@[simp] theorem State.openEmpty_gov (g : StoreGeom) (s : State) : (State.openEmpty g s).gov = s.gov := by
  simp [State.openEmpty]
@[simp] theorem State.openEmpty_notice (g : StoreGeom) (s : State) : (State.openEmpty g s).notice = s.notice := by
  simp [State.openEmpty]
@[simp] theorem State.openEmpty_pending (g : StoreGeom) (s : State) : (State.openEmpty g s).pending = s.pending := by
  simp [State.openEmpty]
@[simp] theorem State.writeNewStore_path (g : StoreGeom) (s : State) : (State.writeNewStore g s).path = s.path := by
  simp [State.writeNewStore]
@[simp] theorem State.writeNewStore_ring (g : StoreGeom) (s : State) : (State.writeNewStore g s).ring = s.ring := by
  simp [State.writeNewStore]
@[simp] theorem State.writeNewStore_slots (g : StoreGeom) (s : State) : (State.writeNewStore g s).slots = s.slots := by
  simp [State.writeNewStore]
@[simp] theorem State.writeNewStore_cap (g : StoreGeom) (s : State) : (State.writeNewStore g s).cap = s.cap := by
  simp [State.writeNewStore]
@[simp] theorem State.writeNewStore_mon (g : StoreGeom) (s : State) : (State.writeNewStore g s).mon = s.mon := by
  simp [State.writeNewStore]
@[simp] theorem State.writeNewStore_outA (g : StoreGeom) (s : State) : (State.writeNewStore g s).outA = s.outA := by
  simp [State.writeNewStore]
@[simp] theorem State.writeNewStore_outB (g : StoreGeom) (s : State) : (State.writeNewStore g s).outB = s.outB := by
  simp [State.writeNewStore]
@[simp] theorem State.writeNewStore_store (g : StoreGeom) (s : State) : (State.writeNewStore g s).store = s.store := by
  simp [State.writeNewStore]
@[simp] theorem State.writeNewStore_gov (g : StoreGeom) (s : State) : (State.writeNewStore g s).gov = s.gov := by
  simp [State.writeNewStore]
@[simp] theorem State.writeNewStore_notice (g : StoreGeom) (s : State) : (State.writeNewStore g s).notice = s.notice := by
  simp [State.writeNewStore]
@[simp] theorem State.writeNewStore_pending (g : StoreGeom) (s : State) : (State.writeNewStore g s).pending = s.pending := by
  simp [State.writeNewStore]
@[simp] theorem State.raiseResume_path (g : StoreGeom) (got : Nat) (s : State) : (State.raiseResume g got s).path = s.path := by
  simp [State.raiseResume]
@[simp] theorem State.raiseResume_ring (g : StoreGeom) (got : Nat) (s : State) : (State.raiseResume g got s).ring = s.ring := by
  simp [State.raiseResume]
@[simp] theorem State.raiseResume_slots (g : StoreGeom) (got : Nat) (s : State) : (State.raiseResume g got s).slots = s.slots := by
  simp [State.raiseResume]
@[simp] theorem State.raiseResume_cap (g : StoreGeom) (got : Nat) (s : State) : (State.raiseResume g got s).cap = s.cap := by
  simp [State.raiseResume]
@[simp] theorem State.raiseResume_mon (g : StoreGeom) (got : Nat) (s : State) : (State.raiseResume g got s).mon = s.mon := by
  simp [State.raiseResume]
@[simp] theorem State.raiseResume_outA (g : StoreGeom) (got : Nat) (s : State) : (State.raiseResume g got s).outA = s.outA := by
  simp [State.raiseResume]
@[simp] theorem State.raiseResume_outB (g : StoreGeom) (got : Nat) (s : State) : (State.raiseResume g got s).outB = s.outB := by
  simp [State.raiseResume]
@[simp] theorem State.raiseResume_store (g : StoreGeom) (got : Nat) (s : State) : (State.raiseResume g got s).store = s.store := by
  simp [State.raiseResume]
@[simp] theorem State.raiseResume_gov (g : StoreGeom) (got : Nat) (s : State) : (State.raiseResume g got s).gov = s.gov := by
  simp [State.raiseResume]
@[simp] theorem State.raiseResume_notice (g : StoreGeom) (got : Nat) (s : State) : (State.raiseResume g got s).notice = s.notice := by
  simp [State.raiseResume]
@[simp] theorem State.raiseResume_pending (g : StoreGeom) (got : Nat) (s : State) : (State.raiseResume g got s).pending = s.pending := by
  simp [State.raiseResume]
@[simp] theorem State.beginResume_path (g : StoreGeom) (clamped : Bool) (s : State) : (State.beginResume g clamped s).path = s.path := by
  simp [State.beginResume]
@[simp] theorem State.beginResume_ring (g : StoreGeom) (clamped : Bool) (s : State) : (State.beginResume g clamped s).ring = s.ring := by
  simp [State.beginResume]
@[simp] theorem State.beginResume_slots (g : StoreGeom) (clamped : Bool) (s : State) : (State.beginResume g clamped s).slots = s.slots := by
  simp [State.beginResume]
@[simp] theorem State.beginResume_cap (g : StoreGeom) (clamped : Bool) (s : State) : (State.beginResume g clamped s).cap = s.cap := by
  simp [State.beginResume]
@[simp] theorem State.beginResume_mon (g : StoreGeom) (clamped : Bool) (s : State) : (State.beginResume g clamped s).mon = s.mon := by
  simp [State.beginResume]
@[simp] theorem State.beginResume_outA (g : StoreGeom) (clamped : Bool) (s : State) : (State.beginResume g clamped s).outA = s.outA := by
  simp [State.beginResume]
@[simp] theorem State.beginResume_outB (g : StoreGeom) (clamped : Bool) (s : State) : (State.beginResume g clamped s).outB = s.outB := by
  simp [State.beginResume]
@[simp] theorem State.beginResume_gov (g : StoreGeom) (clamped : Bool) (s : State) : (State.beginResume g clamped s).gov = s.gov := by
  simp [State.beginResume]
@[simp] theorem State.beginResume_notice (g : StoreGeom) (clamped : Bool) (s : State) : (State.beginResume g clamped s).notice = s.notice := by
  simp [State.beginResume]
@[simp] theorem State.beginResume_pending (g : StoreGeom) (clamped : Bool) (s : State) : (State.beginResume g clamped s).pending = s.pending := by
  simp [State.beginResume]
@[simp] theorem State.resumeClosed_path (st : Status) (s : State) : (State.resumeClosed st s).path = s.path := by
  simp [State.resumeClosed]
@[simp] theorem State.resumeClosed_slots (st : Status) (s : State) : (State.resumeClosed st s).slots = s.slots := by
  simp [State.resumeClosed]
@[simp] theorem State.resumeClosed_cap (st : Status) (s : State) : (State.resumeClosed st s).cap = s.cap := by
  simp [State.resumeClosed]
@[simp] theorem State.resumeClosed_mon (st : Status) (s : State) : (State.resumeClosed st s).mon = s.mon := by
  simp [State.resumeClosed]
@[simp] theorem State.resumeClosed_outA (st : Status) (s : State) : (State.resumeClosed st s).outA = s.outA := by
  simp [State.resumeClosed]
@[simp] theorem State.resumeClosed_outB (st : Status) (s : State) : (State.resumeClosed st s).outB = s.outB := by
  simp [State.resumeClosed]
@[simp] theorem State.resumeClosed_gov (st : Status) (s : State) : (State.resumeClosed st s).gov = s.gov := by
  simp [State.resumeClosed]
@[simp] theorem State.resumeClosed_notice (st : Status) (s : State) : (State.resumeClosed st s).notice = s.notice := by
  simp [State.resumeClosed]
@[simp] theorem State.resumeClosed_pending (st : Status) (s : State) : (State.resumeClosed st s).pending = s.pending := by
  simp [State.resumeClosed]
@[simp] theorem State.resumeOpened_path (g : StoreGeom) (bytes : List Byte) (clamped : Bool) (s : State) : (State.resumeOpened g bytes clamped s).path = s.path := by
  unfold State.resumeOpened
  (repeat' first | split | dsimp only)
  all_goals simp
@[simp] theorem State.resumeOpened_slots (g : StoreGeom) (bytes : List Byte) (clamped : Bool) (s : State) : (State.resumeOpened g bytes clamped s).slots = s.slots := by
  unfold State.resumeOpened
  (repeat' first | split | dsimp only)
  all_goals simp
@[simp] theorem State.resumeOpened_cap (g : StoreGeom) (bytes : List Byte) (clamped : Bool) (s : State) : (State.resumeOpened g bytes clamped s).cap = s.cap := by
  unfold State.resumeOpened
  (repeat' first | split | dsimp only)
  all_goals simp
@[simp] theorem State.resumeOpened_mon (g : StoreGeom) (bytes : List Byte) (clamped : Bool) (s : State) : (State.resumeOpened g bytes clamped s).mon = s.mon := by
  unfold State.resumeOpened
  (repeat' first | split | dsimp only)
  all_goals simp
@[simp] theorem State.resumeOpened_outA (g : StoreGeom) (bytes : List Byte) (clamped : Bool) (s : State) : (State.resumeOpened g bytes clamped s).outA = s.outA := by
  unfold State.resumeOpened
  (repeat' first | split | dsimp only)
  all_goals simp
@[simp] theorem State.resumeOpened_outB (g : StoreGeom) (bytes : List Byte) (clamped : Bool) (s : State) : (State.resumeOpened g bytes clamped s).outB = s.outB := by
  unfold State.resumeOpened
  (repeat' first | split | dsimp only)
  all_goals simp
@[simp] theorem State.resumeOpened_gov (g : StoreGeom) (bytes : List Byte) (clamped : Bool) (s : State) : (State.resumeOpened g bytes clamped s).gov = s.gov := by
  unfold State.resumeOpened
  (repeat' first | split | dsimp only)
  all_goals simp
@[simp] theorem State.resumeOpened_notice (g : StoreGeom) (bytes : List Byte) (clamped : Bool) (s : State) : (State.resumeOpened g bytes clamped s).notice = s.notice := by
  unfold State.resumeOpened
  (repeat' first | split | dsimp only)
  all_goals simp
@[simp] theorem State.resumeOpened_pending (g : StoreGeom) (bytes : List Byte) (clamped : Bool) (s : State) : (State.resumeOpened g bytes clamped s).pending = s.pending := by
  unfold State.resumeOpened
  (repeat' first | split | dsimp only)
  all_goals simp
@[simp] theorem State.resumeReturned_path (addr : Nat) (r : Resp) (data : List Byte) (s : State) : (State.resumeReturned addr r data s).path = s.path := by
  unfold State.resumeReturned
  (repeat' first | split | dsimp only)
  all_goals simp
@[simp] theorem State.resumeReturned_slots (addr : Nat) (r : Resp) (data : List Byte) (s : State) : (State.resumeReturned addr r data s).slots = s.slots := by
  unfold State.resumeReturned
  (repeat' first | split | dsimp only)
  all_goals simp
@[simp] theorem State.resumeReturned_cap (addr : Nat) (r : Resp) (data : List Byte) (s : State) : (State.resumeReturned addr r data s).cap = s.cap := by
  unfold State.resumeReturned
  (repeat' first | split | dsimp only)
  all_goals simp
@[simp] theorem State.resumeReturned_mon (addr : Nat) (r : Resp) (data : List Byte) (s : State) : (State.resumeReturned addr r data s).mon = s.mon := by
  unfold State.resumeReturned
  (repeat' first | split | dsimp only)
  all_goals simp
@[simp] theorem State.resumeReturned_outA (addr : Nat) (r : Resp) (data : List Byte) (s : State) : (State.resumeReturned addr r data s).outA = s.outA := by
  unfold State.resumeReturned
  (repeat' first | split | dsimp only)
  all_goals simp
@[simp] theorem State.resumeReturned_outB (addr : Nat) (r : Resp) (data : List Byte) (s : State) : (State.resumeReturned addr r data s).outB = s.outB := by
  unfold State.resumeReturned
  (repeat' first | split | dsimp only)
  all_goals simp
@[simp] theorem State.resumeReturned_gov (addr : Nat) (r : Resp) (data : List Byte) (s : State) : (State.resumeReturned addr r data s).gov = s.gov := by
  unfold State.resumeReturned
  (repeat' first | split | dsimp only)
  all_goals simp
@[simp] theorem State.resumeReturned_pending (addr : Nat) (r : Resp) (data : List Byte) (s : State) : (State.resumeReturned addr r data s).pending = s.pending := by
  unfold State.resumeReturned
  (repeat' first | split | dsimp only)
  all_goals simp
@[simp] theorem State.takeRequest_path (k : Nat) (auto keep : Bool) (s : State) : (State.takeRequest k auto keep s).path = s.path := by
  unfold State.takeRequest
  (repeat' first | split | dsimp only)
  all_goals simp
@[simp] theorem State.takeRequest_ring (k : Nat) (auto keep : Bool) (s : State) : (State.takeRequest k auto keep s).ring = s.ring := by
  unfold State.takeRequest
  (repeat' first | split | dsimp only)
  all_goals simp
@[simp] theorem State.takeRequest_cap (k : Nat) (auto keep : Bool) (s : State) : (State.takeRequest k auto keep s).cap = s.cap := by
  unfold State.takeRequest
  (repeat' first | split | dsimp only)
  all_goals simp
@[simp] theorem State.takeRequest_mon (k : Nat) (auto keep : Bool) (s : State) : (State.takeRequest k auto keep s).mon = s.mon := by
  unfold State.takeRequest
  (repeat' first | split | dsimp only)
  all_goals simp
@[simp] theorem State.takeRequest_outA (k : Nat) (auto keep : Bool) (s : State) : (State.takeRequest k auto keep s).outA = s.outA := by
  unfold State.takeRequest
  (repeat' first | split | dsimp only)
  all_goals simp
@[simp] theorem State.takeRequest_outB (k : Nat) (auto keep : Bool) (s : State) : (State.takeRequest k auto keep s).outB = s.outB := by
  unfold State.takeRequest
  (repeat' first | split | dsimp only)
  all_goals simp
@[simp] theorem State.takeRequest_gov (k : Nat) (auto keep : Bool) (s : State) : (State.takeRequest k auto keep s).gov = s.gov := by
  unfold State.takeRequest
  (repeat' first | split | dsimp only)
  all_goals simp
@[simp] theorem State.takeRequest_pending (k : Nat) (auto keep : Bool) (s : State) : (State.takeRequest k auto keep s).pending = s.pending := by
  unfold State.takeRequest
  (repeat' first | split | dsimp only)
  all_goals simp
@[simp] theorem State.endWaitBy_path (p : Nat) (s : State) : (State.endWaitBy p s).path = s.path := by
  unfold State.endWaitBy
  (repeat' first | split | dsimp only)
  all_goals simp
@[simp] theorem State.endWaitBy_ring (p : Nat) (s : State) : (State.endWaitBy p s).ring = s.ring := by
  unfold State.endWaitBy
  (repeat' first | split | dsimp only)
  all_goals simp
@[simp] theorem State.endWaitBy_cap (p : Nat) (s : State) : (State.endWaitBy p s).cap = s.cap := by
  unfold State.endWaitBy
  (repeat' first | split | dsimp only)
  all_goals simp
@[simp] theorem State.endWaitBy_mon (p : Nat) (s : State) : (State.endWaitBy p s).mon = s.mon := by
  unfold State.endWaitBy
  (repeat' first | split | dsimp only)
  all_goals simp
@[simp] theorem State.endWaitBy_outA (p : Nat) (s : State) : (State.endWaitBy p s).outA = s.outA := by
  unfold State.endWaitBy
  (repeat' first | split | dsimp only)
  all_goals simp
@[simp] theorem State.endWaitBy_outB (p : Nat) (s : State) : (State.endWaitBy p s).outB = s.outB := by
  unfold State.endWaitBy
  (repeat' first | split | dsimp only)
  all_goals simp
@[simp] theorem State.endWaitBy_gov (p : Nat) (s : State) : (State.endWaitBy p s).gov = s.gov := by
  unfold State.endWaitBy
  (repeat' first | split | dsimp only)
  all_goals simp
@[simp] theorem State.endWaitBy_pending (p : Nat) (s : State) : (State.endWaitBy p s).pending = s.pending := by
  unfold State.endWaitBy
  (repeat' first | split | dsimp only)
  all_goals simp
@[simp] theorem State.storeRestart_ring (s : State) : (State.storeRestart s).ring = s.ring := by
  unfold State.storeRestart
  (repeat' first | split | dsimp only)
  all_goals simp
@[simp] theorem State.storeRestart_cap (s : State) : (State.storeRestart s).cap = s.cap := by
  unfold State.storeRestart
  (repeat' first | split | dsimp only)
  all_goals simp
@[simp] theorem State.storeRestart_mon (s : State) : (State.storeRestart s).mon = s.mon := by
  unfold State.storeRestart
  (repeat' first | split | dsimp only)
  all_goals simp
@[simp] theorem State.storeRestart_outA (s : State) : (State.storeRestart s).outA = s.outA := by
  unfold State.storeRestart
  (repeat' first | split | dsimp only)
  all_goals simp
@[simp] theorem State.storeRestart_outB (s : State) : (State.storeRestart s).outB = s.outB := by
  unfold State.storeRestart
  (repeat' first | split | dsimp only)
  all_goals simp
@[simp] theorem State.storeRestart_gov (s : State) : (State.storeRestart s).gov = s.gov := by
  unfold State.storeRestart
  (repeat' first | split | dsimp only)
  all_goals simp
@[simp] theorem State.storeRestart_notice (s : State) : (State.storeRestart s).notice = s.notice := by
  unfold State.storeRestart
  (repeat' first | split | dsimp only)
  all_goals simp
@[simp] theorem State.storeRestart_pending (s : State) : (State.storeRestart s).pending = s.pending := by
  unfold State.storeRestart
  (repeat' first | split | dsimp only)
  all_goals simp
@[simp] theorem State.noteDamaged_path (x : OutId) (addr : Nat) (s : State) : (State.noteDamaged x addr s).path = s.path := by
  unfold State.noteDamaged
  (repeat' first | split | dsimp only)
  all_goals simp
@[simp] theorem State.noteDamaged_ring (x : OutId) (addr : Nat) (s : State) : (State.noteDamaged x addr s).ring = s.ring := by
  unfold State.noteDamaged
  (repeat' first | split | dsimp only)
  all_goals simp
@[simp] theorem State.noteDamaged_slots (x : OutId) (addr : Nat) (s : State) : (State.noteDamaged x addr s).slots = s.slots := by
  unfold State.noteDamaged
  (repeat' first | split | dsimp only)
  all_goals simp
@[simp] theorem State.noteDamaged_cap (x : OutId) (addr : Nat) (s : State) : (State.noteDamaged x addr s).cap = s.cap := by
  unfold State.noteDamaged
  (repeat' first | split | dsimp only)
  all_goals simp
@[simp] theorem State.noteDamaged_mon (x : OutId) (addr : Nat) (s : State) : (State.noteDamaged x addr s).mon = s.mon := by
  unfold State.noteDamaged
  (repeat' first | split | dsimp only)
  all_goals simp
@[simp] theorem State.noteDamaged_store (x : OutId) (addr : Nat) (s : State) : (State.noteDamaged x addr s).store = s.store := by
  unfold State.noteDamaged
  (repeat' first | split | dsimp only)
  all_goals simp
@[simp] theorem State.noteDamaged_gov (x : OutId) (addr : Nat) (s : State) : (State.noteDamaged x addr s).gov = s.gov := by
  unfold State.noteDamaged
  (repeat' first | split | dsimp only)
  all_goals simp
@[simp] theorem State.noteDamaged_pending (x : OutId) (addr : Nat) (s : State) : (State.noteDamaged x addr s).pending = s.pending := by
  unfold State.noteDamaged
  (repeat' first | split | dsimp only)
  all_goals simp
@[simp] theorem State.rowComputed_path (x : OutId) (p : Plane) (r : Nat) (bytes : List Byte) (s : State) : (State.rowComputed x p r bytes s).path = s.path := by
  simp [State.rowComputed]
@[simp] theorem State.rowComputed_recs (x : OutId) (p : Plane) (r : Nat) (bytes : List Byte) (s : State) : (State.rowComputed x p r bytes s).recs = s.recs := by
  simp [State.rowComputed]
@[simp] theorem State.rowComputed_ring (x : OutId) (p : Plane) (r : Nat) (bytes : List Byte) (s : State) : (State.rowComputed x p r bytes s).ring = s.ring := by
  simp [State.rowComputed]
@[simp] theorem State.rowComputed_slots (x : OutId) (p : Plane) (r : Nat) (bytes : List Byte) (s : State) : (State.rowComputed x p r bytes s).slots = s.slots := by
  simp [State.rowComputed]
@[simp] theorem State.rowComputed_cap (x : OutId) (p : Plane) (r : Nat) (bytes : List Byte) (s : State) : (State.rowComputed x p r bytes s).cap = s.cap := by
  simp [State.rowComputed]
@[simp] theorem State.rowComputed_mon (x : OutId) (p : Plane) (r : Nat) (bytes : List Byte) (s : State) : (State.rowComputed x p r bytes s).mon = s.mon := by
  simp [State.rowComputed]
@[simp] theorem State.rowComputed_store (x : OutId) (p : Plane) (r : Nat) (bytes : List Byte) (s : State) : (State.rowComputed x p r bytes s).store = s.store := by
  simp [State.rowComputed]
@[simp] theorem State.rowComputed_gov (x : OutId) (p : Plane) (r : Nat) (bytes : List Byte) (s : State) : (State.rowComputed x p r bytes s).gov = s.gov := by
  simp [State.rowComputed]
@[simp] theorem State.rowComputed_notice (x : OutId) (p : Plane) (r : Nat) (bytes : List Byte) (s : State) : (State.rowComputed x p r bytes s).notice = s.notice := by
  simp [State.rowComputed]
@[simp] theorem State.rowComputed_pending (x : OutId) (p : Plane) (r : Nat) (bytes : List Byte) (s : State) : (State.rowComputed x p r bytes s).pending = s.pending := by
  simp [State.rowComputed]
@[simp] theorem State.dropFreeze_path (x : OutId) (s : State) : (State.dropFreeze x s).path = s.path := by
  unfold State.dropFreeze
  (repeat' first | split | dsimp only)
  all_goals simp
@[simp] theorem State.dropFreeze_recs (x : OutId) (s : State) : (State.dropFreeze x s).recs = s.recs := by
  unfold State.dropFreeze
  (repeat' first | split | dsimp only)
  all_goals simp
@[simp] theorem State.dropFreeze_ring (x : OutId) (s : State) : (State.dropFreeze x s).ring = s.ring := by
  unfold State.dropFreeze
  (repeat' first | split | dsimp only)
  all_goals simp
@[simp] theorem State.dropFreeze_cap (x : OutId) (s : State) : (State.dropFreeze x s).cap = s.cap := by
  unfold State.dropFreeze
  (repeat' first | split | dsimp only)
  all_goals simp
@[simp] theorem State.dropFreeze_mon (x : OutId) (s : State) : (State.dropFreeze x s).mon = s.mon := by
  unfold State.dropFreeze
  (repeat' first | split | dsimp only)
  all_goals simp
@[simp] theorem State.dropFreeze_outA (x : OutId) (s : State) : (State.dropFreeze x s).outA = s.outA := by
  unfold State.dropFreeze
  (repeat' first | split | dsimp only)
  all_goals simp
@[simp] theorem State.dropFreeze_outB (x : OutId) (s : State) : (State.dropFreeze x s).outB = s.outB := by
  unfold State.dropFreeze
  (repeat' first | split | dsimp only)
  all_goals simp
@[simp] theorem State.dropFreeze_store (x : OutId) (s : State) : (State.dropFreeze x s).store = s.store := by
  unfold State.dropFreeze
  (repeat' first | split | dsimp only)
  all_goals simp
@[simp] theorem State.dropFreeze_gov (x : OutId) (s : State) : (State.dropFreeze x s).gov = s.gov := by
  unfold State.dropFreeze
  (repeat' first | split | dsimp only)
  all_goals simp
@[simp] theorem State.dropFreeze_notice (x : OutId) (s : State) : (State.dropFreeze x s).notice = s.notice := by
  unfold State.dropFreeze
  (repeat' first | split | dsimp only)
  all_goals simp
@[simp] theorem State.dropFreeze_pending (x : OutId) (s : State) : (State.dropFreeze x s).pending = s.pending := by
  unfold State.dropFreeze
  (repeat' first | split | dsimp only)
  all_goals simp
@[simp] theorem State.dropShow_path (x : OutId) (s : State) : (State.dropShow x s).path = s.path := by
  unfold State.dropShow
  (repeat' first | split | dsimp only)
  all_goals simp
@[simp] theorem State.dropShow_recs (x : OutId) (s : State) : (State.dropShow x s).recs = s.recs := by
  unfold State.dropShow
  (repeat' first | split | dsimp only)
  all_goals simp
@[simp] theorem State.dropShow_ring (x : OutId) (s : State) : (State.dropShow x s).ring = s.ring := by
  unfold State.dropShow
  (repeat' first | split | dsimp only)
  all_goals simp
@[simp] theorem State.dropShow_cap (x : OutId) (s : State) : (State.dropShow x s).cap = s.cap := by
  unfold State.dropShow
  (repeat' first | split | dsimp only)
  all_goals simp
@[simp] theorem State.dropShow_mon (x : OutId) (s : State) : (State.dropShow x s).mon = s.mon := by
  unfold State.dropShow
  (repeat' first | split | dsimp only)
  all_goals simp
@[simp] theorem State.dropShow_outA (x : OutId) (s : State) : (State.dropShow x s).outA = s.outA := by
  unfold State.dropShow
  (repeat' first | split | dsimp only)
  all_goals simp
@[simp] theorem State.dropShow_outB (x : OutId) (s : State) : (State.dropShow x s).outB = s.outB := by
  unfold State.dropShow
  (repeat' first | split | dsimp only)
  all_goals simp
@[simp] theorem State.dropShow_store (x : OutId) (s : State) : (State.dropShow x s).store = s.store := by
  unfold State.dropShow
  (repeat' first | split | dsimp only)
  all_goals simp
@[simp] theorem State.dropShow_gov (x : OutId) (s : State) : (State.dropShow x s).gov = s.gov := by
  unfold State.dropShow
  (repeat' first | split | dsimp only)
  all_goals simp
@[simp] theorem State.dropShow_notice (x : OutId) (s : State) : (State.dropShow x s).notice = s.notice := by
  unfold State.dropShow
  (repeat' first | split | dsimp only)
  all_goals simp
@[simp] theorem State.dropShow_pending (x : OutId) (s : State) : (State.dropShow x s).pending = s.pending := by
  unfold State.dropShow
  (repeat' first | split | dsimp only)
  all_goals simp
@[simp] theorem State.dropRecalls_path (x : OutId) (l : List Nat) (s : State) : (State.dropRecalls x l s).path = s.path := by
  induction l generalizing s with
  | nil => simp [State.dropRecalls]
  | cons a l ih => 
    unfold State.dropRecalls
    (repeat' first | split | dsimp only)
    all_goals simp [ih]
@[simp] theorem State.dropRecalls_ring (x : OutId) (l : List Nat) (s : State) : (State.dropRecalls x l s).ring = s.ring := by
  induction l generalizing s with
  | nil => simp [State.dropRecalls]
  | cons a l ih => 
    unfold State.dropRecalls
    (repeat' first | split | dsimp only)
    all_goals simp [ih]
@[simp] theorem State.dropRecalls_slots (x : OutId) (l : List Nat) (s : State) : (State.dropRecalls x l s).slots = s.slots := by
  induction l generalizing s with
  | nil => simp [State.dropRecalls]
  | cons a l ih => 
    unfold State.dropRecalls
    (repeat' first | split | dsimp only)
    all_goals simp [ih]
@[simp] theorem State.dropRecalls_cap (x : OutId) (l : List Nat) (s : State) : (State.dropRecalls x l s).cap = s.cap := by
  induction l generalizing s with
  | nil => simp [State.dropRecalls]
  | cons a l ih => 
    unfold State.dropRecalls
    (repeat' first | split | dsimp only)
    all_goals simp [ih]
@[simp] theorem State.dropRecalls_mon (x : OutId) (l : List Nat) (s : State) : (State.dropRecalls x l s).mon = s.mon := by
  induction l generalizing s with
  | nil => simp [State.dropRecalls]
  | cons a l ih => 
    unfold State.dropRecalls
    (repeat' first | split | dsimp only)
    all_goals simp [ih]
@[simp] theorem State.dropRecalls_outA (x : OutId) (l : List Nat) (s : State) : (State.dropRecalls x l s).outA = s.outA := by
  induction l generalizing s with
  | nil => simp [State.dropRecalls]
  | cons a l ih => 
    unfold State.dropRecalls
    (repeat' first | split | dsimp only)
    all_goals simp [ih]
@[simp] theorem State.dropRecalls_outB (x : OutId) (l : List Nat) (s : State) : (State.dropRecalls x l s).outB = s.outB := by
  induction l generalizing s with
  | nil => simp [State.dropRecalls]
  | cons a l ih => 
    unfold State.dropRecalls
    (repeat' first | split | dsimp only)
    all_goals simp [ih]
@[simp] theorem State.dropRecalls_gov (x : OutId) (l : List Nat) (s : State) : (State.dropRecalls x l s).gov = s.gov := by
  induction l generalizing s with
  | nil => simp [State.dropRecalls]
  | cons a l ih => 
    unfold State.dropRecalls
    (repeat' first | split | dsimp only)
    all_goals simp [ih]
@[simp] theorem State.dropRecalls_notice (x : OutId) (l : List Nat) (s : State) : (State.dropRecalls x l s).notice = s.notice := by
  induction l generalizing s with
  | nil => simp [State.dropRecalls]
  | cons a l ih => 
    unfold State.dropRecalls
    (repeat' first | split | dsimp only)
    all_goals simp [ih]
@[simp] theorem State.dropRecalls_pending (x : OutId) (l : List Nat) (s : State) : (State.dropRecalls x l s).pending = s.pending := by
  induction l generalizing s with
  | nil => simp [State.dropRecalls]
  | cons a l ih => 
    unfold State.dropRecalls
    (repeat' first | split | dsimp only)
    all_goals simp [ih]
@[simp] theorem State.leaveOutput_path (x : OutId) (s : State) : (State.leaveOutput x s).path = s.path := by
  unfold State.leaveOutput
  (repeat' first | split | dsimp only)
  all_goals simp
@[simp] theorem State.leaveOutput_ring (x : OutId) (s : State) : (State.leaveOutput x s).ring = s.ring := by
  unfold State.leaveOutput
  (repeat' first | split | dsimp only)
  all_goals simp
@[simp] theorem State.leaveOutput_cap (x : OutId) (s : State) : (State.leaveOutput x s).cap = s.cap := by
  unfold State.leaveOutput
  (repeat' first | split | dsimp only)
  all_goals simp
@[simp] theorem State.leaveOutput_mon (x : OutId) (s : State) : (State.leaveOutput x s).mon = s.mon := by
  unfold State.leaveOutput
  (repeat' first | split | dsimp only)
  all_goals simp
@[simp] theorem State.leaveOutput_gov (x : OutId) (s : State) : (State.leaveOutput x s).gov = s.gov := by
  unfold State.leaveOutput
  (repeat' first | split | dsimp only)
  all_goals simp
@[simp] theorem State.leaveOutput_notice (x : OutId) (s : State) : (State.leaveOutput x s).notice = s.notice := by
  unfold State.leaveOutput
  (repeat' first | split | dsimp only)
  all_goals simp
@[simp] theorem State.leaveOutput_pending (x : OutId) (s : State) : (State.leaveOutput x s).pending = s.pending := by
  unfold State.leaveOutput
  (repeat' first | split | dsimp only)
  all_goals simp
@[simp] theorem State.finishLeaving_path (x : OutId) (s : State) : (State.finishLeaving x s).path = s.path := by
  unfold State.finishLeaving
  (repeat' first | split | dsimp only)
  all_goals simp
@[simp] theorem State.finishLeaving_cap (x : OutId) (s : State) : (State.finishLeaving x s).cap = s.cap := by
  unfold State.finishLeaving
  (repeat' first | split | dsimp only)
  all_goals simp
@[simp] theorem State.finishLeaving_mon (x : OutId) (s : State) : (State.finishLeaving x s).mon = s.mon := by
  unfold State.finishLeaving
  (repeat' first | split | dsimp only)
  all_goals simp
@[simp] theorem State.finishLeaving_gov (x : OutId) (s : State) : (State.finishLeaving x s).gov = s.gov := by
  unfold State.finishLeaving
  (repeat' first | split | dsimp only)
  all_goals simp
@[simp] theorem State.finishLeaving_notice (x : OutId) (s : State) : (State.finishLeaving x s).notice = s.notice := by
  unfold State.finishLeaving
  (repeat' first | split | dsimp only)
  all_goals simp
@[simp] theorem State.finishLeaving_pending (x : OutId) (s : State) : (State.finishLeaving x s).pending = s.pending := by
  unfold State.finishLeaving
  (repeat' first | split | dsimp only)
  all_goals simp
@[simp] theorem State.takeShow_path (x : OutId) (w : Option Latched) (s : State) : (State.takeShow x w s).path = s.path := by
  unfold State.takeShow
  (repeat' first | split | dsimp only)
  all_goals simp
@[simp] theorem State.takeShow_recs (x : OutId) (w : Option Latched) (s : State) : (State.takeShow x w s).recs = s.recs := by
  unfold State.takeShow
  (repeat' first | split | dsimp only)
  all_goals simp
@[simp] theorem State.takeShow_ring (x : OutId) (w : Option Latched) (s : State) : (State.takeShow x w s).ring = s.ring := by
  unfold State.takeShow
  (repeat' first | split | dsimp only)
  all_goals simp
@[simp] theorem State.takeShow_cap (x : OutId) (w : Option Latched) (s : State) : (State.takeShow x w s).cap = s.cap := by
  unfold State.takeShow
  (repeat' first | split | dsimp only)
  all_goals simp
@[simp] theorem State.takeShow_mon (x : OutId) (w : Option Latched) (s : State) : (State.takeShow x w s).mon = s.mon := by
  unfold State.takeShow
  (repeat' first | split | dsimp only)
  all_goals simp
@[simp] theorem State.takeShow_outA (x : OutId) (w : Option Latched) (s : State) : (State.takeShow x w s).outA = s.outA := by
  unfold State.takeShow
  (repeat' first | split | dsimp only)
  all_goals simp
@[simp] theorem State.takeShow_outB (x : OutId) (w : Option Latched) (s : State) : (State.takeShow x w s).outB = s.outB := by
  unfold State.takeShow
  (repeat' first | split | dsimp only)
  all_goals simp
@[simp] theorem State.takeShow_store (x : OutId) (w : Option Latched) (s : State) : (State.takeShow x w s).store = s.store := by
  unfold State.takeShow
  (repeat' first | split | dsimp only)
  all_goals simp
@[simp] theorem State.takeShow_gov (x : OutId) (w : Option Latched) (s : State) : (State.takeShow x w s).gov = s.gov := by
  unfold State.takeShow
  (repeat' first | split | dsimp only)
  all_goals simp
@[simp] theorem State.takeShow_notice (x : OutId) (w : Option Latched) (s : State) : (State.takeShow x w s).notice = s.notice := by
  unfold State.takeShow
  (repeat' first | split | dsimp only)
  all_goals simp
@[simp] theorem State.takeShow_pending (x : OutId) (w : Option Latched) (s : State) : (State.takeShow x w s).pending = s.pending := by
  unfold State.takeShow
  (repeat' first | split | dsimp only)
  all_goals simp
@[simp] theorem State.outputFrameStart_path (x : OutId) (die : Int) (s : State) : (State.outputFrameStart x die s).path = s.path := by
  simp [State.outputFrameStart]
@[simp] theorem State.outputFrameStart_ring (x : OutId) (die : Int) (s : State) : (State.outputFrameStart x die s).ring = s.ring := by
  simp [State.outputFrameStart]
@[simp] theorem State.outputFrameStart_cap (x : OutId) (die : Int) (s : State) : (State.outputFrameStart x die s).cap = s.cap := by
  simp [State.outputFrameStart]
@[simp] theorem State.outputFrameStart_mon (x : OutId) (die : Int) (s : State) : (State.outputFrameStart x die s).mon = s.mon := by
  simp [State.outputFrameStart]
@[simp] theorem State.outputFrameStart_pending (x : OutId) (die : Int) (s : State) : (State.outputFrameStart x die s).pending = s.pending := by
  simp [State.outputFrameStart]
@[simp] theorem State.outputRestart_path (x : OutId) (s : State) : (State.outputRestart x s).path = s.path := by
  unfold State.outputRestart
  (repeat' first | split | dsimp only)
  all_goals simp
@[simp] theorem State.outputRestart_ring (x : OutId) (s : State) : (State.outputRestart x s).ring = s.ring := by
  unfold State.outputRestart
  (repeat' first | split | dsimp only)
  all_goals simp
@[simp] theorem State.outputRestart_cap (x : OutId) (s : State) : (State.outputRestart x s).cap = s.cap := by
  unfold State.outputRestart
  (repeat' first | split | dsimp only)
  all_goals simp
@[simp] theorem State.outputRestart_mon (x : OutId) (s : State) : (State.outputRestart x s).mon = s.mon := by
  unfold State.outputRestart
  (repeat' first | split | dsimp only)
  all_goals simp
@[simp] theorem State.outputRestart_gov (x : OutId) (s : State) : (State.outputRestart x s).gov = s.gov := by
  unfold State.outputRestart
  (repeat' first | split | dsimp only)
  all_goals simp
@[simp] theorem State.outputRestart_notice (x : OutId) (s : State) : (State.outputRestart x s).notice = s.notice := by
  unfold State.outputRestart
  (repeat' first | split | dsimp only)
  all_goals simp
@[simp] theorem State.outputRestart_pending (x : OutId) (s : State) : (State.outputRestart x s).pending = s.pending := by
  unfold State.outputRestart
  (repeat' first | split | dsimp only)
  all_goals simp
@[simp] theorem State.setUntaken_recs (d : Dir) (l : List Txn) (s : State) : (State.setUntaken d l s).recs = s.recs := by
  unfold State.setUntaken
  (repeat' first | split | dsimp only)
  all_goals simp
@[simp] theorem State.setUntaken_ring (d : Dir) (l : List Txn) (s : State) : (State.setUntaken d l s).ring = s.ring := by
  unfold State.setUntaken
  (repeat' first | split | dsimp only)
  all_goals simp
@[simp] theorem State.setUntaken_slots (d : Dir) (l : List Txn) (s : State) : (State.setUntaken d l s).slots = s.slots := by
  unfold State.setUntaken
  (repeat' first | split | dsimp only)
  all_goals simp
@[simp] theorem State.setUntaken_cap (d : Dir) (l : List Txn) (s : State) : (State.setUntaken d l s).cap = s.cap := by
  unfold State.setUntaken
  (repeat' first | split | dsimp only)
  all_goals simp
@[simp] theorem State.setUntaken_mon (d : Dir) (l : List Txn) (s : State) : (State.setUntaken d l s).mon = s.mon := by
  unfold State.setUntaken
  (repeat' first | split | dsimp only)
  all_goals simp
@[simp] theorem State.setUntaken_outA (d : Dir) (l : List Txn) (s : State) : (State.setUntaken d l s).outA = s.outA := by
  unfold State.setUntaken
  (repeat' first | split | dsimp only)
  all_goals simp
@[simp] theorem State.setUntaken_outB (d : Dir) (l : List Txn) (s : State) : (State.setUntaken d l s).outB = s.outB := by
  unfold State.setUntaken
  (repeat' first | split | dsimp only)
  all_goals simp
@[simp] theorem State.setUntaken_store (d : Dir) (l : List Txn) (s : State) : (State.setUntaken d l s).store = s.store := by
  unfold State.setUntaken
  (repeat' first | split | dsimp only)
  all_goals simp
@[simp] theorem State.setUntaken_gov (d : Dir) (l : List Txn) (s : State) : (State.setUntaken d l s).gov = s.gov := by
  unfold State.setUntaken
  (repeat' first | split | dsimp only)
  all_goals simp
@[simp] theorem State.setUntaken_notice (d : Dir) (l : List Txn) (s : State) : (State.setUntaken d l s).notice = s.notice := by
  unfold State.setUntaken
  (repeat' first | split | dsimp only)
  all_goals simp
@[simp] theorem State.setUntaken_pending (d : Dir) (l : List Txn) (s : State) : (State.setUntaken d l s).pending = s.pending := by
  unfold State.setUntaken
  (repeat' first | split | dsimp only)
  all_goals simp
@[simp] theorem State.holdUntaken_recs (t : Txn) (s : State) : (State.holdUntaken t s).recs = s.recs := by
  unfold State.holdUntaken
  (repeat' first | split | dsimp only)
  all_goals simp
@[simp] theorem State.holdUntaken_ring (t : Txn) (s : State) : (State.holdUntaken t s).ring = s.ring := by
  unfold State.holdUntaken
  (repeat' first | split | dsimp only)
  all_goals simp
@[simp] theorem State.holdUntaken_slots (t : Txn) (s : State) : (State.holdUntaken t s).slots = s.slots := by
  unfold State.holdUntaken
  (repeat' first | split | dsimp only)
  all_goals simp
@[simp] theorem State.holdUntaken_cap (t : Txn) (s : State) : (State.holdUntaken t s).cap = s.cap := by
  unfold State.holdUntaken
  (repeat' first | split | dsimp only)
  all_goals simp
@[simp] theorem State.holdUntaken_mon (t : Txn) (s : State) : (State.holdUntaken t s).mon = s.mon := by
  unfold State.holdUntaken
  (repeat' first | split | dsimp only)
  all_goals simp
@[simp] theorem State.holdUntaken_outA (t : Txn) (s : State) : (State.holdUntaken t s).outA = s.outA := by
  unfold State.holdUntaken
  (repeat' first | split | dsimp only)
  all_goals simp
@[simp] theorem State.holdUntaken_outB (t : Txn) (s : State) : (State.holdUntaken t s).outB = s.outB := by
  unfold State.holdUntaken
  (repeat' first | split | dsimp only)
  all_goals simp
@[simp] theorem State.holdUntaken_store (t : Txn) (s : State) : (State.holdUntaken t s).store = s.store := by
  unfold State.holdUntaken
  (repeat' first | split | dsimp only)
  all_goals simp
@[simp] theorem State.holdUntaken_gov (t : Txn) (s : State) : (State.holdUntaken t s).gov = s.gov := by
  unfold State.holdUntaken
  (repeat' first | split | dsimp only)
  all_goals simp
@[simp] theorem State.holdUntaken_notice (t : Txn) (s : State) : (State.holdUntaken t s).notice = s.notice := by
  unfold State.holdUntaken
  (repeat' first | split | dsimp only)
  all_goals simp
@[simp] theorem State.holdUntaken_pending (t : Txn) (s : State) : (State.holdUntaken t s).pending = s.pending := by
  unfold State.holdUntaken
  (repeat' first | split | dsimp only)
  all_goals simp
@[simp] theorem State.leaveUntaken_recs (t : Txn) (s : State) : (State.leaveUntaken t s).recs = s.recs := by
  simp [State.leaveUntaken]
@[simp] theorem State.leaveUntaken_ring (t : Txn) (s : State) : (State.leaveUntaken t s).ring = s.ring := by
  simp [State.leaveUntaken]
@[simp] theorem State.leaveUntaken_slots (t : Txn) (s : State) : (State.leaveUntaken t s).slots = s.slots := by
  simp [State.leaveUntaken]
@[simp] theorem State.leaveUntaken_cap (t : Txn) (s : State) : (State.leaveUntaken t s).cap = s.cap := by
  simp [State.leaveUntaken]
@[simp] theorem State.leaveUntaken_mon (t : Txn) (s : State) : (State.leaveUntaken t s).mon = s.mon := by
  simp [State.leaveUntaken]
@[simp] theorem State.leaveUntaken_outA (t : Txn) (s : State) : (State.leaveUntaken t s).outA = s.outA := by
  simp [State.leaveUntaken]
@[simp] theorem State.leaveUntaken_outB (t : Txn) (s : State) : (State.leaveUntaken t s).outB = s.outB := by
  simp [State.leaveUntaken]
@[simp] theorem State.leaveUntaken_store (t : Txn) (s : State) : (State.leaveUntaken t s).store = s.store := by
  simp [State.leaveUntaken]
@[simp] theorem State.leaveUntaken_gov (t : Txn) (s : State) : (State.leaveUntaken t s).gov = s.gov := by
  simp [State.leaveUntaken]
@[simp] theorem State.leaveUntaken_notice (t : Txn) (s : State) : (State.leaveUntaken t s).notice = s.notice := by
  simp [State.leaveUntaken]
@[simp] theorem State.leaveUntaken_pending (t : Txn) (s : State) : (State.leaveUntaken t s).pending = s.pending := by
  simp [State.leaveUntaken]
@[simp] theorem State.enqueue_recs (t : Txn) (addr : Nat) (s : State) : (State.enqueue t addr s).recs = s.recs := by
  simp [State.enqueue]
@[simp] theorem State.enqueue_ring (t : Txn) (addr : Nat) (s : State) : (State.enqueue t addr s).ring = s.ring := by
  simp [State.enqueue]
@[simp] theorem State.enqueue_slots (t : Txn) (addr : Nat) (s : State) : (State.enqueue t addr s).slots = s.slots := by
  simp [State.enqueue]
@[simp] theorem State.enqueue_cap (t : Txn) (addr : Nat) (s : State) : (State.enqueue t addr s).cap = s.cap := by
  simp [State.enqueue]
@[simp] theorem State.enqueue_mon (t : Txn) (addr : Nat) (s : State) : (State.enqueue t addr s).mon = s.mon := by
  simp [State.enqueue]
@[simp] theorem State.enqueue_outA (t : Txn) (addr : Nat) (s : State) : (State.enqueue t addr s).outA = s.outA := by
  simp [State.enqueue]
@[simp] theorem State.enqueue_outB (t : Txn) (addr : Nat) (s : State) : (State.enqueue t addr s).outB = s.outB := by
  simp [State.enqueue]
@[simp] theorem State.enqueue_store (t : Txn) (addr : Nat) (s : State) : (State.enqueue t addr s).store = s.store := by
  simp [State.enqueue]
@[simp] theorem State.enqueue_gov (t : Txn) (addr : Nat) (s : State) : (State.enqueue t addr s).gov = s.gov := by
  simp [State.enqueue]
@[simp] theorem State.enqueue_notice (t : Txn) (addr : Nat) (s : State) : (State.enqueue t addr s).notice = s.notice := by
  simp [State.enqueue]
@[simp] theorem State.enqueue_pending (t : Txn) (addr : Nat) (s : State) : (State.enqueue t addr s).pending = s.pending := by
  simp [State.enqueue]
@[simp] theorem State.forward_recs (t : Txn) (s : State) : (State.forward t s).recs = s.recs := by
  simp [State.forward]
@[simp] theorem State.forward_ring (t : Txn) (s : State) : (State.forward t s).ring = s.ring := by
  simp [State.forward]
@[simp] theorem State.forward_slots (t : Txn) (s : State) : (State.forward t s).slots = s.slots := by
  simp [State.forward]
@[simp] theorem State.forward_cap (t : Txn) (s : State) : (State.forward t s).cap = s.cap := by
  simp [State.forward]
@[simp] theorem State.forward_mon (t : Txn) (s : State) : (State.forward t s).mon = s.mon := by
  simp [State.forward]
@[simp] theorem State.forward_outA (t : Txn) (s : State) : (State.forward t s).outA = s.outA := by
  simp [State.forward]
@[simp] theorem State.forward_outB (t : Txn) (s : State) : (State.forward t s).outB = s.outB := by
  simp [State.forward]
@[simp] theorem State.forward_store (t : Txn) (s : State) : (State.forward t s).store = s.store := by
  simp [State.forward]
@[simp] theorem State.forward_gov (t : Txn) (s : State) : (State.forward t s).gov = s.gov := by
  simp [State.forward]
@[simp] theorem State.forward_notice (t : Txn) (s : State) : (State.forward t s).notice = s.notice := by
  simp [State.forward]
@[simp] theorem State.forward_pending (t : Txn) (s : State) : (State.forward t s).pending = s.pending := by
  simp [State.forward]
@[simp] theorem State.otherwise_recs (t : Txn) (s : State) : (State.otherwise t s).recs = s.recs := by
  unfold State.otherwise State.present
  (repeat' first | split | dsimp only)
  all_goals simp
@[simp] theorem State.otherwise_ring (t : Txn) (s : State) : (State.otherwise t s).ring = s.ring := by
  unfold State.otherwise State.present
  (repeat' first | split | dsimp only)
  all_goals simp
@[simp] theorem State.otherwise_slots (t : Txn) (s : State) : (State.otherwise t s).slots = s.slots := by
  unfold State.otherwise State.present
  (repeat' first | split | dsimp only)
  all_goals simp
@[simp] theorem State.otherwise_cap (t : Txn) (s : State) : (State.otherwise t s).cap = s.cap := by
  unfold State.otherwise State.present
  (repeat' first | split | dsimp only)
  all_goals simp
@[simp] theorem State.otherwise_mon (t : Txn) (s : State) : (State.otherwise t s).mon = s.mon := by
  unfold State.otherwise State.present
  (repeat' first | split | dsimp only)
  all_goals simp
@[simp] theorem State.otherwise_outA (t : Txn) (s : State) : (State.otherwise t s).outA = s.outA := by
  unfold State.otherwise State.present
  (repeat' first | split | dsimp only)
  all_goals simp
@[simp] theorem State.otherwise_outB (t : Txn) (s : State) : (State.otherwise t s).outB = s.outB := by
  unfold State.otherwise State.present
  (repeat' first | split | dsimp only)
  all_goals simp
@[simp] theorem State.otherwise_store (t : Txn) (s : State) : (State.otherwise t s).store = s.store := by
  unfold State.otherwise State.present
  (repeat' first | split | dsimp only)
  all_goals simp
@[simp] theorem State.otherwise_gov (t : Txn) (s : State) : (State.otherwise t s).gov = s.gov := by
  unfold State.otherwise State.present
  (repeat' first | split | dsimp only)
  all_goals simp
@[simp] theorem State.otherwise_notice (t : Txn) (s : State) : (State.otherwise t s).notice = s.notice := by
  unfold State.otherwise State.present
  (repeat' first | split | dsimp only)
  all_goals simp
@[simp] theorem State.otherwise_pending (t : Txn) (s : State) : (State.otherwise t s).pending = s.pending := by
  unfold State.otherwise State.present
  (repeat' first | split | dsimp only)
  all_goals simp
@[simp] theorem State.relayOne_recs (e : FwdEntry) (r : Resp) (data : List Byte) (s : State) : (State.relayOne e r data s).recs = s.recs := by
  simp [State.relayOne]
@[simp] theorem State.relayOne_ring (e : FwdEntry) (r : Resp) (data : List Byte) (s : State) : (State.relayOne e r data s).ring = s.ring := by
  simp [State.relayOne]
@[simp] theorem State.relayOne_slots (e : FwdEntry) (r : Resp) (data : List Byte) (s : State) : (State.relayOne e r data s).slots = s.slots := by
  simp [State.relayOne]
@[simp] theorem State.relayOne_cap (e : FwdEntry) (r : Resp) (data : List Byte) (s : State) : (State.relayOne e r data s).cap = s.cap := by
  simp [State.relayOne]
@[simp] theorem State.relayOne_mon (e : FwdEntry) (r : Resp) (data : List Byte) (s : State) : (State.relayOne e r data s).mon = s.mon := by
  simp [State.relayOne]
@[simp] theorem State.relayOne_outA (e : FwdEntry) (r : Resp) (data : List Byte) (s : State) : (State.relayOne e r data s).outA = s.outA := by
  simp [State.relayOne]
@[simp] theorem State.relayOne_outB (e : FwdEntry) (r : Resp) (data : List Byte) (s : State) : (State.relayOne e r data s).outB = s.outB := by
  simp [State.relayOne]
@[simp] theorem State.relayOne_store (e : FwdEntry) (r : Resp) (data : List Byte) (s : State) : (State.relayOne e r data s).store = s.store := by
  simp [State.relayOne]
@[simp] theorem State.relayOne_gov (e : FwdEntry) (r : Resp) (data : List Byte) (s : State) : (State.relayOne e r data s).gov = s.gov := by
  simp [State.relayOne]
@[simp] theorem State.relayOne_notice (e : FwdEntry) (r : Resp) (data : List Byte) (s : State) : (State.relayOne e r data s).notice = s.notice := by
  simp [State.relayOne]
@[simp] theorem State.relayOne_pending (e : FwdEntry) (r : Resp) (data : List Byte) (s : State) : (State.relayOne e r data s).pending = s.pending := by
  simp [State.relayOne]
@[simp] theorem State.relay_recs (d : Dir) (n : Nat) (s : State) : (State.relay d n s).recs = s.recs := by
  induction n generalizing s with
  | zero => simp [State.relay]
  | succ n ih => 
    unfold State.relay
    (repeat' first | split | dsimp only)
    all_goals simp [ih]
@[simp] theorem State.relay_ring (d : Dir) (n : Nat) (s : State) : (State.relay d n s).ring = s.ring := by
  induction n generalizing s with
  | zero => simp [State.relay]
  | succ n ih => 
    unfold State.relay
    (repeat' first | split | dsimp only)
    all_goals simp [ih]
@[simp] theorem State.relay_slots (d : Dir) (n : Nat) (s : State) : (State.relay d n s).slots = s.slots := by
  induction n generalizing s with
  | zero => simp [State.relay]
  | succ n ih => 
    unfold State.relay
    (repeat' first | split | dsimp only)
    all_goals simp [ih]
@[simp] theorem State.relay_cap (d : Dir) (n : Nat) (s : State) : (State.relay d n s).cap = s.cap := by
  induction n generalizing s with
  | zero => simp [State.relay]
  | succ n ih => 
    unfold State.relay
    (repeat' first | split | dsimp only)
    all_goals simp [ih]
@[simp] theorem State.relay_mon (d : Dir) (n : Nat) (s : State) : (State.relay d n s).mon = s.mon := by
  induction n generalizing s with
  | zero => simp [State.relay]
  | succ n ih => 
    unfold State.relay
    (repeat' first | split | dsimp only)
    all_goals simp [ih]
@[simp] theorem State.relay_outA (d : Dir) (n : Nat) (s : State) : (State.relay d n s).outA = s.outA := by
  induction n generalizing s with
  | zero => simp [State.relay]
  | succ n ih => 
    unfold State.relay
    (repeat' first | split | dsimp only)
    all_goals simp [ih]
@[simp] theorem State.relay_outB (d : Dir) (n : Nat) (s : State) : (State.relay d n s).outB = s.outB := by
  induction n generalizing s with
  | zero => simp [State.relay]
  | succ n ih => 
    unfold State.relay
    (repeat' first | split | dsimp only)
    all_goals simp [ih]
@[simp] theorem State.relay_store (d : Dir) (n : Nat) (s : State) : (State.relay d n s).store = s.store := by
  induction n generalizing s with
  | zero => simp [State.relay]
  | succ n ih => 
    unfold State.relay
    (repeat' first | split | dsimp only)
    all_goals simp [ih]
@[simp] theorem State.relay_gov (d : Dir) (n : Nat) (s : State) : (State.relay d n s).gov = s.gov := by
  induction n generalizing s with
  | zero => simp [State.relay]
  | succ n ih => 
    unfold State.relay
    (repeat' first | split | dsimp only)
    all_goals simp [ih]
@[simp] theorem State.relay_notice (d : Dir) (n : Nat) (s : State) : (State.relay d n s).notice = s.notice := by
  induction n generalizing s with
  | zero => simp [State.relay]
  | succ n ih => 
    unfold State.relay
    (repeat' first | split | dsimp only)
    all_goals simp [ih]
@[simp] theorem State.relay_pending (d : Dir) (n : Nat) (s : State) : (State.relay d n s).pending = s.pending := by
  induction n generalizing s with
  | zero => simp [State.relay]
  | succ n ih => 
    unfold State.relay
    (repeat' first | split | dsimp only)
    all_goals simp [ih]
@[simp] theorem State.responded_recs (e : FwdEntry) (r : Resp) (data : List Byte) (s : State) : (State.responded e r data s).recs = s.recs := by
  simp [State.responded]
@[simp] theorem State.responded_ring (e : FwdEntry) (r : Resp) (data : List Byte) (s : State) : (State.responded e r data s).ring = s.ring := by
  simp [State.responded]
@[simp] theorem State.responded_slots (e : FwdEntry) (r : Resp) (data : List Byte) (s : State) : (State.responded e r data s).slots = s.slots := by
  simp [State.responded]
@[simp] theorem State.responded_cap (e : FwdEntry) (r : Resp) (data : List Byte) (s : State) : (State.responded e r data s).cap = s.cap := by
  simp [State.responded]
@[simp] theorem State.responded_mon (e : FwdEntry) (r : Resp) (data : List Byte) (s : State) : (State.responded e r data s).mon = s.mon := by
  simp [State.responded]
@[simp] theorem State.responded_outA (e : FwdEntry) (r : Resp) (data : List Byte) (s : State) : (State.responded e r data s).outA = s.outA := by
  simp [State.responded]
@[simp] theorem State.responded_outB (e : FwdEntry) (r : Resp) (data : List Byte) (s : State) : (State.responded e r data s).outB = s.outB := by
  simp [State.responded]
@[simp] theorem State.responded_store (e : FwdEntry) (r : Resp) (data : List Byte) (s : State) : (State.responded e r data s).store = s.store := by
  simp [State.responded]
@[simp] theorem State.responded_gov (e : FwdEntry) (r : Resp) (data : List Byte) (s : State) : (State.responded e r data s).gov = s.gov := by
  simp [State.responded]
@[simp] theorem State.responded_notice (e : FwdEntry) (r : Resp) (data : List Byte) (s : State) : (State.responded e r data s).notice = s.notice := by
  simp [State.responded]
@[simp] theorem State.responded_pending (e : FwdEntry) (r : Resp) (data : List Byte) (s : State) : (State.responded e r data s).pending = s.pending := by
  simp [State.responded]
@[simp] theorem State.chromaError_ring (e : FwdEntry) (s : State) : (State.chromaError e s).ring = s.ring := by
  unfold State.chromaError
  (repeat' first | split | dsimp only)
  all_goals simp
@[simp] theorem State.chromaError_pending (e : FwdEntry) (s : State) : (State.chromaError e s).pending = s.pending := by
  unfold State.chromaError
  (repeat' first | split | dsimp only)
  all_goals simp

end Sys2Proof.Machine
end

