-- ==== Sys2Proof/Laws/FramesCapture.lean ====
section
/-! SUPPORT. Frames of the capture side, the arbiter, the ring and RESTART: the blocks each operation leaves as they are. -/

namespace Sys2Proof.Machine

@[simp] theorem State.fillRequest_path (s : State) : (State.fillRequest s).path = s.path := by
  unfold State.fillRequest
  (repeat' first | split | dsimp only)
  all_goals simp
@[simp] theorem State.fillRequest_ring (s : State) : (State.fillRequest s).ring = s.ring := by
  unfold State.fillRequest
  (repeat' first | split | dsimp only)
  all_goals simp
@[simp] theorem State.fillRequest_mon (s : State) : (State.fillRequest s).mon = s.mon := by
  unfold State.fillRequest
  (repeat' first | split | dsimp only)
  all_goals simp
@[simp] theorem State.fillRequest_outA (s : State) : (State.fillRequest s).outA = s.outA := by
  unfold State.fillRequest
  (repeat' first | split | dsimp only)
  all_goals simp
@[simp] theorem State.fillRequest_outB (s : State) : (State.fillRequest s).outB = s.outB := by
  unfold State.fillRequest
  (repeat' first | split | dsimp only)
  all_goals simp
@[simp] theorem State.fillRequest_store (s : State) : (State.fillRequest s).store = s.store := by
  unfold State.fillRequest
  (repeat' first | split | dsimp only)
  all_goals simp
@[simp] theorem State.fillRequest_gov (s : State) : (State.fillRequest s).gov = s.gov := by
  unfold State.fillRequest
  (repeat' first | split | dsimp only)
  all_goals simp
@[simp] theorem State.fillRequest_pending (s : State) : (State.fillRequest s).pending = s.pending := by
  unfold State.fillRequest
  (repeat' first | split | dsimp only)
  all_goals simp
@[simp] theorem State.captureFrameEnd_path (die : Int) (s : State) : (State.captureFrameEnd die s).path = s.path := by
  simp [State.captureFrameEnd]
@[simp] theorem State.captureFrameEnd_ring (die : Int) (s : State) : (State.captureFrameEnd die s).ring = s.ring := by
  simp [State.captureFrameEnd]
@[simp] theorem State.captureFrameEnd_slots (die : Int) (s : State) : (State.captureFrameEnd die s).slots = s.slots := by
  simp [State.captureFrameEnd]
@[simp] theorem State.captureFrameEnd_cap (die : Int) (s : State) : (State.captureFrameEnd die s).cap = s.cap := by
  simp [State.captureFrameEnd]
@[simp] theorem State.captureFrameEnd_mon (die : Int) (s : State) : (State.captureFrameEnd die s).mon = s.mon := by
  simp [State.captureFrameEnd]
@[simp] theorem State.captureFrameEnd_outA (die : Int) (s : State) : (State.captureFrameEnd die s).outA = s.outA := by
  simp [State.captureFrameEnd]
@[simp] theorem State.captureFrameEnd_outB (die : Int) (s : State) : (State.captureFrameEnd die s).outB = s.outB := by
  simp [State.captureFrameEnd]
@[simp] theorem State.captureFrameEnd_pending (die : Int) (s : State) : (State.captureFrameEnd die s).pending = s.pending := by
  simp [State.captureFrameEnd]
@[simp] theorem State.updateWhiteMap_path (s : State) : (State.updateWhiteMap s).path = s.path := by
  unfold State.updateWhiteMap
  (repeat' first | split | dsimp only)
  all_goals simp
@[simp] theorem State.updateWhiteMap_recs (s : State) : (State.updateWhiteMap s).recs = s.recs := by
  unfold State.updateWhiteMap
  (repeat' first | split | dsimp only)
  all_goals simp
@[simp] theorem State.updateWhiteMap_ring (s : State) : (State.updateWhiteMap s).ring = s.ring := by
  unfold State.updateWhiteMap
  (repeat' first | split | dsimp only)
  all_goals simp
@[simp] theorem State.updateWhiteMap_slots (s : State) : (State.updateWhiteMap s).slots = s.slots := by
  unfold State.updateWhiteMap
  (repeat' first | split | dsimp only)
  all_goals simp
@[simp] theorem State.updateWhiteMap_mon (s : State) : (State.updateWhiteMap s).mon = s.mon := by
  unfold State.updateWhiteMap
  (repeat' first | split | dsimp only)
  all_goals simp
@[simp] theorem State.updateWhiteMap_outA (s : State) : (State.updateWhiteMap s).outA = s.outA := by
  unfold State.updateWhiteMap
  (repeat' first | split | dsimp only)
  all_goals simp
@[simp] theorem State.updateWhiteMap_outB (s : State) : (State.updateWhiteMap s).outB = s.outB := by
  unfold State.updateWhiteMap
  (repeat' first | split | dsimp only)
  all_goals simp
@[simp] theorem State.updateWhiteMap_store (s : State) : (State.updateWhiteMap s).store = s.store := by
  unfold State.updateWhiteMap
  (repeat' first | split | dsimp only)
  all_goals simp
@[simp] theorem State.updateWhiteMap_gov (s : State) : (State.updateWhiteMap s).gov = s.gov := by
  unfold State.updateWhiteMap
  (repeat' first | split | dsimp only)
  all_goals simp
@[simp] theorem State.updateWhiteMap_notice (s : State) : (State.updateWhiteMap s).notice = s.notice := by
  unfold State.updateWhiteMap
  (repeat' first | split | dsimp only)
  all_goals simp
@[simp] theorem State.updateWhiteMap_pending (s : State) : (State.updateWhiteMap s).pending = s.pending := by
  unfold State.updateWhiteMap
  (repeat' first | split | dsimp only)
  all_goals simp
@[simp] theorem State.giveSignature_path (s : State) : (State.giveSignature s).path = s.path := by
  unfold State.giveSignature
  (repeat' first | split | dsimp only)
  all_goals simp
@[simp] theorem State.giveSignature_ring (s : State) : (State.giveSignature s).ring = s.ring := by
  unfold State.giveSignature
  (repeat' first | split | dsimp only)
  all_goals simp
@[simp] theorem State.giveSignature_cap (s : State) : (State.giveSignature s).cap = s.cap := by
  unfold State.giveSignature
  (repeat' first | split | dsimp only)
  all_goals simp
@[simp] theorem State.giveSignature_store (s : State) : (State.giveSignature s).store = s.store := by
  unfold State.giveSignature
  (repeat' first | split | dsimp only)
  all_goals simp
@[simp] theorem State.giveSignature_gov (s : State) : (State.giveSignature s).gov = s.gov := by
  unfold State.giveSignature
  (repeat' first | split | dsimp only)
  all_goals simp
@[simp] theorem State.giveSignature_pending (s : State) : (State.giveSignature s).pending = s.pending := by
  unfold State.giveSignature
  (repeat' first | split | dsimp only)
  all_goals simp
@[simp] theorem State.frameEnded_path (die : Int) (s : State) : (State.frameEnded die s).path = s.path := by
  simp [State.frameEnded]
@[simp] theorem State.frameEnded_ring (die : Int) (s : State) : (State.frameEnded die s).ring = s.ring := by
  simp [State.frameEnded]
@[simp] theorem State.frameEnded_pending (die : Int) (s : State) : (State.frameEnded die s).pending = s.pending := by
  simp [State.frameEnded]
@[simp] theorem State.degradeFrame_path (s : State) : (State.degradeFrame s).path = s.path := by
  unfold State.degradeFrame
  (repeat' first | split | dsimp only)
  all_goals simp
@[simp] theorem State.degradeFrame_ring (s : State) : (State.degradeFrame s).ring = s.ring := by
  unfold State.degradeFrame
  (repeat' first | split | dsimp only)
  all_goals simp
@[simp] theorem State.degradeFrame_mon (s : State) : (State.degradeFrame s).mon = s.mon := by
  unfold State.degradeFrame
  (repeat' first | split | dsimp only)
  all_goals simp
@[simp] theorem State.degradeFrame_outA (s : State) : (State.degradeFrame s).outA = s.outA := by
  unfold State.degradeFrame
  (repeat' first | split | dsimp only)
  all_goals simp
@[simp] theorem State.degradeFrame_outB (s : State) : (State.degradeFrame s).outB = s.outB := by
  unfold State.degradeFrame
  (repeat' first | split | dsimp only)
  all_goals simp
@[simp] theorem State.degradeFrame_store (s : State) : (State.degradeFrame s).store = s.store := by
  unfold State.degradeFrame
  (repeat' first | split | dsimp only)
  all_goals simp
@[simp] theorem State.degradeFrame_gov (s : State) : (State.degradeFrame s).gov = s.gov := by
  unfold State.degradeFrame
  (repeat' first | split | dsimp only)
  all_goals simp
@[simp] theorem State.degradeFrame_pending (s : State) : (State.degradeFrame s).pending = s.pending := by
  unfold State.degradeFrame
  (repeat' first | split | dsimp only)
  all_goals simp
@[simp] theorem State.tearFrame_path (s : State) : (State.tearFrame s).path = s.path := by
  simp [State.tearFrame]
@[simp] theorem State.tearFrame_recs (s : State) : (State.tearFrame s).recs = s.recs := by
  simp [State.tearFrame]
@[simp] theorem State.tearFrame_ring (s : State) : (State.tearFrame s).ring = s.ring := by
  simp [State.tearFrame]
@[simp] theorem State.tearFrame_mon (s : State) : (State.tearFrame s).mon = s.mon := by
  simp [State.tearFrame]
@[simp] theorem State.tearFrame_outA (s : State) : (State.tearFrame s).outA = s.outA := by
  simp [State.tearFrame]
@[simp] theorem State.tearFrame_outB (s : State) : (State.tearFrame s).outB = s.outB := by
  simp [State.tearFrame]
@[simp] theorem State.tearFrame_store (s : State) : (State.tearFrame s).store = s.store := by
  simp [State.tearFrame]
@[simp] theorem State.tearFrame_gov (s : State) : (State.tearFrame s).gov = s.gov := by
  simp [State.tearFrame]
@[simp] theorem State.tearFrame_notice (s : State) : (State.tearFrame s).notice = s.notice := by
  simp [State.tearFrame]
@[simp] theorem State.tearFrame_pending (s : State) : (State.tearFrame s).pending = s.pending := by
  simp [State.tearFrame]
@[simp] theorem State.tearEnded_path (die : Int) (s : State) : (State.tearEnded die s).path = s.path := by
  simp [State.tearEnded]
@[simp] theorem State.tearEnded_ring (die : Int) (s : State) : (State.tearEnded die s).ring = s.ring := by
  simp [State.tearEnded]
@[simp] theorem State.tearEnded_slots (die : Int) (s : State) : (State.tearEnded die s).slots = s.slots := by
  simp [State.tearEnded]
@[simp] theorem State.tearEnded_mon (die : Int) (s : State) : (State.tearEnded die s).mon = s.mon := by
  simp [State.tearEnded]
@[simp] theorem State.tearEnded_outA (die : Int) (s : State) : (State.tearEnded die s).outA = s.outA := by
  simp [State.tearEnded]
@[simp] theorem State.tearEnded_outB (die : Int) (s : State) : (State.tearEnded die s).outB = s.outB := by
  simp [State.tearEnded]
@[simp] theorem State.tearEnded_pending (die : Int) (s : State) : (State.tearEnded die s).pending = s.pending := by
  simp [State.tearEnded]
@[simp] theorem State.finishStop_path (s : State) : (State.finishStop s).path = s.path := by
  simp [State.finishStop]
@[simp] theorem State.finishStop_store (s : State) : (State.finishStop s).store = s.store := by
  simp [State.finishStop]
@[simp] theorem State.finishStop_gov (s : State) : (State.finishStop s).gov = s.gov := by
  simp [State.finishStop]
@[simp] theorem State.finishStop_notice (s : State) : (State.finishStop s).notice = s.notice := by
  simp [State.finishStop]
@[simp] theorem State.finishStop_pending (s : State) : (State.finishStop s).pending = s.pending := by
  simp [State.finishStop]
@[simp] theorem State.finishStopping_path (s : State) : (State.finishStopping s).path = s.path := by
  unfold State.finishStopping
  (repeat' first | split | dsimp only)
  all_goals simp
@[simp] theorem State.finishStopping_store (s : State) : (State.finishStopping s).store = s.store := by
  unfold State.finishStopping
  (repeat' first | split | dsimp only)
  all_goals simp
@[simp] theorem State.finishStopping_gov (s : State) : (State.finishStopping s).gov = s.gov := by
  unfold State.finishStopping
  (repeat' first | split | dsimp only)
  all_goals simp
@[simp] theorem State.finishStopping_notice (s : State) : (State.finishStopping s).notice = s.notice := by
  unfold State.finishStopping
  (repeat' first | split | dsimp only)
  all_goals simp
@[simp] theorem State.finishStopping_pending (s : State) : (State.finishStopping s).pending = s.pending := by
  unfold State.finishStopping
  (repeat' first | split | dsimp only)
  all_goals simp
@[simp] theorem State.breakOrder_path (g : CapGeom) (s : State) : (State.breakOrder g s).path = s.path := by
  unfold State.breakOrder
  (repeat' first | split | dsimp only)
  all_goals simp
@[simp] theorem State.breakOrder_ring (g : CapGeom) (s : State) : (State.breakOrder g s).ring = s.ring := by
  unfold State.breakOrder
  (repeat' first | split | dsimp only)
  all_goals simp
@[simp] theorem State.breakOrder_mon (g : CapGeom) (s : State) : (State.breakOrder g s).mon = s.mon := by
  unfold State.breakOrder
  (repeat' first | split | dsimp only)
  all_goals simp
@[simp] theorem State.breakOrder_outA (g : CapGeom) (s : State) : (State.breakOrder g s).outA = s.outA := by
  unfold State.breakOrder
  (repeat' first | split | dsimp only)
  all_goals simp
@[simp] theorem State.breakOrder_outB (g : CapGeom) (s : State) : (State.breakOrder g s).outB = s.outB := by
  unfold State.breakOrder
  (repeat' first | split | dsimp only)
  all_goals simp
@[simp] theorem State.breakOrder_store (g : CapGeom) (s : State) : (State.breakOrder g s).store = s.store := by
  unfold State.breakOrder
  (repeat' first | split | dsimp only)
  all_goals simp
@[simp] theorem State.breakOrder_gov (g : CapGeom) (s : State) : (State.breakOrder g s).gov = s.gov := by
  unfold State.breakOrder
  (repeat' first | split | dsimp only)
  all_goals simp
@[simp] theorem State.breakOrder_pending (g : CapGeom) (s : State) : (State.breakOrder g s).pending = s.pending := by
  unfold State.breakOrder
  (repeat' first | split | dsimp only)
  all_goals simp
@[simp] theorem State.redirectChroma_recs (t : Txn) (addr : Nat) (chroma : List Byte) (s : State) : (State.redirectChroma t addr chroma s).recs = s.recs := by
  simp [State.redirectChroma]
@[simp] theorem State.redirectChroma_ring (t : Txn) (addr : Nat) (chroma : List Byte) (s : State) : (State.redirectChroma t addr chroma s).ring = s.ring := by
  simp [State.redirectChroma]
@[simp] theorem State.redirectChroma_slots (t : Txn) (addr : Nat) (chroma : List Byte) (s : State) : (State.redirectChroma t addr chroma s).slots = s.slots := by
  simp [State.redirectChroma]
@[simp] theorem State.redirectChroma_cap (t : Txn) (addr : Nat) (chroma : List Byte) (s : State) : (State.redirectChroma t addr chroma s).cap = s.cap := by
  simp [State.redirectChroma]
@[simp] theorem State.redirectChroma_mon (t : Txn) (addr : Nat) (chroma : List Byte) (s : State) : (State.redirectChroma t addr chroma s).mon = s.mon := by
  simp [State.redirectChroma]
@[simp] theorem State.redirectChroma_outA (t : Txn) (addr : Nat) (chroma : List Byte) (s : State) : (State.redirectChroma t addr chroma s).outA = s.outA := by
  simp [State.redirectChroma]
@[simp] theorem State.redirectChroma_outB (t : Txn) (addr : Nat) (chroma : List Byte) (s : State) : (State.redirectChroma t addr chroma s).outB = s.outB := by
  simp [State.redirectChroma]
@[simp] theorem State.redirectChroma_store (t : Txn) (addr : Nat) (chroma : List Byte) (s : State) : (State.redirectChroma t addr chroma s).store = s.store := by
  simp [State.redirectChroma]
@[simp] theorem State.redirectChroma_gov (t : Txn) (addr : Nat) (chroma : List Byte) (s : State) : (State.redirectChroma t addr chroma s).gov = s.gov := by
  simp [State.redirectChroma]
@[simp] theorem State.redirectChroma_notice (t : Txn) (addr : Nat) (chroma : List Byte) (s : State) : (State.redirectChroma t addr chroma s).notice = s.notice := by
  simp [State.redirectChroma]
@[simp] theorem State.redirectChroma_pending (t : Txn) (addr : Nat) (chroma : List Byte) (s : State) : (State.redirectChroma t addr chroma s).pending = s.pending := by
  simp [State.redirectChroma]
@[simp] theorem State.answerWrite_recs (t : Txn) (g : CapGeom) (off : Nat) (s : State) : (State.answerWrite t g off s).recs = s.recs := by
  unfold State.answerWrite
  (repeat' first | split | dsimp only)
  all_goals simp
@[simp] theorem State.answerWrite_ring (t : Txn) (g : CapGeom) (off : Nat) (s : State) : (State.answerWrite t g off s).ring = s.ring := by
  unfold State.answerWrite
  (repeat' first | split | dsimp only)
  all_goals simp
@[simp] theorem State.answerWrite_slots (t : Txn) (g : CapGeom) (off : Nat) (s : State) : (State.answerWrite t g off s).slots = s.slots := by
  unfold State.answerWrite
  (repeat' first | split | dsimp only)
  all_goals simp
@[simp] theorem State.answerWrite_cap (t : Txn) (g : CapGeom) (off : Nat) (s : State) : (State.answerWrite t g off s).cap = s.cap := by
  unfold State.answerWrite
  (repeat' first | split | dsimp only)
  all_goals simp
@[simp] theorem State.answerWrite_mon (t : Txn) (g : CapGeom) (off : Nat) (s : State) : (State.answerWrite t g off s).mon = s.mon := by
  unfold State.answerWrite
  (repeat' first | split | dsimp only)
  all_goals simp
@[simp] theorem State.answerWrite_outA (t : Txn) (g : CapGeom) (off : Nat) (s : State) : (State.answerWrite t g off s).outA = s.outA := by
  unfold State.answerWrite
  (repeat' first | split | dsimp only)
  all_goals simp
@[simp] theorem State.answerWrite_outB (t : Txn) (g : CapGeom) (off : Nat) (s : State) : (State.answerWrite t g off s).outB = s.outB := by
  unfold State.answerWrite
  (repeat' first | split | dsimp only)
  all_goals simp
@[simp] theorem State.answerWrite_store (t : Txn) (g : CapGeom) (off : Nat) (s : State) : (State.answerWrite t g off s).store = s.store := by
  unfold State.answerWrite
  (repeat' first | split | dsimp only)
  all_goals simp
@[simp] theorem State.answerWrite_gov (t : Txn) (g : CapGeom) (off : Nat) (s : State) : (State.answerWrite t g off s).gov = s.gov := by
  unfold State.answerWrite
  (repeat' first | split | dsimp only)
  all_goals simp
@[simp] theorem State.answerWrite_notice (t : Txn) (g : CapGeom) (off : Nat) (s : State) : (State.answerWrite t g off s).notice = s.notice := by
  unfold State.answerWrite
  (repeat' first | split | dsimp only)
  all_goals simp
@[simp] theorem State.answerWrite_pending (t : Txn) (g : CapGeom) (off : Nat) (s : State) : (State.answerWrite t g off s).pending = s.pending := by
  unfold State.answerWrite
  (repeat' first | split | dsimp only)
  all_goals simp
@[simp] theorem State.receiptEnd_path (g : CapGeom) (endOff : Nat) (die : Int) (s : State) : (State.receiptEnd g endOff die s).path = s.path := by
  unfold State.receiptEnd
  (repeat' first | split | dsimp only)
  all_goals simp
@[simp] theorem State.receiptEnd_ring (g : CapGeom) (endOff : Nat) (die : Int) (s : State) : (State.receiptEnd g endOff die s).ring = s.ring := by
  unfold State.receiptEnd
  (repeat' first | split | dsimp only)
  all_goals simp
@[simp] theorem State.receiptEnd_pending (g : CapGeom) (endOff : Nat) (die : Int) (s : State) : (State.receiptEnd g endOff die s).pending = s.pending := by
  unfold State.receiptEnd
  (repeat' first | split | dsimp only)
  all_goals simp
@[simp] theorem State.frameWrite_ring (t : Txn) (g : CapGeom) (off : Nat) (die : Int) (s : State) : (State.frameWrite t g off die s).ring = s.ring := by
  unfold State.frameWrite
  (repeat' first | split | dsimp only)
  all_goals simp
@[simp] theorem State.frameWrite_pending (t : Txn) (g : CapGeom) (off : Nat) (die : Int) (s : State) : (State.frameWrite t g off die s).pending = s.pending := by
  unfold State.frameWrite
  (repeat' first | split | dsimp only)
  all_goals simp
@[simp] theorem State.strayWrite_ring (t : Txn) (s : State) : (State.strayWrite t s).ring = s.ring := by
  simp [State.strayWrite]
@[simp] theorem State.strayWrite_slots (t : Txn) (s : State) : (State.strayWrite t s).slots = s.slots := by
  simp [State.strayWrite]
@[simp] theorem State.strayWrite_cap (t : Txn) (s : State) : (State.strayWrite t s).cap = s.cap := by
  simp [State.strayWrite]
@[simp] theorem State.strayWrite_mon (t : Txn) (s : State) : (State.strayWrite t s).mon = s.mon := by
  simp [State.strayWrite]
@[simp] theorem State.strayWrite_outA (t : Txn) (s : State) : (State.strayWrite t s).outA = s.outA := by
  simp [State.strayWrite]
@[simp] theorem State.strayWrite_outB (t : Txn) (s : State) : (State.strayWrite t s).outB = s.outB := by
  simp [State.strayWrite]
@[simp] theorem State.strayWrite_store (t : Txn) (s : State) : (State.strayWrite t s).store = s.store := by
  simp [State.strayWrite]
@[simp] theorem State.strayWrite_gov (t : Txn) (s : State) : (State.strayWrite t s).gov = s.gov := by
  simp [State.strayWrite]
@[simp] theorem State.strayWrite_pending (t : Txn) (s : State) : (State.strayWrite t s).pending = s.pending := by
  simp [State.strayWrite]
@[simp] theorem State.startFrame_path (s : State) : (State.startFrame s).path = s.path := by
  simp [State.startFrame]
@[simp] theorem State.startFrame_ring (s : State) : (State.startFrame s).ring = s.ring := by
  simp [State.startFrame]
@[simp] theorem State.startFrame_mon (s : State) : (State.startFrame s).mon = s.mon := by
  simp [State.startFrame]
@[simp] theorem State.startFrame_outA (s : State) : (State.startFrame s).outA = s.outA := by
  simp [State.startFrame]
@[simp] theorem State.startFrame_outB (s : State) : (State.startFrame s).outB = s.outB := by
  simp [State.startFrame]
@[simp] theorem State.startFrame_store (s : State) : (State.startFrame s).store = s.store := by
  simp [State.startFrame]
@[simp] theorem State.startFrame_gov (s : State) : (State.startFrame s).gov = s.gov := by
  simp [State.startFrame]
@[simp] theorem State.startFrame_pending (s : State) : (State.startFrame s).pending = s.pending := by
  simp [State.startFrame]
@[simp] theorem State.captureWrite_ring (t : Txn) (g : CapGeom) (off : Nat) (die : Int) (s : State) : (State.captureWrite t g off die s).ring = s.ring := by
  unfold State.captureWrite State.present
  (repeat' first | split | dsimp only)
  all_goals simp
@[simp] theorem State.captureWrite_pending (t : Txn) (g : CapGeom) (off : Nat) (die : Int) (s : State) : (State.captureWrite t g off die s).pending = s.pending := by
  unfold State.captureWrite State.present
  (repeat' first | split | dsimp only)
  all_goals simp
@[simp] theorem State.frameStart_ring (t : Txn) (g : CapGeom) (die : Int) (s : State) : (State.frameStart t g die s).ring = s.ring := by
  unfold State.frameStart State.present
  (repeat' first | split | dsimp only)
  all_goals simp
@[simp] theorem State.frameStart_pending (t : Txn) (g : CapGeom) (die : Int) (s : State) : (State.frameStart t g die s).pending = s.pending := by
  unfold State.frameStart State.present
  (repeat' first | split | dsimp only)
  all_goals simp
@[simp] theorem State.lumaError_ring (addr : Nat) (s : State) : (State.lumaError addr s).ring = s.ring := by
  unfold State.lumaError
  (repeat' first | split | dsimp only)
  all_goals simp
@[simp] theorem State.lumaError_pending (addr : Nat) (s : State) : (State.lumaError addr s).pending = s.pending := by
  unfold State.lumaError
  (repeat' first | split | dsimp only)
  all_goals simp
@[simp] theorem State.takeConfigure_path (g : CapGeom) (slotBase : Nat) (s : State) : (State.takeConfigure g slotBase s).path = s.path := by
  simp [State.takeConfigure]
@[simp] theorem State.takeConfigure_recs (g : CapGeom) (slotBase : Nat) (s : State) : (State.takeConfigure g slotBase s).recs = s.recs := by
  simp [State.takeConfigure]
@[simp] theorem State.takeConfigure_ring (g : CapGeom) (slotBase : Nat) (s : State) : (State.takeConfigure g slotBase s).ring = s.ring := by
  simp [State.takeConfigure]
@[simp] theorem State.takeConfigure_mon (g : CapGeom) (slotBase : Nat) (s : State) : (State.takeConfigure g slotBase s).mon = s.mon := by
  simp [State.takeConfigure]
@[simp] theorem State.takeConfigure_outA (g : CapGeom) (slotBase : Nat) (s : State) : (State.takeConfigure g slotBase s).outA = s.outA := by
  simp [State.takeConfigure]
@[simp] theorem State.takeConfigure_outB (g : CapGeom) (slotBase : Nat) (s : State) : (State.takeConfigure g slotBase s).outB = s.outB := by
  simp [State.takeConfigure]
@[simp] theorem State.takeConfigure_store (g : CapGeom) (slotBase : Nat) (s : State) : (State.takeConfigure g slotBase s).store = s.store := by
  simp [State.takeConfigure]
@[simp] theorem State.takeConfigure_gov (g : CapGeom) (slotBase : Nat) (s : State) : (State.takeConfigure g slotBase s).gov = s.gov := by
  simp [State.takeConfigure]
@[simp] theorem State.takeConfigure_notice (g : CapGeom) (slotBase : Nat) (s : State) : (State.takeConfigure g slotBase s).notice = s.notice := by
  simp [State.takeConfigure]
@[simp] theorem State.takeConfigure_pending (g : CapGeom) (slotBase : Nat) (s : State) : (State.takeConfigure g slotBase s).pending = s.pending := by
  simp [State.takeConfigure]
@[simp] theorem State.takeStop_path (die : Int) (s : State) : (State.takeStop die s).path = s.path := by
  unfold State.takeStop
  (repeat' first | split | dsimp only)
  all_goals simp
@[simp] theorem State.takeStop_pending (die : Int) (s : State) : (State.takeStop die s).pending = s.pending := by
  unfold State.takeStop
  (repeat' first | split | dsimp only)
  all_goals simp
@[simp] theorem State.captureRestart_path (die : Int) (s : State) : (State.captureRestart die s).path = s.path := by
  unfold State.captureRestart
  (repeat' first | split | dsimp only)
  all_goals simp
@[simp] theorem State.captureRestart_ring (die : Int) (s : State) : (State.captureRestart die s).ring = s.ring := by
  unfold State.captureRestart
  (repeat' first | split | dsimp only)
  all_goals simp
@[simp] theorem State.captureRestart_mon (die : Int) (s : State) : (State.captureRestart die s).mon = s.mon := by
  unfold State.captureRestart
  (repeat' first | split | dsimp only)
  all_goals simp
@[simp] theorem State.captureRestart_outA (die : Int) (s : State) : (State.captureRestart die s).outA = s.outA := by
  unfold State.captureRestart
  (repeat' first | split | dsimp only)
  all_goals simp
@[simp] theorem State.captureRestart_outB (die : Int) (s : State) : (State.captureRestart die s).outB = s.outB := by
  unfold State.captureRestart
  (repeat' first | split | dsimp only)
  all_goals simp
@[simp] theorem State.captureRestart_pending (die : Int) (s : State) : (State.captureRestart die s).pending = s.pending := by
  unfold State.captureRestart
  (repeat' first | split | dsimp only)
  all_goals simp
@[simp] theorem State.grantRecord_path (s : State) : (State.grantRecord s).path = s.path := by
  unfold State.grantRecord
  (repeat' first | split | dsimp only)
  all_goals simp
@[simp] theorem State.grantRecord_ring (s : State) : (State.grantRecord s).ring = s.ring := by
  unfold State.grantRecord
  (repeat' first | split | dsimp only)
  all_goals simp
@[simp] theorem State.grantRecord_slots (s : State) : (State.grantRecord s).slots = s.slots := by
  unfold State.grantRecord
  (repeat' first | split | dsimp only)
  all_goals simp
@[simp] theorem State.grantRecord_cap (s : State) : (State.grantRecord s).cap = s.cap := by
  unfold State.grantRecord
  (repeat' first | split | dsimp only)
  all_goals simp
@[simp] theorem State.grantRecord_mon (s : State) : (State.grantRecord s).mon = s.mon := by
  unfold State.grantRecord
  (repeat' first | split | dsimp only)
  all_goals simp
@[simp] theorem State.grantRecord_outA (s : State) : (State.grantRecord s).outA = s.outA := by
  unfold State.grantRecord
  (repeat' first | split | dsimp only)
  all_goals simp
@[simp] theorem State.grantRecord_outB (s : State) : (State.grantRecord s).outB = s.outB := by
  unfold State.grantRecord
  (repeat' first | split | dsimp only)
  all_goals simp
@[simp] theorem State.grantRecord_store (s : State) : (State.grantRecord s).store = s.store := by
  unfold State.grantRecord
  (repeat' first | split | dsimp only)
  all_goals simp
@[simp] theorem State.grantRecord_gov (s : State) : (State.grantRecord s).gov = s.gov := by
  unfold State.grantRecord
  (repeat' first | split | dsimp only)
  all_goals simp
@[simp] theorem State.grantRecord_notice (s : State) : (State.grantRecord s).notice = s.notice := by
  unfold State.grantRecord
  (repeat' first | split | dsimp only)
  all_goals simp
@[simp] theorem State.grantRecord_pending (s : State) : (State.grantRecord s).pending = s.pending := by
  unfold State.grantRecord
  (repeat' first | split | dsimp only)
  all_goals simp
@[simp] theorem State.issue_ring (k : GrantClass) (s : State) : (State.issue k s).ring = s.ring := by
  unfold State.issue
  (repeat' first | split | dsimp only)
  all_goals simp
@[simp] theorem State.issue_slots (k : GrantClass) (s : State) : (State.issue k s).slots = s.slots := by
  unfold State.issue
  (repeat' first | split | dsimp only)
  all_goals simp
@[simp] theorem State.issue_mon (k : GrantClass) (s : State) : (State.issue k s).mon = s.mon := by
  unfold State.issue
  (repeat' first | split | dsimp only)
  all_goals simp
@[simp] theorem State.issue_gov (k : GrantClass) (s : State) : (State.issue k s).gov = s.gov := by
  unfold State.issue
  (repeat' first | split | dsimp only)
  all_goals simp
@[simp] theorem State.issue_notice (k : GrantClass) (s : State) : (State.issue k s).notice = s.notice := by
  unfold State.issue
  (repeat' first | split | dsimp only)
  all_goals simp
@[simp] theorem State.issue_pending (k : GrantClass) (s : State) : (State.issue k s).pending = s.pending := by
  unfold State.issue
  (repeat' first | split | dsimp only)
  all_goals simp
@[simp] theorem State.grant_ring (k : GrantClass) (s : State) : (State.grant k s).ring = s.ring := by
  unfold State.grant
  (repeat' first | split | dsimp only)
  all_goals simp
@[simp] theorem State.grant_slots (k : GrantClass) (s : State) : (State.grant k s).slots = s.slots := by
  unfold State.grant
  (repeat' first | split | dsimp only)
  all_goals simp
@[simp] theorem State.grant_mon (k : GrantClass) (s : State) : (State.grant k s).mon = s.mon := by
  unfold State.grant
  (repeat' first | split | dsimp only)
  all_goals simp
@[simp] theorem State.grant_gov (k : GrantClass) (s : State) : (State.grant k s).gov = s.gov := by
  unfold State.grant
  (repeat' first | split | dsimp only)
  all_goals simp
@[simp] theorem State.grant_notice (k : GrantClass) (s : State) : (State.grant k s).notice = s.notice := by
  unfold State.grant
  (repeat' first | split | dsimp only)
  all_goals simp
@[simp] theorem State.grant_pending (k : GrantClass) (s : State) : (State.grant k s).pending = s.pending := by
  unfold State.grant
  (repeat' first | split | dsimp only)
  all_goals simp
@[simp] theorem State.raiseFetch_path (s : State) : (State.raiseFetch s).path = s.path := by
  simp [State.raiseFetch]
@[simp] theorem State.raiseFetch_slots (s : State) : (State.raiseFetch s).slots = s.slots := by
  simp [State.raiseFetch]
@[simp] theorem State.raiseFetch_cap (s : State) : (State.raiseFetch s).cap = s.cap := by
  simp [State.raiseFetch]
@[simp] theorem State.raiseFetch_mon (s : State) : (State.raiseFetch s).mon = s.mon := by
  simp [State.raiseFetch]
@[simp] theorem State.raiseFetch_outA (s : State) : (State.raiseFetch s).outA = s.outA := by
  simp [State.raiseFetch]
@[simp] theorem State.raiseFetch_outB (s : State) : (State.raiseFetch s).outB = s.outB := by
  simp [State.raiseFetch]
@[simp] theorem State.raiseFetch_store (s : State) : (State.raiseFetch s).store = s.store := by
  simp [State.raiseFetch]
@[simp] theorem State.raiseFetch_gov (s : State) : (State.raiseFetch s).gov = s.gov := by
  simp [State.raiseFetch]
@[simp] theorem State.raiseFetch_notice (s : State) : (State.raiseFetch s).notice = s.notice := by
  simp [State.raiseFetch]
@[simp] theorem State.raiseFetch_pending (s : State) : (State.raiseFetch s).pending = s.pending := by
  simp [State.raiseFetch]
@[simp] theorem State.refuseSubmit_path (s : State) : (State.refuseSubmit s).path = s.path := by
  simp [State.refuseSubmit]
@[simp] theorem State.refuseSubmit_slots (s : State) : (State.refuseSubmit s).slots = s.slots := by
  simp [State.refuseSubmit]
@[simp] theorem State.refuseSubmit_cap (s : State) : (State.refuseSubmit s).cap = s.cap := by
  simp [State.refuseSubmit]
@[simp] theorem State.refuseSubmit_mon (s : State) : (State.refuseSubmit s).mon = s.mon := by
  simp [State.refuseSubmit]
@[simp] theorem State.refuseSubmit_outA (s : State) : (State.refuseSubmit s).outA = s.outA := by
  simp [State.refuseSubmit]
@[simp] theorem State.refuseSubmit_outB (s : State) : (State.refuseSubmit s).outB = s.outB := by
  simp [State.refuseSubmit]
@[simp] theorem State.refuseSubmit_store (s : State) : (State.refuseSubmit s).store = s.store := by
  simp [State.refuseSubmit]
@[simp] theorem State.refuseSubmit_gov (s : State) : (State.refuseSubmit s).gov = s.gov := by
  simp [State.refuseSubmit]
@[simp] theorem State.refuseSubmit_notice (s : State) : (State.refuseSubmit s).notice = s.notice := by
  simp [State.refuseSubmit]
@[simp] theorem State.refuseSubmit_pending (s : State) : (State.refuseSubmit s).pending = s.pending := by
  simp [State.refuseSubmit]
@[simp] theorem State.takeSubmit_path (v : Nat) (s : State) : (State.takeSubmit v s).path = s.path := by
  unfold State.takeSubmit
  (repeat' first | split | dsimp only)
  all_goals simp
@[simp] theorem State.takeSubmit_slots (v : Nat) (s : State) : (State.takeSubmit v s).slots = s.slots := by
  unfold State.takeSubmit
  (repeat' first | split | dsimp only)
  all_goals simp
@[simp] theorem State.takeSubmit_cap (v : Nat) (s : State) : (State.takeSubmit v s).cap = s.cap := by
  unfold State.takeSubmit
  (repeat' first | split | dsimp only)
  all_goals simp
@[simp] theorem State.takeSubmit_mon (v : Nat) (s : State) : (State.takeSubmit v s).mon = s.mon := by
  unfold State.takeSubmit
  (repeat' first | split | dsimp only)
  all_goals simp
@[simp] theorem State.takeSubmit_outA (v : Nat) (s : State) : (State.takeSubmit v s).outA = s.outA := by
  unfold State.takeSubmit
  (repeat' first | split | dsimp only)
  all_goals simp
@[simp] theorem State.takeSubmit_outB (v : Nat) (s : State) : (State.takeSubmit v s).outB = s.outB := by
  unfold State.takeSubmit
  (repeat' first | split | dsimp only)
  all_goals simp
@[simp] theorem State.takeSubmit_store (v : Nat) (s : State) : (State.takeSubmit v s).store = s.store := by
  unfold State.takeSubmit
  (repeat' first | split | dsimp only)
  all_goals simp
@[simp] theorem State.takeSubmit_gov (v : Nat) (s : State) : (State.takeSubmit v s).gov = s.gov := by
  unfold State.takeSubmit
  (repeat' first | split | dsimp only)
  all_goals simp
@[simp] theorem State.takeSubmit_notice (v : Nat) (s : State) : (State.takeSubmit v s).notice = s.notice := by
  unfold State.takeSubmit
  (repeat' first | split | dsimp only)
  all_goals simp
@[simp] theorem State.takeSubmit_pending (v : Nat) (s : State) : (State.takeSubmit v s).pending = s.pending := by
  unfold State.takeSubmit
  (repeat' first | split | dsimp only)
  all_goals simp
@[simp] theorem State.fetchFailed_path (addr : Nat) (s : State) : (State.fetchFailed addr s).path = s.path := by
  simp [State.fetchFailed]
@[simp] theorem State.fetchFailed_slots (addr : Nat) (s : State) : (State.fetchFailed addr s).slots = s.slots := by
  simp [State.fetchFailed]
@[simp] theorem State.fetchFailed_cap (addr : Nat) (s : State) : (State.fetchFailed addr s).cap = s.cap := by
  simp [State.fetchFailed]
@[simp] theorem State.fetchFailed_mon (addr : Nat) (s : State) : (State.fetchFailed addr s).mon = s.mon := by
  simp [State.fetchFailed]
@[simp] theorem State.fetchFailed_outA (addr : Nat) (s : State) : (State.fetchFailed addr s).outA = s.outA := by
  simp [State.fetchFailed]
@[simp] theorem State.fetchFailed_outB (addr : Nat) (s : State) : (State.fetchFailed addr s).outB = s.outB := by
  simp [State.fetchFailed]
@[simp] theorem State.fetchFailed_store (addr : Nat) (s : State) : (State.fetchFailed addr s).store = s.store := by
  simp [State.fetchFailed]
@[simp] theorem State.fetchFailed_gov (addr : Nat) (s : State) : (State.fetchFailed addr s).gov = s.gov := by
  simp [State.fetchFailed]
@[simp] theorem State.fetchFailed_pending (addr : Nat) (s : State) : (State.fetchFailed addr s).pending = s.pending := by
  simp [State.fetchFailed]
@[simp] theorem State.dispatch_path (data : List Byte) (s : State) : (State.dispatch data s).path = s.path := by
  simp [State.dispatch]
@[simp] theorem State.dispatch_recs (data : List Byte) (s : State) : (State.dispatch data s).recs = s.recs := by
  simp [State.dispatch]
@[simp] theorem State.dispatch_slots (data : List Byte) (s : State) : (State.dispatch data s).slots = s.slots := by
  simp [State.dispatch]
@[simp] theorem State.dispatch_cap (data : List Byte) (s : State) : (State.dispatch data s).cap = s.cap := by
  simp [State.dispatch]
@[simp] theorem State.dispatch_mon (data : List Byte) (s : State) : (State.dispatch data s).mon = s.mon := by
  simp [State.dispatch]
@[simp] theorem State.dispatch_outA (data : List Byte) (s : State) : (State.dispatch data s).outA = s.outA := by
  simp [State.dispatch]
@[simp] theorem State.dispatch_outB (data : List Byte) (s : State) : (State.dispatch data s).outB = s.outB := by
  simp [State.dispatch]
@[simp] theorem State.dispatch_store (data : List Byte) (s : State) : (State.dispatch data s).store = s.store := by
  simp [State.dispatch]
@[simp] theorem State.dispatch_gov (data : List Byte) (s : State) : (State.dispatch data s).gov = s.gov := by
  simp [State.dispatch]
@[simp] theorem State.dispatch_notice (data : List Byte) (s : State) : (State.dispatch data s).notice = s.notice := by
  simp [State.dispatch]
@[simp] theorem State.dispatch_pending (data : List Byte) (s : State) : (State.dispatch data s).pending = s.pending := by
  simp [State.dispatch]
@[simp] theorem State.retire_path (i : Nat) (rec : List Byte) (s : State) : (State.retire i rec s).path = s.path := by
  unfold State.retire
  (repeat' first | split | dsimp only)
  all_goals simp
@[simp] theorem State.retire_slots (i : Nat) (rec : List Byte) (s : State) : (State.retire i rec s).slots = s.slots := by
  unfold State.retire
  (repeat' first | split | dsimp only)
  all_goals simp
@[simp] theorem State.retire_cap (i : Nat) (rec : List Byte) (s : State) : (State.retire i rec s).cap = s.cap := by
  unfold State.retire
  (repeat' first | split | dsimp only)
  all_goals simp
@[simp] theorem State.retire_mon (i : Nat) (rec : List Byte) (s : State) : (State.retire i rec s).mon = s.mon := by
  unfold State.retire
  (repeat' first | split | dsimp only)
  all_goals simp
@[simp] theorem State.retire_outA (i : Nat) (rec : List Byte) (s : State) : (State.retire i rec s).outA = s.outA := by
  unfold State.retire
  (repeat' first | split | dsimp only)
  all_goals simp
@[simp] theorem State.retire_outB (i : Nat) (rec : List Byte) (s : State) : (State.retire i rec s).outB = s.outB := by
  unfold State.retire
  (repeat' first | split | dsimp only)
  all_goals simp
@[simp] theorem State.retire_store (i : Nat) (rec : List Byte) (s : State) : (State.retire i rec s).store = s.store := by
  unfold State.retire
  (repeat' first | split | dsimp only)
  all_goals simp
@[simp] theorem State.retire_gov (i : Nat) (rec : List Byte) (s : State) : (State.retire i rec s).gov = s.gov := by
  unfold State.retire
  (repeat' first | split | dsimp only)
  all_goals simp
@[simp] theorem State.retire_pending (i : Nat) (rec : List Byte) (s : State) : (State.retire i rec s).pending = s.pending := by
  unfold State.retire
  (repeat' first | split | dsimp only)
  all_goals simp
@[simp] theorem State.statusWriteReturned_path (i : Nat) (s : State) : (State.statusWriteReturned i s).path = s.path := by
  unfold State.statusWriteReturned
  (repeat' first | split | dsimp only)
  all_goals simp
@[simp] theorem State.statusWriteReturned_slots (i : Nat) (s : State) : (State.statusWriteReturned i s).slots = s.slots := by
  unfold State.statusWriteReturned
  (repeat' first | split | dsimp only)
  all_goals simp
@[simp] theorem State.statusWriteReturned_cap (i : Nat) (s : State) : (State.statusWriteReturned i s).cap = s.cap := by
  unfold State.statusWriteReturned
  (repeat' first | split | dsimp only)
  all_goals simp
@[simp] theorem State.statusWriteReturned_mon (i : Nat) (s : State) : (State.statusWriteReturned i s).mon = s.mon := by
  unfold State.statusWriteReturned
  (repeat' first | split | dsimp only)
  all_goals simp
@[simp] theorem State.statusWriteReturned_outA (i : Nat) (s : State) : (State.statusWriteReturned i s).outA = s.outA := by
  unfold State.statusWriteReturned
  (repeat' first | split | dsimp only)
  all_goals simp
@[simp] theorem State.statusWriteReturned_outB (i : Nat) (s : State) : (State.statusWriteReturned i s).outB = s.outB := by
  unfold State.statusWriteReturned
  (repeat' first | split | dsimp only)
  all_goals simp
@[simp] theorem State.statusWriteReturned_store (i : Nat) (s : State) : (State.statusWriteReturned i s).store = s.store := by
  unfold State.statusWriteReturned
  (repeat' first | split | dsimp only)
  all_goals simp
@[simp] theorem State.statusWriteReturned_gov (i : Nat) (s : State) : (State.statusWriteReturned i s).gov = s.gov := by
  unfold State.statusWriteReturned
  (repeat' first | split | dsimp only)
  all_goals simp
@[simp] theorem State.statusWriteReturned_pending (i : Nat) (s : State) : (State.statusWriteReturned i s).pending = s.pending := by
  unfold State.statusWriteReturned
  (repeat' first | split | dsimp only)
  all_goals simp
@[simp] theorem State.latched_path (k : LatchId) (addr : Nat) (r : Resp) (s : State) : (State.latched k addr r s).path = s.path := by
  unfold State.latched
  (repeat' first | split | dsimp only)
  all_goals simp
@[simp] theorem State.latched_ring (k : LatchId) (addr : Nat) (r : Resp) (s : State) : (State.latched k addr r s).ring = s.ring := by
  unfold State.latched
  (repeat' first | split | dsimp only)
  all_goals simp
@[simp] theorem State.latched_slots (k : LatchId) (addr : Nat) (r : Resp) (s : State) : (State.latched k addr r s).slots = s.slots := by
  unfold State.latched
  (repeat' first | split | dsimp only)
  all_goals simp
@[simp] theorem State.latched_cap (k : LatchId) (addr : Nat) (r : Resp) (s : State) : (State.latched k addr r s).cap = s.cap := by
  unfold State.latched
  (repeat' first | split | dsimp only)
  all_goals simp
@[simp] theorem State.latched_mon (k : LatchId) (addr : Nat) (r : Resp) (s : State) : (State.latched k addr r s).mon = s.mon := by
  unfold State.latched
  (repeat' first | split | dsimp only)
  all_goals simp
@[simp] theorem State.latched_outA (k : LatchId) (addr : Nat) (r : Resp) (s : State) : (State.latched k addr r s).outA = s.outA := by
  unfold State.latched
  (repeat' first | split | dsimp only)
  all_goals simp
@[simp] theorem State.latched_outB (k : LatchId) (addr : Nat) (r : Resp) (s : State) : (State.latched k addr r s).outB = s.outB := by
  unfold State.latched
  (repeat' first | split | dsimp only)
  all_goals simp
@[simp] theorem State.latched_store (k : LatchId) (addr : Nat) (r : Resp) (s : State) : (State.latched k addr r s).store = s.store := by
  unfold State.latched
  (repeat' first | split | dsimp only)
  all_goals simp
@[simp] theorem State.latched_gov (k : LatchId) (addr : Nat) (r : Resp) (s : State) : (State.latched k addr r s).gov = s.gov := by
  unfold State.latched
  (repeat' first | split | dsimp only)
  all_goals simp
@[simp] theorem State.latched_pending (k : LatchId) (addr : Nat) (r : Resp) (s : State) : (State.latched k addr r s).pending = s.pending := by
  unfold State.latched
  (repeat' first | split | dsimp only)
  all_goals simp
@[simp] theorem State.writeReturned_slots (t : Target) (addr : Nat) (r : Resp) (s : State) : (State.writeReturned t addr r s).slots = s.slots := by
  unfold State.writeReturned
  (repeat' first | split | dsimp only)
  all_goals simp
@[simp] theorem State.writeReturned_mon (t : Target) (addr : Nat) (r : Resp) (s : State) : (State.writeReturned t addr r s).mon = s.mon := by
  unfold State.writeReturned
  (repeat' first | split | dsimp only)
  all_goals simp
@[simp] theorem State.writeReturned_gov (t : Target) (addr : Nat) (r : Resp) (s : State) : (State.writeReturned t addr r s).gov = s.gov := by
  unfold State.writeReturned
  (repeat' first | split | dsimp only)
  all_goals simp
@[simp] theorem State.writeReturned_pending (t : Target) (addr : Nat) (r : Resp) (s : State) : (State.writeReturned t addr r s).pending = s.pending := by
  unfold State.writeReturned
  (repeat' first | split | dsimp only)
  all_goals simp
@[simp] theorem State.recordResponse_slots (which : RecFlight → Bool) (r : Resp) (s : State) : (State.recordResponse which r s).slots = s.slots := by
  unfold State.recordResponse
  (repeat' first | split | dsimp only)
  all_goals simp
@[simp] theorem State.recordResponse_mon (which : RecFlight → Bool) (r : Resp) (s : State) : (State.recordResponse which r s).mon = s.mon := by
  unfold State.recordResponse
  (repeat' first | split | dsimp only)
  all_goals simp
@[simp] theorem State.recordResponse_gov (which : RecFlight → Bool) (r : Resp) (s : State) : (State.recordResponse which r s).gov = s.gov := by
  unfold State.recordResponse
  (repeat' first | split | dsimp only)
  all_goals simp
@[simp] theorem State.recordResponse_pending (which : RecFlight → Bool) (r : Resp) (s : State) : (State.recordResponse which r s).pending = s.pending := by
  unfold State.recordResponse
  (repeat' first | split | dsimp only)
  all_goals simp
@[simp] theorem State.acknowledge_path (v : BitVec 32) (s : State) : (State.acknowledge v s).path = s.path := by
  unfold State.acknowledge
  (repeat' first | split | dsimp only)
  all_goals simp
@[simp] theorem State.acknowledge_ring (v : BitVec 32) (s : State) : (State.acknowledge v s).ring = s.ring := by
  unfold State.acknowledge
  (repeat' first | split | dsimp only)
  all_goals simp
@[simp] theorem State.acknowledge_slots (v : BitVec 32) (s : State) : (State.acknowledge v s).slots = s.slots := by
  unfold State.acknowledge
  (repeat' first | split | dsimp only)
  all_goals simp
@[simp] theorem State.acknowledge_cap (v : BitVec 32) (s : State) : (State.acknowledge v s).cap = s.cap := by
  unfold State.acknowledge
  (repeat' first | split | dsimp only)
  all_goals simp
@[simp] theorem State.acknowledge_mon (v : BitVec 32) (s : State) : (State.acknowledge v s).mon = s.mon := by
  unfold State.acknowledge
  (repeat' first | split | dsimp only)
  all_goals simp
@[simp] theorem State.acknowledge_outA (v : BitVec 32) (s : State) : (State.acknowledge v s).outA = s.outA := by
  unfold State.acknowledge
  (repeat' first | split | dsimp only)
  all_goals simp
@[simp] theorem State.acknowledge_outB (v : BitVec 32) (s : State) : (State.acknowledge v s).outB = s.outB := by
  unfold State.acknowledge
  (repeat' first | split | dsimp only)
  all_goals simp
@[simp] theorem State.acknowledge_store (v : BitVec 32) (s : State) : (State.acknowledge v s).store = s.store := by
  unfold State.acknowledge
  (repeat' first | split | dsimp only)
  all_goals simp
@[simp] theorem State.acknowledge_gov (v : BitVec 32) (s : State) : (State.acknowledge v s).gov = s.gov := by
  unfold State.acknowledge
  (repeat' first | split | dsimp only)
  all_goals simp
@[simp] theorem State.acknowledge_pending (v : BitVec 32) (s : State) : (State.acknowledge v s).pending = s.pending := by
  unfold State.acknowledge
  (repeat' first | split | dsimp only)
  all_goals simp
@[simp] theorem State.noticeReadSeen_path (s : State) : (State.noticeReadSeen s).path = s.path := by
  unfold State.noticeReadSeen
  (repeat' first | split | dsimp only)
  all_goals simp
@[simp] theorem State.noticeReadSeen_recs (s : State) : (State.noticeReadSeen s).recs = s.recs := by
  unfold State.noticeReadSeen
  (repeat' first | split | dsimp only)
  all_goals simp
@[simp] theorem State.noticeReadSeen_ring (s : State) : (State.noticeReadSeen s).ring = s.ring := by
  unfold State.noticeReadSeen
  (repeat' first | split | dsimp only)
  all_goals simp
@[simp] theorem State.noticeReadSeen_slots (s : State) : (State.noticeReadSeen s).slots = s.slots := by
  unfold State.noticeReadSeen
  (repeat' first | split | dsimp only)
  all_goals simp
@[simp] theorem State.noticeReadSeen_cap (s : State) : (State.noticeReadSeen s).cap = s.cap := by
  unfold State.noticeReadSeen
  (repeat' first | split | dsimp only)
  all_goals simp
@[simp] theorem State.noticeReadSeen_mon (s : State) : (State.noticeReadSeen s).mon = s.mon := by
  unfold State.noticeReadSeen
  (repeat' first | split | dsimp only)
  all_goals simp
@[simp] theorem State.noticeReadSeen_outA (s : State) : (State.noticeReadSeen s).outA = s.outA := by
  unfold State.noticeReadSeen
  (repeat' first | split | dsimp only)
  all_goals simp
@[simp] theorem State.noticeReadSeen_outB (s : State) : (State.noticeReadSeen s).outB = s.outB := by
  unfold State.noticeReadSeen
  (repeat' first | split | dsimp only)
  all_goals simp
@[simp] theorem State.noticeReadSeen_store (s : State) : (State.noticeReadSeen s).store = s.store := by
  unfold State.noticeReadSeen
  (repeat' first | split | dsimp only)
  all_goals simp
@[simp] theorem State.noticeReadSeen_gov (s : State) : (State.noticeReadSeen s).gov = s.gov := by
  unfold State.noticeReadSeen
  (repeat' first | split | dsimp only)
  all_goals simp
@[simp] theorem State.noticeReadSeen_pending (s : State) : (State.noticeReadSeen s).pending = s.pending := by
  unfold State.noticeReadSeen
  (repeat' first | split | dsimp only)
  all_goals simp
@[simp] theorem State.hand_path (o : Obs) (s : State) : (State.hand o s).path = s.path := by
  unfold State.hand
  (repeat' first | split | dsimp only)
  all_goals simp
@[simp] theorem State.hand_slots (o : Obs) (s : State) : (State.hand o s).slots = s.slots := by
  unfold State.hand
  (repeat' first | split | dsimp only)
  all_goals simp
@[simp] theorem State.hand_cap (o : Obs) (s : State) : (State.hand o s).cap = s.cap := by
  unfold State.hand
  (repeat' first | split | dsimp only)
  all_goals simp
@[simp] theorem State.hand_mon (o : Obs) (s : State) : (State.hand o s).mon = s.mon := by
  unfold State.hand
  (repeat' first | split | dsimp only)
  all_goals simp
@[simp] theorem State.hand_outA (o : Obs) (s : State) : (State.hand o s).outA = s.outA := by
  unfold State.hand
  (repeat' first | split | dsimp only)
  all_goals simp
@[simp] theorem State.hand_outB (o : Obs) (s : State) : (State.hand o s).outB = s.outB := by
  unfold State.hand
  (repeat' first | split | dsimp only)
  all_goals simp
@[simp] theorem State.hand_store (o : Obs) (s : State) : (State.hand o s).store = s.store := by
  unfold State.hand
  (repeat' first | split | dsimp only)
  all_goals simp
@[simp] theorem State.hand_pending (o : Obs) (s : State) : (State.hand o s).pending = s.pending := by
  unfold State.hand
  (repeat' first | split | dsimp only)
  all_goals simp
@[simp] theorem State.handEach_path (l : List Obs) (s : State) : (State.handEach l s).path = s.path := by
  induction l generalizing s with
  | nil => simp [State.handEach]
  | cons a l ih => 
    unfold State.handEach
    all_goals simp [ih]
@[simp] theorem State.handEach_slots (l : List Obs) (s : State) : (State.handEach l s).slots = s.slots := by
  induction l generalizing s with
  | nil => simp [State.handEach]
  | cons a l ih => 
    unfold State.handEach
    all_goals simp [ih]
@[simp] theorem State.handEach_cap (l : List Obs) (s : State) : (State.handEach l s).cap = s.cap := by
  induction l generalizing s with
  | nil => simp [State.handEach]
  | cons a l ih => 
    unfold State.handEach
    all_goals simp [ih]
@[simp] theorem State.handEach_mon (l : List Obs) (s : State) : (State.handEach l s).mon = s.mon := by
  induction l generalizing s with
  | nil => simp [State.handEach]
  | cons a l ih => 
    unfold State.handEach
    all_goals simp [ih]
@[simp] theorem State.handEach_outA (l : List Obs) (s : State) : (State.handEach l s).outA = s.outA := by
  induction l generalizing s with
  | nil => simp [State.handEach]
  | cons a l ih => 
    unfold State.handEach
    all_goals simp [ih]
@[simp] theorem State.handEach_outB (l : List Obs) (s : State) : (State.handEach l s).outB = s.outB := by
  induction l generalizing s with
  | nil => simp [State.handEach]
  | cons a l ih => 
    unfold State.handEach
    all_goals simp [ih]
@[simp] theorem State.handEach_store (l : List Obs) (s : State) : (State.handEach l s).store = s.store := by
  induction l generalizing s with
  | nil => simp [State.handEach]
  | cons a l ih => 
    unfold State.handEach
    all_goals simp [ih]
@[simp] theorem State.handEach_pending (l : List Obs) (s : State) : (State.handEach l s).pending = s.pending := by
  induction l generalizing s with
  | nil => simp [State.handEach]
  | cons a l ih => 
    unfold State.handEach
    all_goals simp [ih]
@[simp] theorem State.handAll_slots (obs : List Obs) (s : State) : (State.handAll obs s).slots = s.slots := by
  simp [State.handAll]
@[simp] theorem State.handAll_cap (obs : List Obs) (s : State) : (State.handAll obs s).cap = s.cap := by
  simp [State.handAll]
@[simp] theorem State.handAll_mon (obs : List Obs) (s : State) : (State.handAll obs s).mon = s.mon := by
  simp [State.handAll]
@[simp] theorem State.handAll_outA (obs : List Obs) (s : State) : (State.handAll obs s).outA = s.outA := by
  simp [State.handAll]
@[simp] theorem State.handAll_outB (obs : List Obs) (s : State) : (State.handAll obs s).outB = s.outB := by
  simp [State.handAll]
@[simp] theorem State.handAll_store (obs : List Obs) (s : State) : (State.handAll obs s).store = s.store := by
  simp [State.handAll]
@[simp] theorem State.handAll_pending (obs : List Obs) (s : State) : (State.handAll obs s).pending = s.pending := by
  simp [State.handAll]
@[simp] theorem State.relayObserved_slots (d : Dir) (o : Obs) (s : State) : (State.relayObserved d o s).slots = s.slots := by
  unfold State.relayObserved
  (repeat' first | split | dsimp only)
  all_goals simp
@[simp] theorem State.relayObserved_cap (d : Dir) (o : Obs) (s : State) : (State.relayObserved d o s).cap = s.cap := by
  unfold State.relayObserved
  (repeat' first | split | dsimp only)
  all_goals simp
@[simp] theorem State.relayObserved_mon (d : Dir) (o : Obs) (s : State) : (State.relayObserved d o s).mon = s.mon := by
  unfold State.relayObserved
  (repeat' first | split | dsimp only)
  all_goals simp
@[simp] theorem State.relayObserved_outA (d : Dir) (o : Obs) (s : State) : (State.relayObserved d o s).outA = s.outA := by
  unfold State.relayObserved
  (repeat' first | split | dsimp only)
  all_goals simp
@[simp] theorem State.relayObserved_outB (d : Dir) (o : Obs) (s : State) : (State.relayObserved d o s).outB = s.outB := by
  unfold State.relayObserved
  (repeat' first | split | dsimp only)
  all_goals simp
@[simp] theorem State.relayObserved_store (d : Dir) (o : Obs) (s : State) : (State.relayObserved d o s).store = s.store := by
  unfold State.relayObserved
  (repeat' first | split | dsimp only)
  all_goals simp
@[simp] theorem State.relayObserved_pending (d : Dir) (o : Obs) (s : State) : (State.relayObserved d o s).pending = s.pending := by
  unfold State.relayObserved
  (repeat' first | split | dsimp only)
  all_goals simp
@[simp] theorem State.restartOwners_ring (die : Int) (s : State) : (State.restartOwners die s).ring = s.ring := by
  simp [State.restartOwners]
@[simp] theorem State.restartOwners_pending (die : Int) (s : State) : (State.restartOwners die s).pending = s.pending := by
  simp [State.restartOwners]

end Sys2Proof.Machine
end

