-- ==== Sys2Proof/Laws/Ops.lean ====
section
/-! SUPPORT. What each shared operation does, said once: record requests, events, faults, answers, HALTED,
the rows kept, the notices heard and the interpolation between tile centres. -/

namespace Sys2Proof.Machine

/-! ### Record requests -/

@[simp] theorem RecordWriter.request_flight (k : Target) (w : RecordWriter) : (w.request k).flight = w.flight := by
  unfold RecordWriter.request; split <;> rfl

theorem RecordWriter.request_of_mem {k : Target} {w : RecordWriter} (h : .record k ∈ w.waiting) :
    w.request k = w := by simp [RecordWriter.request, h]

theorem RecordWriter.request_of_not_mem {k : Target} {w : RecordWriter} (h : .record k ∉ w.waiting) :
    w.request k = { w with waiting := w.waiting ++ [.record k] } := by simp [RecordWriter.request, h]

@[simp] theorem RecordWriter.mem_request (k : Target) (w : RecordWriter) : .record k ∈ (w.request k).waiting := by
  by_cases h : .record k ∈ w.waiting
  · simpa [request_of_mem h] using h
  · simp [request_of_not_mem h]

theorem RecordWriter.mem_request_of_mem {x : RecWork} {w : RecordWriter} (k : Target) (h : x ∈ w.waiting) :
    x ∈ (w.request k).waiting := by
  by_cases hk : .record k ∈ w.waiting
  · simpa [request_of_mem hk] using h
  · simp [request_of_not_mem hk, h]

@[simp] theorem RecordWriter.give_flight (k : Target) (d : List Byte) (w : RecordWriter) :
    (w.give k d).flight = w.flight := by
  unfold RecordWriter.give; split <;> rfl

@[simp] theorem RecWork.isGiven_given (k : Target) (d : List Byte) : (RecWork.given k d).isGiven k = true := by
  simp [RecWork.isGiven]

@[simp] theorem RecWork.isGiven_record (k j : Target) : (RecWork.record j).isGiven k = false := rfl

@[simp] theorem RecordWriter.mem_give (k : Target) (d : List Byte) (w : RecordWriter) :
    .given k d ∈ (w.give k d).waiting := by
  unfold RecordWriter.give
  split
  · rename_i h
    obtain ⟨x, hx, hg⟩ := List.any_eq_true.mp h
    exact List.mem_map.mpr ⟨x, hx, by simp [hg]⟩
  · simp

theorem RecordWriter.record_mem_give {j : Target} {w : RecordWriter} (k : Target) (d : List Byte)
    (h : .record j ∈ w.waiting) : .record j ∈ (w.give k d).waiting := by
  unfold RecordWriter.give
  split
  · exact List.mem_map.mpr ⟨_, h, by simp⟩
  · simp [h]

@[simp] theorem RecordWriter.raiseWork_flight (x : RecWork) (w : RecordWriter) :
    (w.raiseWork x).flight = w.flight := rfl

@[simp] theorem State.request_recs (k : Target) (s : State) : (s.request k).recs = s.recs.request k := rfl

@[simp] theorem State.requestStatus_recs (s : State) : s.requestStatus.recs = s.recs.request .status := rfl

/-! ### Events -/

/-- The bit of kind `k` is the one of its number. -/
theorem EventKind.bit_getLsbD (k j : EventKind) : k.bit.getLsbD j.number = decide (j = k) := by
  cases k <;> cases j <;> decide

/-- R173: everything a raise can do: nothing, for a pending kind other than FAULT; else the kind joins, the seen flag
clears and the notice record is requested. -/
theorem State.raise_cases (k : EventKind) (s : State) :
    (s.notice.isPending k = true ∧ k ≠ .fault ∧ s.raise k = s)
    ∨ ((s.notice.isPending k = false ∨ k = .fault) ∧ s.raise k =
        (s.onNotice fun n => { n with pending := n.pending ||| k.bit, seen := false }).request .notice) := by
  by_cases h : s.notice.isPending k = true
  · by_cases hk : k = .fault
    · exact .inr ⟨.inr hk, by simp [State.raise, hk]⟩
    · exact .inl ⟨h, hk, by simp [State.raise, h, hk]⟩
  · exact .inr ⟨.inl (by simpa using h), by simp [State.raise, h]⟩

@[simp] theorem State.raise_isPending (k j : EventKind) (s : State) :
    (s.raise k).notice.isPending j = (s.notice.isPending j || decide (j = k)) := by
  rcases State.raise_cases k s with ⟨h, _, e⟩ | ⟨_, e⟩ <;> rw [e]
  · by_cases hj : j = k <;> simp [hj, h]
  · have := EventKind.bit_getLsbD k j
    simp only [NoticeUnit.isPending, State.request_notice, State.onNotice_notice, BitVec.getLsbD_or, this]

@[simp] theorem State.raise_halted (k : EventKind) (s : State) : (s.raise k).notice.halted = s.notice.halted := by
  rcases State.raise_cases k s with ⟨_, _, e⟩ | ⟨_, e⟩ <;> simp [e]
@[simp] theorem State.raise_enable (k : EventKind) (s : State) : (s.raise k).notice.enable = s.notice.enable := by
  rcases State.raise_cases k s with ⟨_, _, e⟩ | ⟨_, e⟩ <;> simp [e]
@[simp] theorem State.raise_threshold (k : EventKind) (s : State) :
    (s.raise k).notice.threshold = s.notice.threshold := by
  rcases State.raise_cases k s with ⟨_, _, e⟩ | ⟨_, e⟩ <;> simp [e]
@[simp] theorem State.raise_faults (k : EventKind) (s : State) : (s.raise k).notice.faults = s.notice.faults := by
  rcases State.raise_cases k s with ⟨_, _, e⟩ | ⟨_, e⟩ <;> simp [e]
@[simp] theorem State.raise_place (k : EventKind) (s : State) : (s.raise k).notice.place = s.notice.place := by
  rcases State.raise_cases k s with ⟨_, _, e⟩ | ⟨_, e⟩ <;> simp [e]
@[simp] theorem State.raise_latches (k : EventKind) (s : State) : (s.raise k).notice.latches = s.notice.latches := by
  rcases State.raise_cases k s with ⟨_, _, e⟩ | ⟨_, e⟩ <;> simp [e]
@[simp] theorem State.raise_flight (k : EventKind) (s : State) : (s.raise k).recs.flight = s.recs.flight := by
  rcases State.raise_cases k s with ⟨_, _, e⟩ | ⟨_, e⟩ <;> simp [e]

theorem State.mem_raise_of_mem {x : RecWork} {s : State} (k : EventKind) (h : x ∈ s.recs.waiting) :
    x ∈ (s.raise k).recs.waiting := by
  rcases State.raise_cases k s with ⟨_, _, e⟩ | ⟨_, e⟩ <;> rw [e]
  · exact h
  · exact RecordWriter.mem_request_of_mem _ h

/-- R173: FAULT is raised anew each time. -/
theorem State.raise_fault (s : State) : s.raise .fault =
    (s.onNotice fun n => { n with pending := n.pending ||| EventKind.fault.bit, seen := false }).request .notice := by
  simp [State.raise]

/-! ### Faults -/

/-- R181: everything logging a fault does. -/
theorem State.logFault_eq (k : FaultKind) (b : BlockId) (addr : Nat) (frame : Count) (pos : FaultPos) (s : State) :
    s.logFault k b addr frame pos =
      { s with
        notice := { s.notice with
          faults := s.notice.faults + 1, place := (s.notice.place + 1) % 8
          pending := s.notice.pending ||| EventKind.fault.bit, seen := false }
        recs := (((s.recs.give (.fault s.notice.place)
          (faultRecord (s.notice.faults + 1) k b addr frame pos)).request .notice).request .status) } := by
  simp [State.logFault, State.raise, State.requestStatus, State.request, State.onNotice, State.onRecs]

@[simp] theorem State.logFault_halted (k : FaultKind) (b : BlockId) (addr : Nat) (frame : Count) (pos : FaultPos)
    (s : State) : (s.logFault k b addr frame pos).notice.halted = s.notice.halted := by
  simp [State.logFault_eq]

/-! ### Answers -/

/-- R23: everything an owner's answer does: the record dispatched, when it is the directive, is answered. -/
theorem State.answer_cases (c : Instr) (st : Status) (s : State) :
    (∃ i rec, s.ring.flight = some ⟨i, .dispatched rec⟩ ∧ decodeDirective rec = c.bare
      ∧ s.answer c st = (s.onRing fun r => { r with lastStatus := some st }).answerRecord i rec st)
    ∨ s.answer c st = s.onRing fun r => { r with lastStatus := some st } := by
  unfold State.answer Ring.isDispatched
  split
  · rename_i i rec h
    simp only [h]
    split
    · rename_i hd
      exact .inl ⟨i, rec, rfl, by simpa using hd, rfl⟩
    · exact .inr rfl
  · exact .inr rfl

/-! ### HALTED -/

theorem State.unlessHalted_of_not {s : State} (h : s.notice.halted = false) (f : State → State) :
    s.unlessHalted f = .next (f s) := by simp [State.unlessHalted, h]

/-- R183: while HALTED the command changes nothing. -/
theorem State.unlessHalted_of_halted {s : State} (h : s.notice.halted = true) (f : State → State) :
    s.unlessHalted f = .next s := by simp [State.unlessHalted, h]

theorem State.unlessHalted_next {s t : State} {f : State → State} (h : s.unlessHalted f = .next t) :
    (s.notice.halted = true ∧ t = s) ∨ (s.notice.halted = false ∧ t = f s) := by
  unfold State.unlessHalted at h
  split at h
  · rename_i hh; exact .inl ⟨hh, by cases h; rfl⟩
  · rename_i hh; exact .inr ⟨by simpa using hh, by cases h; rfl⟩

/-! ### The rows a plane keeps, the notices heard, the interpolation -/

/-- The rows kept are those the output row the engine is at, or the next one, needs (R126). -/
theorem Engine.keepRows_eq {e : Engine} {a : Plane × Nat} (h : e.rowAt = some a) (p : Plane) :
    e.keepRows p = e.neededBy p a := by simp [Engine.keepRows, h]

/-- The notices in front of an answer, or of the end, are heard in order (R90). -/
theorem Monitor.hearLeading_append (tail : List MonNotice) : ∀ (ns : List MonNotice) (m : Monitor),
    (∀ n ∈ ns, n.isAnswer = false) →
    Monitor.hearLeading (ns ++ tail) m = Monitor.hearLeading tail (ns.foldl (fun m n => m.hear n) m)
  | [], _, _ => rfl
  | n :: ns, m, h => by
    have hn : n.isAnswer = false := h n (by simp)
    simp only [List.cons_append, Monitor.hearLeading, hn, List.foldl_cons]
    exact Monitor.hearLeading_append tail ns _ fun k hk => h k (by simp [hk])

/-- Between the centres of `i` and `i + 1` the value is the mix of the two (R74, R75). -/
theorem between_mid {value : Nat → Nat} {n pitch pos i : Nat} (hi : i + 1 < n) (h1 : i * pitch + pitch / 2 ≤ pos)
    (h2 : pos < (i + 1) * pitch + pitch / 2) :
    between value n pitch pos
      = mix256 (value i) (value (i + 1)) ((pos - (i * pitch + pitch / 2)) * 256 / pitch) := by
  rw [Nat.add_mul] at h2
  have hp : 0 < pitch := by omega
  have hk : i * pitch + pitch ≤ (n - 1) * pitch := by
    calc i * pitch + pitch = (i + 1) * pitch := by rw [Nat.add_mul]; omega
      _ ≤ (n - 1) * pitch := Nat.mul_le_mul_right _ (by omega)
  have hq : (pos - pitch / 2) / pitch = i := by
    rw [Nat.div_eq_iff hp]
    omega
  simp only [between]
  rw [if_neg (by omega), if_neg (by omega), hq]

end Sys2Proof.Machine
end

