-- ==== Sys2Proof/Laws/PerInstr.lean ====
section
/-! SUPPORT. The family RecordForm, constructor by constructor: a directive's record is 32 bytes long and carries the
flags it was written with and the status byte 0 (10 section 10.2). -/

namespace Sys2Proof.Laws.RecordForm

/-- The record software writes for `c`, when `c` is a directive, is 32 bytes with the flags and status 0. -/
def Statement (c : Instr) : Prop :=
  ∀ (flags : BitVec 8) (rec : List Byte), encodeDirective flags c = some rec →
    rec.length = 32 ∧ rec[1]? = some flags ∧ rec[2]? = some 0

theorem resetN : ∀ a0, Statement (.resetN a0) := by
  intro _ flags rec h
  cases h
theorem forwardedTransaction : ∀ a0, Statement (.forwardedTransaction a0) := by
  intro _ flags rec h
  cases h
theorem classBResponse : ∀ a0 a1 a2 a3, Statement (.classBResponse a0 a1 a2 a3) := by
  intro _ _ _ _ flags rec h
  cases h
theorem submitWord : ∀ a0, Statement (.submitWord a0) := by
  intro _ flags rec h
  cases h
theorem acknowledgeWord : ∀ a0, Statement (.acknowledgeWord a0) := by
  intro _ flags rec h
  cases h
theorem noticeRecordRead : Statement .noticeRecordRead := by
  intro flags rec h
  cases h
theorem statusRecordRead : Statement .statusRecordRead := by
  intro flags rec h
  cases h
theorem straddlingAccess : ∀ a0, Statement (.straddlingAccess a0) := by
  intro _ flags rec h
  cases h
theorem outputWindowWrite : ∀ a0, Statement (.outputWindowWrite a0) := by
  intro _ flags rec h
  cases h
theorem outputWindowRead : ∀ a0, Statement (.outputWindowRead a0) := by
  intro _ flags rec h
  cases h
theorem outputReadServed : ∀ a0, Statement (.outputReadServed a0) := by
  intro _ flags rec h
  cases h
theorem outputFrameStart : ∀ a0 a1, Statement (.outputFrameStart a0 a1) := by
  intro _ _ flags rec h
  cases h
theorem captureWindowRead : ∀ a0, Statement (.captureWindowRead a0) := by
  intro _ flags rec h
  cases h
theorem captureWrite : ∀ a0 a1, Statement (.captureWrite a0 a1) := by
  intro _ _ flags rec h
  cases h
theorem frameStart : ∀ a0 a1, Statement (.frameStart a0 a1) := by
  intro _ _ flags rec h
  cases h
theorem tearFinished : ∀ a0, Statement (.tearFinished a0) := by
  intro _ flags rec h
  cases h
theorem frameCompletion : ∀ a0, Statement (.frameCompletion a0) := by
  intro _ flags rec h
  cases h
theorem downstreamGrant : Statement .downstreamGrant := by
  intro flags rec h
  cases h
theorem lossCountGrant : Statement .lossCountGrant := by
  intro flags rec h
  cases h
theorem lumaWriteResponse : ∀ a0 a1, Statement (.lumaWriteResponse a0 a1) := by
  intro _ _ flags rec h
  cases h
theorem chromaWriteResponse : ∀ a0 a1, Statement (.chromaWriteResponse a0 a1) := by
  intro _ _ flags rec h
  cases h
theorem sourceRowFetchResponse : ∀ a0 a1 a2 a3, Statement (.sourceRowFetchResponse a0 a1 a2 a3) := by
  intro _ _ _ _ flags rec h
  cases h
theorem directiveFetchResponse : ∀ a0 a1, Statement (.directiveFetchResponse a0 a1) := by
  intro _ _ flags rec h
  cases h
theorem directiveStatusWriteResponse : ∀ a0, Statement (.directiveStatusWriteResponse a0) := by
  intro _ flags rec h
  cases h
theorem recordWriteResponse : ∀ a0 a1, Statement (.recordWriteResponse a0 a1) := by
  intro _ _ flags rec h
  cases h
theorem resumeReadResponse : ∀ a0 a1, Statement (.resumeReadResponse a0 a1) := by
  intro _ _ flags rec h
  cases h
theorem chunkReadResponse : ∀ a0 a1 a2, Statement (.chunkReadResponse a0 a1 a2) := by
  intro _ _ _ flags rec h
  cases h
theorem chunkWriteResponse : ∀ a0 a1, Statement (.chunkWriteResponse a0 a1) := by
  intro _ _ flags rec h
  cases h
theorem waitLimitTimeout : Statement .waitLimitTimeout := by
  intro flags rec h
  cases h
theorem autoRequest : Statement .autoRequest := by
  intro flags rec h
  cases h
theorem autoAnswer : Statement .autoAnswer := by
  intro flags rec h
  cases h
theorem unknownDirectiveType : ∀ a0, Statement (.unknownDirectiveType a0) := by
  intro _ flags rec h
  cases h
theorem configureCapture : ∀ a0 a1 a2 a3, Statement (.configureCapture a0 a1 a2 a3) := by
  intro _ _ _ _ flags rec h
  cases h
  exact ⟨rfl, rfl, rfl⟩
theorem startCapture : Statement .startCapture := by
  intro flags rec h
  cases h
  exact ⟨rfl, rfl, rfl⟩
theorem stopCapture : ∀ a0, Statement (.stopCapture a0) := by
  intro _ flags rec h
  cases h
  exact ⟨rfl, rfl, rfl⟩
theorem setEnhance : ∀ a0 a1 a2 a3, Statement (.setEnhance a0 a1 a2 a3) := by
  intro _ _ _ _ flags rec h
  cases h
  exact ⟨rfl, rfl, rfl⟩
theorem configureOutput : ∀ a0 a1 a2 a3, Statement (.configureOutput a0 a1 a2 a3) := by
  intro _ _ _ _ flags rec h
  cases h
  exact ⟨rfl, rfl, rfl⟩
theorem enableOutput : ∀ a0, Statement (.enableOutput a0) := by
  intro _ flags rec h
  cases h
  exact ⟨rfl, rfl, rfl⟩
theorem disableOutput : ∀ a0, Statement (.disableOutput a0) := by
  intro _ flags rec h
  cases h
  exact ⟨rfl, rfl, rfl⟩
theorem setView : ∀ a0 a1 a2 a3 a4 a5, Statement (.setView a0 a1 a2 a3 a4 a5) := by
  intro _ _ _ _ _ _ flags rec h
  cases h
  exact ⟨rfl, rfl, rfl⟩
theorem live : ∀ a0, Statement (.live a0) := by
  intro _ flags rec h
  cases h
  exact ⟨rfl, rfl, rfl⟩
theorem freeze : ∀ a0, Statement (.freeze a0) := by
  intro _ flags rec h
  cases h
  exact ⟨rfl, rfl, rfl⟩
theorem blank : ∀ a0, Statement (.blank a0) := by
  intro _ flags rec h
  cases h
  exact ⟨rfl, rfl, rfl⟩
theorem recallEntry : ∀ a0 a1 a2, Statement (.recallEntry a0 a1 a2) := by
  intro _ _ _ flags rec h
  cases h
  exact ⟨rfl, rfl, rfl⟩
theorem setMonitor : ∀ a0 a1 a2 a3 a4 a5 a6 a7, Statement (.setMonitor a0 a1 a2 a3 a4 a5 a6 a7) := by
  intro _ _ _ _ _ _ _ _ flags rec h
  cases h
  exact ⟨rfl, rfl, rfl⟩
theorem wake : Statement .wake := by
  intro flags rec h
  cases h
  exact ⟨rfl, rfl, rfl⟩
theorem openStore : ∀ a0 a1 a2 a3 a4, Statement (.openStore a0 a1 a2 a3 a4) := by
  intro _ _ _ _ _ flags rec h
  cases h
  exact ⟨rfl, rfl, rfl⟩
theorem closeStore : Statement .closeStore := by
  intro flags rec h
  cases h
  exact ⟨rfl, rfl, rfl⟩
theorem beginLesson : Statement .beginLesson := by
  intro flags rec h
  cases h
  exact ⟨rfl, rfl, rfl⟩
theorem endLesson : Statement .endLesson := by
  intro flags rec h
  cases h
  exact ⟨rfl, rfl, rfl⟩
theorem snapshot : ∀ a0 a1, Statement (.snapshot a0 a1) := by
  intro _ _ flags rec h
  cases h
  exact ⟨rfl, rfl, rfl⟩
theorem claim : ∀ a0, Statement (.claim a0) := by
  intro _ flags rec h
  cases h
  exact ⟨rfl, rfl, rfl⟩
theorem release : ∀ a0, Statement (.release a0) := by
  intro _ flags rec h
  cases h
  exact ⟨rfl, rfl, rfl⟩
theorem keep : ∀ a0, Statement (.keep a0) := by
  intro _ flags rec h
  cases h
  exact ⟨rfl, rfl, rfl⟩
theorem unkeep : ∀ a0, Statement (.unkeep a0) := by
  intro _ flags rec h
  cases h
  exact ⟨rfl, rfl, rfl⟩
theorem delete : ∀ a0, Statement (.delete a0) := by
  intro _ flags rec h
  cases h
  exact ⟨rfl, rfl, rfl⟩
theorem setNotice : ∀ a0 a1 a2, Statement (.setNotice a0 a1 a2) := by
  intro _ _ _ flags rec h
  cases h
  exact ⟨rfl, rfl, rfl⟩
theorem restart : ∀ a0, Statement (.restart a0) := by
  intro _ flags rec h
  cases h
  exact ⟨rfl, rfl, rfl⟩

end Sys2Proof.Laws.RecordForm
end

