-- ==== Sys2Proof/Laws/Relay.lean ====
section
/-! SUPPORT. What relaying can do, said once: which response is returned next, where relaying stops, and what the row of an
observed access does. -/

namespace Sys2Proof.Machine

/-- The first entry of its direction is the one relayed next. -/
theorem State.nextRelayed_eq {d : Dir} {pre post : List FwdEntry} {e : FwdEntry} {s : State}
    (hf : s.path.fwd = pre ++ e :: post) (hp : ∀ x ∈ pre, x.dir ≠ d) (he : e.dir = d) : s.nextRelayed d = some e := by
  have h : pre.find? (fun e => decide (e.dir = d)) = none := List.find?_eq_none.mpr fun x hx => by simp [hp x hx]
  simp [State.nextRelayed, hf, List.find?_append, h, he]

/-- Relaying stops where no entry of the direction has its response. -/
theorem State.relay_of_waiting {d : Dir} {s : State} (h : ∀ x ∈ s.path.fwd, x.dir = d → x.resp = none) (n : Nat) :
    s.relay d n = s := by
  cases n with
  | zero => rfl
  | succ n =>
    unfold State.relay
    cases hn : s.nextRelayed d with
    | none => rfl
    | some x => simp [h x (List.mem_of_find?_eq_some hn) (by simpa using List.find?_some hn)]

/-- The response of the first entry of its direction is returned and the entry leaves the queue. -/
theorem State.relayOne_eq {pre post : List FwdEntry} {e : FwdEntry} {s : State} (hf : s.path.fwd = pre ++ e :: post)
    (he : e ∉ pre) (r : Resp) (data : List Byte) : s.relayOne e r data =
      s.onPath fun p => { p with fwd := pre ++ post, upLog := p.upLog ++ [⟨e.id, e.dir, r, data⟩] } := by
  simp [State.relayOne, State.onPath, hf, List.erase_append_right _ he]

/-- The row of an observation that is due: the response is returned and the access's observations are handed over. -/
theorem State.relayObserved_of_due {d : Dir} {o : Obs} {e : FwdEntry} {data : List Byte} {pre post : List FwdEntry}
    {s : State} (hh : s.notice.halted = false) (hf : s.path.fwd = pre ++ e :: post) (hp : ∀ x ∈ pre, x.dir ≠ d)
    (hd : e.dir = d) (hr : e.resp = some (.okay, data)) (ho : o ∈ e.obs) (hq : ∀ x ∈ post, x.dir = d → x.resp = none) :
    s.relayObserved d o = State.handAll e.obs (s.onPath fun p =>
      { p with fwd := pre ++ post, upLog := p.upLog ++ [⟨e.id, d, .okay, data⟩] }) := by
  simp only [State.relayObserved, State.observedNext, State.nextRelayed_eq hf hp hd, hr, List.contains_iff_mem, ho, if_true,
    hh, State.relayOne_eq hf (fun h => hp e h hd), hd]
  rw [if_neg (by simp), State.relay_of_waiting]
  intro x hx
  simp only [State.handAll, State.handEach_path, State.onPath_path, List.mem_append] at hx
  exact hx.elim (fun h h' => absurd h' (hp x h)) (hq x)

/-- The row of an observation that is not due does nothing. -/
theorem State.relayObserved_of_not_due {d : Dir} {o : Obs} {s : State}
    (h : ∀ e, s.nextRelayed d = some e → o ∉ e.obs ∨ ∀ data, e.resp ≠ some (.okay, data)) : s.relayObserved d o = s := by
  unfold State.relayObserved State.observedNext
  cases hn : s.nextRelayed d with
  | none => rfl
  | some e =>
    rcases hr : e.resp with _ | ⟨_ | _, data⟩
    · simp [hr]
    · rcases h e hn with h | h
      · simp [h, hr]
      · exact absurd hr (h data)
    · simp [hr]

end Sys2Proof.Machine
end

