-- ==== Sys2Proof/Tests/Slice0.lean ====
section
/-! SUPPORT. The model's own tests: ill-formed terms refused, figures worked in the spec, directive records written
out byte by byte, and for every statement with hypotheses a state that meets them. -/

namespace Sys2Proof.Tests

open Sys2Proof.Machine

/-! ### Small states -/

def rd (id addr len : Nat) : Txn := ⟨id, .read, addr, len, []⟩
def wr (id addr len : Nat) : Txn := ⟨id, .write, addr, len, List.replicate len 7⟩

/-- A state right after reset with the capture configured at 640 × 480. -/
def configured : State :=
  { State.reset with
    cap := { State.reset.cap with geom := some ⟨0x1000000, 640, 480⟩ }
    slots := { State.reset.slots with geom := some ⟨0x2000000, 640, 480, 462848⟩ } }

/-- Capture is RUNNING. -/
def capturing : State :=
  { configured with cap := { configured.cap with running := true }, mon := { configured.mon with state := .motion } }

/-- Frame 1 is in slot 0; the next write is expected at `off`. -/
def receiving (off : Nat) : State :=
  { capturing with
    cap := { capturing.cap with tracker := .receiving, expected := off, slot := some 0, frameNo := 1 }
    slots := capturing.slots.fill 0 1 .enhanced }

/-- Frame 1 has all its writes and waits for its completion. -/
def draining : State := { receiving 460800 with cap := { (receiving 460800).cap with tracker := .draining } }

/-- Slots in the order given are READY, all with frame 640 × 480. -/
def withReady (order : List Nat) (s : State) : State :=
  { s with slots := { s.slots with
      ready := order
      slots := s.slots.slots.mapIdx fun k sl =>
        if k ∈ order then { sl with state := .ready, width := 640, height := 480 } else sl } }

/-- Output A is ENABLED at 640 × 480. -/
def showing : State := { configured with outA := { configured.outA with
  state := .enabled, geom := some ⟨0x3000000, 640, 480⟩ } }

/-- A latch of slot `k`. -/
def latchOf (k : Nat) : Latch := ⟨.slot k, 0x2000000 + k * 462848, 640, 480, 1, 65536, 0, 0, false⟩

/-- Output A has latched slot 0, which is READY and carries SHOW_A. -/
def latched : State :=
  { withReady [0] showing with
    outA := { showing.outA with latch := some (latchOf 0) }
    slots := (withReady [0] showing).slots.takeShow .a 0 }

/-- Output A has the read `q` at the head of its queue. -/
def queued (q : QueuedRead) (s : State) : State := { s with outA := { s.outA with queue := [q] } }

/-- A store of two entries is OPEN, both FREE. -/
def opened : State :=
  { configured with store := { configured.store with
      state := .opened, geom := some ⟨0x4000000, 2, 462848⟩, catalog := [Rec.blank, Rec.blank] } }

def savedRec : Rec := { Rec.blank with state := .saved, seq := 1, width := 640, height := 480 }

/-- Both records are SAVED. -/
def full : State :=
  { opened with store := { opened.store with catalog := [savedRec, { savedRec with seq := 2 }], order := [0, 1] } }

def requestOf (k : Nat) : Request := ⟨k, 1, .enhanced, 640, 480, false, false, 0, 0, none⟩

/-- The head request waits on record 0, which is CLAIMED. -/
def waiting (count : Nat) : State :=
  { full with store := { full.store with
      catalog := [{ savedRec with claimed := true, wanted := true }, { savedRec with seq := 2 }]
      queue := [requestOf 0], nextSeq := some 3
      engine := { full.store.engine with state := .waiting 0, waitCount := count } } }

/-- The head request is copied into record 0; one class E transaction is out. -/
def copying (chunk : Nat) (x : ChunkTxn) (more : List ChunkTxn) : State :=
  { opened with store := { opened.store with
      catalog := [{ savedRec with state := .copying }, Rec.blank], order := [0], queue := [requestOf 0]
      engine := { opened.store.engine with state := .copying 0, chunk := chunk, flight := [x], waiting := more } } }

/-- Output A's source is `x`. -/
def source (x : Source) (s : State) : State := { s with outA := { s.outA with source := x } }

def halted (s : State) : State := { s with notice := { s.notice with halted := true } }

/-- The directive `c` with flags 0 is dispatched as record `i`. -/
def dispatched (i : Nat) (c : Instr) (s : State) : State :=
  { s with ring := { s.ring with
      state := .fetching, head := i, flight := some ⟨i, .dispatched ((encodeDirective 0 c).getD [])⟩ } }

/-- The directive `c` with flags 0 was accepted as record `i` and is not answered yet. -/
def acceptedAs (i : Nat) (c : Instr) (s : State) : State :=
  { s with ring := { s.ring with
      state := .fetching, head := i, flight := some ⟨i, .accepted ((encodeDirective 0 c).getD [])⟩ } }

def atTemp (t : TempState) (flag : Bool) (s : State) : State := { s with gov := { s.gov with state := t, flag := flag } }

/-- An entry of the forwarding queue without its response, and one observed whose OKAY response waits. -/
def entry (id : Nat) (d : Dir) (chroma : Bool) : FwdEntry := ⟨id, d, 0x2000000, 16, [], chroma, [], true, none⟩
def observed (d : Dir) (obs : List Obs) : FwdEntry := ⟨7, d, 0xFFFF400, 256, [], false, obs, true, some (.okay, [])⟩
def inQueue (l : List FwdEntry) (s : State) : State := { s with path := { s.path with fwd := l } }
/-- The observed entry stands behind one of the other direction and ahead of one of its own. -/
def relaying (d : Dir) (obs : List Obs) (s : State) : State :=
  inQueue ([entry 1 (if d = .read then .write else .read) false] ++ observed d obs :: [entry 3 d false]) s

/-- A signature whose 192 means are `m`, but for the first `n`, which are `v`. -/
def signature (n v m : Nat) : Signature := ⟨List.replicate n v ++ List.replicate (192 - n) m, 2, some 0⟩

/-- The tear of a frame RECEIVING waits for its responses. -/
def tearing : State := { receiving 16 with
  cap := { (receiving 16).cap with tearing := true, places := [none, none, none, none], slot := none } }
/-- A luma write of the frame is out at its slot's first byte. -/
def lumaOut (s : State) : State := { s with cap := { s.cap with lumaFlight := [⟨0x2000000, [], 0⟩] } }

/-- The copy engine is PAUSED at record 0, or IDLE with nothing queued. -/
def paused (s : State) : State := { s with store := { s.store with engine := { s.store.engine with state := .paused 0 } } }
def served (s : State) : State := { s with store := { s.store with
  queue := [], engine := { s.store.engine with state := .idle } } }

/-- Output A, ENABLED with a read at offset 0, is to give up the WANTED record 0. -/
def recalledWanted : State := { waiting 59 with
  outA := (queued ⟨1, 0, 16, false⟩ showing).outA
  store := { (waiting 59).store with
    catalog := [{ savedRec with recallA := true, wanted := true }, { savedRec with seq := 2 }] } }

/-- The two source rows of output row 0 are VALID. -/
def cached : State := { latched with outA := { latched.outA with luma := { PlaneCache.empty with
  places := [⟨0, .valid, .demand, [], none⟩, ⟨1, .valid, .demand, [], none⟩] } } }

/-! ### Ill-formed terms are refused -/

theorem test_wf_length_below_16 : (rd 1 0 0).legal = false := by decide
theorem test_wf_length_above_256 : (rd 1 0 272).legal = false := by decide
theorem test_wf_length_not_in_units : (rd 1 0 24).legal = false := by decide
theorem test_wf_misaligned : (rd 1 8 16).legal = false := by decide
theorem test_wf_beyond_the_space : (rd 1 0x1000000000 16).legal = false := by decide
theorem test_wf_crosses_4KiB : (rd 1 0xF10 256).legal = false := by decide
theorem test_wf_write_without_data : ({ wr 1 0 16 with data := [] } : Txn).legal = false := by decide
theorem test_wf_read_with_data : ({ rd 1 0 16 with data := [0] } : Txn).legal = false := by decide
theorem test_wf_direction_of_row :
    (Instr.outputWindowWrite (rd 1 0 16)).wellFormed = false ∧ (Instr.outputWindowRead (wr 1 0 16)).wellFormed = false
      ∧ (Instr.captureWindowRead (wr 1 0 16)).wellFormed = false
      ∧ (Instr.captureWrite (rd 1 0 16) 0).wellFormed = false
      ∧ (Instr.frameStart (rd 1 0 16) 0).wellFormed = false := by decide
theorem test_wf_known_type :
    (Instr.unknownDirectiveType 1).wellFormed = false ∧ (Instr.unknownDirectiveType 26).wellFormed = false
      ∧ (Instr.unknownDirectiveType 0).wellFormed = true ∧ (Instr.unknownDirectiveType 27).wellFormed = true := by
  decide
theorem test_wf_edges_are_legal :
    (rd 1 0xF00 256).legal = true ∧ (wr 1 0xFFFFFFFF0 16).legal = true := by decide

/-! ### Directive records written out from the table of 10 section 10.2 -/

theorem test_record_set_enhance :
    decodeDirective ([4, 1, 0, 200, 9, 2, 64] ++ List.replicate 25 0) = .setEnhance 200 9 2 64 := by decide
theorem test_record_set_view :
    decodeDirective ([8, 0, 0, 1, 1, 0, 0, 2, 16, 0, 0xFF, 0xFF, 0x34, 0x12] ++ List.replicate 18 0)
      = .setView 1 1 0x200 16 0xFFFF 0x1234 := by decide
theorem test_record_open_store :
    decodeDirective ([15, 0, 0, 1, 1, 60, 0, 1, 0, 0, 0, 0x10, 0, 0, 0, 0] ++ List.replicate 16 0)
      = .openStore 1 1 60 256 0x10000000 := by decide
theorem test_record_set_notice :
    decodeDirective ([25, 0, 0, 3, 1, 0x80, 2, 0] ++ List.replicate 24 0) = .setNotice 3 0x8001 2 := by decide
theorem test_record_unknown : decodeDirective (27 :: List.replicate 31 0) = .unknownDirectiveType 27 := by decide
theorem test_table_words_spell_nothing (n w : Nat) : decodeTableWord n w = none := rfl

/-! ### Figures worked in the spec -/

/-- 04 section 4.10: the tile gains. -/
theorem test_tile_gains : tileGain 64 200 = 301 ∧ tileGain 64 180 = 334 ∧ tileGain 64 150 = 401
    ∧ tileGain 64 50 = 256 ∧ tileGain 48 50 = 1024 := by decide
/-- 04 section 4.10: the mixed gain of column 1173 on line 714. -/
theorem test_pixel_gain :
    pixelGain ((List.range 16).map (columnGain ((List.replicate 192 256).set 53 301 |>.set 54 334) 204 714)) 204 1173
      = 309 := by decide
/-- 04 section 4.10: the stroke edge in NORMAL and in REDUCED, and the corner pixel. -/
theorem test_enhanced_pixels :
    enhancePixel 24 4 309 100 110 200 100 120 210 100 110 200 = 127
      ∧ enhancePixel 16 6 309 100 110 200 100 120 210 100 110 200 = 135
      ∧ enhancePixel 24 4 401 50 50 60 50 50 60 70 70 80 = 69
      ∧ enhancePixel 24 4 301 190 190 190 190 190 190 190 190 190 = 223 := by decide
/-- 04 section 4.11: the white map. -/
theorem test_white_map :
    updateWhites [200] [232] = [208] ∧ updateWhites [208] [232] = [214] ∧ updateWhites [214] [232] = [219] := by decide
/-- 05 section 5.9: seven tiles count at a threshold of 12 and eight at 10. -/
theorem test_score :
    score 12 [201, 198, 190, 195, 187, 192, 185, 189, 184] [188, 186, 140, 132, 121, 118, 150, 166, 179] = 7
      ∧ score 10 [201, 198, 190, 195, 187, 192, 185, 189, 184] [188, 186, 140, 132, 121, 118, 150, 166, 179] = 8 := by
  decide
/-- 06 section 6.11: fit, twice magnified, the pan clamp. -/
theorem test_view_steps :
    fitStep 3264 2448 1920 1080 = 148549 ∧ viewStep 148549 256 = 148549 ∧ viewStep 148549 512 = 74274
      ∧ viewStep 148549 2048 = 18568 := by decide
theorem test_origins :
    origin 3264 1920 148549 (some 1632) = -35652288 ∧ origin 2448 1080 148549 (some 1224) = -396
      ∧ origin 3264 1920 74274 none = 35651712 ∧ origin 2448 1080 74274 (some 1224) = 40108104
      ∧ origin 3264 1920 18568 (some 3200) = 178258944 := by
  simp only [origin, centrePos]; decide
/-- 06 section 6.11: the luma pixel and the chroma pair. -/
theorem test_interpolation :
    bilinear 100 140 90 120 85 170 = 104 ∧ mixByte 120 130 170 = 127 ∧ mixByte 136 134 170 = 135 := by decide
/-- 06 section 6.11: the zoom ramp to 1024 and on to 600. -/
theorem test_zoom_ramp :
    zoomStep 1024 256 96 = 352 ∧ zoomStep 1024 928 96 = 1024 ∧ zoomStep 600 1024 96 = 928 ∧ zoomStep 600 640 96 = 600
      ∧ zoomStep 512 256 0 = 512 := by decide
/-- 11 section 11.1: the frame size and the end of the slot region. -/
theorem test_frame_size :
    frameSize 3264 2448 = 11988992 ∧ chunkCount 3264 2448 = 2927 ∧ catalogEnd 64 = 8192
      ∧ 0x110000000 + 6 * frameSize 3264 2448 = 0x11449A000 := by decide

/-- 01, grants under load: the classes of grants 1 to 5. -/
def loaded (last : OutId) (loss lines : Nat) (b : Bool) : State :=
  let f : RowFetch := ⟨0x2000000, 256, .luma, 0, false⟩
  let place : Option Place := some ⟨0, false, .emitted, [], 1⟩
  { copying 0 ⟨.read, 0x2000000, [], false⟩ [⟨.read, 0x2000100, [], false⟩] with
    path := { State.reset.path with
      lastA := last, lossCount := loss, fwd := [⟨1, .read, 0, 16, [], false, [], false, none⟩] }
    cap := { configured.cap with
      lumaWaiting := [⟨0x2000000, List.replicate 16 0, 0⟩]
      places := List.replicate lines place ++ List.replicate (4 - lines) none }
    outA := { configured.outA with fetchWaiting := if b then [f] else [] }
    outB := { configured.outB with fetchWaiting := if b ∧ lines < 3 then [f] else [] } }
theorem test_grants_under_load :
    (loaded .b 30 2 true).chooseGrant = some (.a .a) ∧ (loaded .a 31 2 true).chooseGrant = some (.a .b)
      ∧ (loaded .b 32 3 true).chooseGrant = some .e ∧ (loaded .b 0 3 true).chooseGrant = some (.a .a)
      ∧ (loaded .a 1 3 false).chooseGrant = some .c ∧ (loaded .a 2 2 false).chooseGrant = some .b := by decide
/-- 03, three fill requests: the first takes slot 5. -/
theorem test_fill_request :
    (((withReady [1, 0, 5, 2, 3, 4] configured).slots.takeCopy 1 |>.takeShow .a 0 |>.takeShow .b 3).chooseFill
      = some 5) := by decide
/-- 07, choosing a target under RECYCLE: the engine waits on position 0. -/
theorem test_choice_waits :
    (({ full.store with
        catalog := [{ savedRec with claimed := true }, { savedRec with recallA := true },
          { savedRec with kept := true }, savedRec]
        order := [2, 0, 3, 1], nextSeq := some 21 } : Store).choose = .waitOn 0) := by decide
/-- 08 section 8.7: the states of the samples 103, 106, 118, 121, 112, 108, 94. -/
theorem test_warm_afternoon :
    TempState.normal.after 103 = .normal ∧ TempState.normal.after 106 = .reduced
      ∧ TempState.reduced.after 118 = .reduced ∧ TempState.reduced.after 121 = .critical
      ∧ TempState.critical.after 112 = .critical ∧ TempState.critical.after 108 = .reduced
      ∧ TempState.reduced.after 94 = .normal := by decide
/-- 09 section 9.7: ATTN under a threshold of 2. -/
def threshold2 : State := { State.reset with notice := { State.reset.notice with threshold := 2 } }
theorem test_attn_threshold :
    (threshold2.raise .frameDropped).attn = false ∧ ((threshold2.raise .frameDropped).raise .pageSettled).attn = true
      ∧ (threshold2.raise .pageSettled).notice.highestLevel = 3 := by decide

/-! ### Every statement with hypotheses has a state that meets them -/

theorem no_filling (k : Nat) : (configured.slots.slot k).state ≠ .filling := by
  rcases k with _ | _ | _ | _ | _ | _ | k
  all_goals exact SlotState.noConfusion

theorem apart_of {a b : Region} (h : a.base + a.len ≤ b.base ∨ b.base + b.len ≤ a.base) : a.Apart b := by
  intro x; simp [Region.at]; omega

theorem test_meets_StepRunsTheFrontCommand :
    ({ State.reset with pending := [.wake, .closeStore] } : State).pending = .wake :: [.closeStore] := rfl
theorem test_meets_NoCommandTouchesTheQueue : ∃ t, exec .wake State.reset = .next t := ⟨_, rfl⟩
theorem test_meets_RestartFromRestIsAnsweredAtOnce :
    (let s := latched
     s.notice.halted = false ∧ s.cap.tracker = .none ∧ s.cap.tearing = false ∧ s.outA.queue = [] ∧ s.outB.queue = []
       ∧ s.outA.leaving = false ∧ s.outB.leaving = false ∧ s.store.engine.flight = [] ∧ s.store.state = .closed
       ∧ s.store.catalog = [] ∧ s.outA.state = .enabled ∧ s.outB.state ≠ .enabled)
      ∧ ((lumaOut (receiving 16)).cap.tracker ≠ .none ∧ (lumaOut (receiving 16)).cap.lumaFlight ≠ []
        ∧ draining.cap.tracker ≠ .none ∧ draining.cap.lumaFlight = [] ∧ draining.path.fwd = []
        ∧ (queued ⟨1, 0, 16, false⟩ latched).outA.queue ≠ [])
      ∧ (let s := copying 0 ⟨.read, 0x2000000, [], false⟩ []
         s.store.state = .opened ∧ (s.store.recAt 0).state = .copying ∧ (s.store.recAt 1).state ≠ .copying
           ∧ s.store.order.Nodup ∧ s.store.queue ≠ [] ∧ s.store.engine.flight ≠ []) := by decide
theorem test_meets_ClassificationFollowsTheWindowTable :
    let g : Region := ⟨0x1000000, 460800⟩
    let o : Region := ⟨0x3000000, 460800⟩
    (halted State.reset).notice.halted = true ∧ State.reset.controlPage.at 0xFFFF000 = true
      ∧ State.reset.controlPage.at 0xFFFFFFF = true ∧ State.reset.controlPage.at 0x10000000 = false
      ∧ (State.reset.captureEntry? = none ∧ State.reset.outputEntry? .a = none ∧ State.reset.outputEntry? .b = none)
      ∧ (capturing.captureEntry? = some g ∧ g.at 0x1000000 = true ∧ g.at 0x10707F0 = true ∧ g.at 0x1070800 = false
          ∧ g.at 0xFFFFF0 = false ∧ capturing.outputEntry? .a = none ∧ capturing.outputEntry? .b = none
          ∧ g.holds 0x10707F0 16 = true ∧ g.holds 0x10707F0 32 = false ∧ capturing.controlPage.at 0x1000000 = false)
      ∧ (showing.captureEntry? = none ∧ showing.outputEntry? .a = some o ∧ o.at 0x3000000 = true
          ∧ o.at 0x3070800 = false ∧ o.holds 0x30707F0 16 = true ∧ o.holds 0x30707F0 32 = false
          ∧ showing.outputEntry? .b = none)
      ∧ (showing.outA.state = .enabled
          ∧ ({ showing with outA := { showing.outA with leaving := true } } : State).outputEntry? .a = none
          ∧ configured.cap.geom ≠ none ∧ configured.captureEntry? = none) := by decide
/-- Sixteen writes and one granted read are in the forwarding queue. -/
def fullQueue : State := { State.reset with path := { State.reset.path with
  fwd := List.replicate 16 ⟨1, .write, 0, 16, [], false, [], false, none⟩ } }
theorem test_meets_ForwardedTransactionsJoinTheQueueUnchanged :
    ((wr 1 0 16).legal = true ∧ State.reset.classify (wr 1 0 16) = .forward ∧ State.reset.isNext (wr 1 0 16) = true
        ∧ State.reset.hasRoom .write = true)
      ∧ (fullQueue.classify (wr 1 0 16) = .forward ∧ fullQueue.isNext (wr 1 0 16) = true
        ∧ fullQueue.hasRoom .write = false)
      ∧ ((rd 1 0x30707F0 32).legal = true ∧ showing.classify (rd 1 0x30707F0 32) = .straddle
        ∧ showing.isNext (rd 1 0x30707F0 32) = true ∧ showing.hasRoom .read = true)
      ∧ (let s := inQueue (List.replicate 16 (entry 1 .read false)) showing
         s.classify (rd 1 0x30707F0 32) = .straddle ∧ s.isNext (rd 1 0x30707F0 32) = true
           ∧ s.hasRoom .read = false ∧ (inQueue (List.replicate 15 (entry 1 .read false)) showing).hasRoom .read = true)
      ∧ (let s := inQueue (List.replicate 16 (entry 1 .read false)) capturing
         s.classify (rd 1 0x1000000 16) = .redirect 0 ∧ s.isNext (rd 1 0x1000000 16) = true ∧ s.hasRoom .read = false)
      ∧ (let s := { showing with path := { showing.path with upReads := [rd 2 0 16], upWrites := [wr 2 0 16] } }
         s.isNext (rd 1 0x3000000 16) = false ∧ s.isNext (wr 1 0x3000000 16) = false
           ∧ s.isNext (rd 2 0 16) = true ∧ rd 2 0 16 ∈ s.path.upReads ∧ rd 1 0 16 ∉ s.path.upReads) := by decide
theorem test_meets_ObservationsAreTheControlPageWords :
    State.reset.observe (wr 1 0xFFFF400 256) = [.submit 0x07070707, .acknowledge 0x07070707]
      ∧ State.reset.observe (wr 1 0xFFFF410 16) = [] ∧ State.reset.observe (rd 1 0xFFFF480 16) = [.noticeRead]
      ∧ State.reset.observe (rd 1 0xFFFF500 256) = [.statusRead] ∧ State.reset.observe (rd 1 0xFFFF510 16) = []
      ∧ (halted State.reset).observe (rd 1 0xFFFF480 16) = [] := by decide
theorem test_meets_OutputWindowAccessesGoToTheEngineOrAreRefused :
    ((wr 1 0x30707F0 16).legal = true ∧ showing.isNext (wr 1 0x30707F0 16) = true
        ∧ showing.classify (wr 1 0x30707F0 16) = .refuse)
      ∧ ((rd 1 0x30707F0 16).legal = true ∧ showing.isNext (rd 1 0x30707F0 16) = true
        ∧ showing.classify (rd 1 0x30707F0 16) = .engine .a 460784) := by decide
theorem test_meets_CaptureWindowReadIsRedirectedToTheFillingSlot :
    ((rd 1 0x10707F0 16).legal = true ∧ (receiving 16).classify (rd 1 0x10707F0 16) = .redirect 460784
        ∧ (receiving 16).isNext (rd 1 0x10707F0 16) = true ∧ (receiving 16).hasRoom .read = true
        ∧ (receiving 16).slots.geom = some ⟨0x2000000, 640, 480, 462848⟩
        ∧ ((receiving 16).slots.slot 0).state = .filling ∧ ∀ j, j < 0 → ((receiving 16).slots.slot j).state ≠ .filling)
      ∧ (capturing.classify (rd 1 0x1000000 16) = .redirect 0 ∧ capturing.isNext (rd 1 0x1000000 16) = true
        ∧ capturing.hasRoom .read = true ∧ ∀ k, (capturing.slots.slot k).state ≠ .filling) :=
  ⟨by decide, by decide, by decide, by decide, no_filling⟩

theorem test_meets_ClassBResponsesAreReturnedInOrder :
    (let pre := [entry 1 .write false]
     let e := entry 2 .read false
     let post := [entry 3 .read false]
     (inQueue (pre ++ e :: post) State.reset).path.fwd = pre ++ e :: post ∧ (∀ x ∈ pre, x.dir ≠ .read)
       ∧ (∀ x ∈ post, x.dir = .read → x.resp = none) ∧ e.dir = .read ∧ e.id = 2 ∧ e.chroma = false
       ∧ e.granted = true ∧ e.resp = none ∧ (List.replicate 16 (0 : Byte)).length = e.len ∧ e.obs = []
       ∧ ({ e with obs := [.statusRead] } : FwdEntry).obs ≠ [] ∧ State.reset.notice.halted = false)
      ∧ (let e := entry 2 .read false
         let x : FwdEntry := { entry 3 .read false with resp := some (.error, []) }
         let s := inQueue ([entry 1 .write false] ++ e :: [entry 4 .write false] ++ x :: [entry 5 .read false]) State.reset
         s.path.fwd = [entry 1 .write false] ++ e :: [entry 4 .write false] ++ x :: [entry 5 .read false]
           ∧ e.awaits .read 2 false = true ∧ x.dir = .read ∧ x.resp = some (.error, []) ∧ e.obs = [])
      ∧ (let p1 := [entry 1 .write false]
         let x := entry 2 .read false
         let e := entry 3 .read false
         (inQueue (p1 ++ x :: [] ++ e :: []) State.reset).path.fwd = p1 ++ x :: [] ++ e :: []
           ∧ (∀ y ∈ p1, y.dir ≠ .read) ∧ x.dir = .read ∧ x.resp = none
           ∧ (∀ y ∈ p1 ++ x :: [], y.awaits .read 3 false = false) ∧ e.awaits .read 3 false = true) := by decide
theorem test_meets_ChromaWriteResponseAnswersTheCaptureWrite :
    let e := entry 2 .write true
    let pre := [entry 1 .read false]
    let s := inQueue (pre ++ e :: []) draining
    s.notice.halted = false ∧ s.path.fwd = pre ++ e :: [] ∧ (∀ x ∈ pre, x.dir ≠ .write) ∧ e.dir = .write
      ∧ e.id = 2 ∧ e.chroma = true ∧ e.granted = true ∧ e.resp = none ∧ e.obs = [] ∧ s.cap.tearing = false
      ∧ s.cap.slot = some 0 := by decide
theorem test_meets_ArbiterOrderIsABCDEWithItsExceptions :
    State.reset.notice.halted = false ∧ (halted (loaded .a 32 4 true)).notice.halted = true := by decide
theorem test_meets_GrantsIssueTheFirstWaitingTransaction :
    let f : RowFetch := ⟨0x2000000, 256, .luma, 0, false⟩
    (loaded .b 30 2 true).notice.halted = false ∧ configured.chooseGrant = some .d
      ∧ configured.recs.waiting = .record .head :: [.record .status]
      ∧ ({ State.reset with recs := ⟨[], []⟩ } : State).chooseGrant = none
      ∧ ((loaded .b 30 2 true).chooseGrant = some (.a .a) ∧ ((loaded .b 30 2 true).out .a).fetchWaiting = f :: [])
      ∧ ((loaded .a 2 2 false).chooseGrant = some .b
        ∧ (loaded .a 2 2 false).path.fwd = [] ++ ⟨1, .read, 0, 16, [], false, [], false, none⟩ :: [])
      ∧ ((loaded .a 1 3 false).chooseGrant = some .c
        ∧ (loaded .a 1 3 false).cap.lumaWaiting = ⟨0x2000000, List.replicate 16 0, 0⟩ :: [])
      ∧ ((loaded .b 32 3 true).chooseGrant = some .e ∧ 32 ≤ (loaded .b 32 3 true).path.lossCount
        ∧ (loaded .b 32 3 true).store.engine.waiting = ⟨.read, 0x2000100, [], false⟩ :: []) := by decide

/-- The ring in the state given with head 31. -/
def ringAt (st : RingState) (f : Option RecordInFlight) : State :=
  { State.reset with ring := { State.reset.ring with head := 31, tail := 31, state := st, flight := f } }
theorem test_meets_SubmitWordIsTakenByTheRingState :
    (∀ v : BitVec 32, let s := relaying .write [.submit v] (ringAt .idle none)
      s.notice.halted = false ∧ s.path.fwd = [entry 1 .read false] ++ observed .write [.submit v] :: [entry 3 .write false]
        ∧ (observed .write [.submit v]).resp = some (.okay, []) ∧ (observed .write [.submit v]).obs = [.submit v]
        ∧ s.ring.state = .idle ∧ s.ring.head = 31)
      ∧ 32 ≤ (32 : BitVec 32).toNat ∧ (31 : BitVec 32).toNat < 32
      ∧ ((ringAt .fetching (some ⟨31, .fetch⟩)).ring.state = .fetching
        ∧ (ringAt .fetching (some ⟨31, .fetch⟩)).ring.flight = some ⟨31, .fetch⟩)
      ∧ ((ringAt .stalled none).ring.state = .stalled ∧ (ringAt .stalled none).ring.head = 31)
      ∧ State.reset.path.fwd.find? (fun e => decide (e.dir = .write)) = none
      ∧ (inQueue [entry 3 .write false] State.reset).path.fwd.find? (fun e => decide (e.dir = .write))
        = some (entry 3 .write false) :=
  ⟨fun _ => ⟨rfl, rfl, rfl, rfl, rfl, rfl⟩, by decide, by decide, by decide, by decide, rfl, rfl⟩
/-- The fetch of record 31 is out. -/
def fetching : State := { ringAt .fetching (some ⟨31, .fetch⟩) with recs := ⟨[], [.fetch 0xFFFF3E0]⟩ }
theorem test_meets_DirectiveFetchResponseDispatchesOrStalls :
    fetching.notice.halted = false ∧ fetching.recs.fetchInFlight = some 0xFFFF3E0
      ∧ fetching.ring.flight = some ⟨31, .fetch⟩ := by decide
theorem test_meets_AnswerRaisesTheStatusWrite :
    let s := dispatched 31 (.claim 7) State.reset
    let r := (encodeDirective 0 (.claim 7)).getD []
    (s.ring.flight = some ⟨31, .dispatched r⟩ ∧ decodeDirective r = (Instr.claim 7).bare ∧ 16 ≤ r.length
      ∧ s.recs.waiting = [.record .head, .record .status] ∧ decodeDirective r ≠ (Instr.claim 8).bare)
      ∧ (let c := Instr.stopCapture 25
         let r := (encodeDirective 0 c).getD []
         (dispatched 31 c State.reset).ring.flight = some ⟨31, .dispatched r⟩ ∧ decodeDirective r = c.bare
           ∧ (acceptedAs 31 c State.reset).ring.flight = some ⟨31, .accepted r⟩ ∧ fieldAt r 0 1 = 3 ∧ 16 ≤ r.length) := by
  decide
/-- The types of the directives that are answered later: a record of each is 16 bytes or more of that type. -/
theorem test_types_of_the_later_answers :
    ∀ p ∈ [(Instr.stopCapture 0, 3), (.disableOutput 1, 7), (.openStore 0 1 60 2 0x4000000, 15), (.restart 0, 26)],
      let r := (encodeDirective 0 p.1).getD []
      fieldAt r 0 1 = p.2 ∧ decodeDirective r = p.1.bare ∧ r.length = 32 := by decide

/-- Record 31 is answered and its status write is out; the tail is `tail`. -/
def retiring (tail : Nat) : State :=
  { ringAt .fetching (some ⟨31, .answered (directiveRecord 14 1 [])⟩) with
    ring := { (ringAt .fetching (some ⟨31, .answered (directiveRecord 14 1 [])⟩)).ring with tail := tail }
    recs := ⟨[], [.write (.directive 31) 0xFFFF3E0 []]⟩ }
/-- One record write is out; the latches are all set or all clear. -/
def writing (k : Target) (a : Nat) (v : Bool) : State :=
  { State.reset with
    recs := ⟨[], [.write k a []]⟩
    notice := { State.reset.notice with latches := ⟨v, v, v, v, v, v⟩ } }
theorem test_meets_StatusWriteResponseRetiresTheRecord :
    (retiring 0).notice.halted = false ∧ (retiring 0).ring.flight = some ⟨31, .answered (directiveRecord 14 1 [])⟩
      ∧ (retiring 0).recs.flight.find? RecFlight.isStatusWrite = some (.write (.directive 31) 0xFFFF3E0 [])
      ∧ (31 + 1) % 32 = (retiring 0).ring.tail ∧ (31 + 1) % 32 ≠ (retiring 1).ring.tail
      ∧ notifies (directiveRecord 14 1 []) = true ∧ notifies (directiveRecord 14 0 []) = false
      ∧ (retiring 0).recs.flight.find? (RecFlight.writesAt 0xFFFF3E0) = some (.write (.directive 31) 0xFFFF3E0 [])
      ∧ (retiring 0).notice.latches.directive = false
      ∧ (writing (.directive 31) 0xFFFF3E0 true).notice.latches.directive = true := by decide
/-- The first ERROR of a run of status writes sets the latch and is counted; the second is not. -/
theorem test_status_write_errors_are_logged_once :
    (∃ t, exec (.directiveStatusWriteResponse .error) (retiring 0) = .next t ∧ t.notice.latches.directive = true
        ∧ t.notice.faults = 1 ∧ t.ring.head = 0)
      ∧ ∃ t, exec (.directiveStatusWriteResponse .error) { retiring 0 with
          notice := (writing (.directive 31) 0xFFFF3E0 true).notice } = .next t
        ∧ t.notice.latches.directive = true ∧ t.notice.faults = 0 ∧ t.ring.head = 0 :=
  ⟨⟨_, rfl, by decide, by decide, by decide⟩, ⟨_, rfl, by decide, by decide, by decide⟩⟩

theorem test_meets_RecordWriteResponseFollowsTheLatches :
    (writing .header 0 true).notice.halted = false
      ∧ (writing .header 0 true).recs.flight.find? (RecFlight.writesAt 0) = some (.write .header 0 [])
      ∧ Target.header.latch = some .store ∧ (∀ i, Target.header ≠ .directive i)
      ∧ (writing .header 0 true).notice.latches.get .store = true
      ∧ (writing .status 0xFFFF500 false).notice.latches.get .status = false ∧ Target.status.latch = some .status :=
  ⟨by decide, by decide, by decide, fun _ h => Target.noConfusion h, by decide, by decide, by decide⟩
theorem test_meets_DoubleFaultHaltsThePart :
    (writing (.fault 7) 0xFFFF7E0 true).notice.halted = false
      ∧ (writing (.fault 7) 0xFFFF7E0 true).recs.flight.find? (RecFlight.writesAt 0xFFFF7E0)
        = some (.write (.fault 7) 0xFFFF7E0 []) := by decide
theorem test_meets_UnknownTypeIsAnsweredRefusedFormat :
    State.reset.notice.halted = false ∧ 27 ≤ (27 : BitVec 8).toNat ∧ 27 ≤ (255 : BitVec 8).toNat
      ∧ 1 ≤ (1 : BitVec 8).toNat ∧ (26 : BitVec 8).toNat ≤ 26 := by decide
theorem test_meets_DecodingADirectiveRecordGivesTheDirective :
    encodeDirective 1 (.claim 256) = some ([20, 1, 0, 0, 0, 0, 0, 1] ++ List.replicate 24 0) := by decide
theorem test_meets_EventsAndFaultsReachTheNoticeUnit :
    State.reset.notice.isPending .woken = false ∧ (State.reset.raise .woken).notice.isPending .woken = true
      ∧ EventKind.woken ≠ .fault ∧ (State.reset.raise .fault).notice.isPending .fault = true := by decide
theorem test_meets_AcknowledgesAndNoticeReadsAreObserved :
    (∀ obs, let s := relaying .write obs (State.reset.raise .woken)
      s.notice.halted = false ∧ (observed .write obs).resp = some (.okay, []) ∧ (observed .write obs).obs = obs
        ∧ s.path.fwd = [entry 1 .read false] ++ observed .write obs :: [entry 3 .write false])
      ∧ (let s := relaying .read [.noticeRead] (State.reset.raise .woken)
         s.path.fwd = [entry 1 .write false] ++ observed .read [.noticeRead] :: [entry 3 .read false]
           ∧ .record .notice ∈ s.recs.waiting ∧ .record .notice ∉ State.reset.recs.waiting ∧ State.reset.recs.flight = [])
      ∧ .write .notice 0xFFFF480 [] ∈ (writing .notice 0xFFFF480 false).recs.flight
      ∧ State.reset.path.fwd.find? (fun e => decide (e.dir = .read)) = none :=
  ⟨fun _ => ⟨rfl, rfl, rfl, rfl⟩, ⟨rfl, by decide, by decide, rfl⟩, by decide, rfl⟩
theorem test_meets_SetNoticeUpdatesEnablesAndThreshold :
    State.reset.notice.halted = false ∧ 7 < (8 : BitVec 8).toNat ∧ ¬7 < (7 : BitVec 8).toNat := by decide
theorem test_meets_RecordsHaveTheirLengths :
    opened.store.geom ≠ none ∧ State.reset.slots.slots.length = 6 ∧ (signature 1 9 7).means.length = 192 ∧ State.reset.ring.head < 32
      ∧ (ringAt .idle none).ring.tail = 31 ∧ State.reset.gov.sample = none :=
  ⟨by decide, by decide, by simp only [signature, List.length_append, List.length_replicate], by decide, by decide, rfl⟩
/-- The boundaries of R166: the states of 95, 96, 104, 105, 110, 111, 119 and 120 from each state. -/
theorem test_temperature_boundaries :
    [95, 96, 104, 105, 110, 111, 119, 120].map TempState.normal.after
        = [.normal, .normal, .normal, .reduced, .reduced, .reduced, .reduced, .critical]
      ∧ [95, 96, 104, 105, 110, 111, 119, 120].map TempState.reduced.after
        = [.normal, .reduced, .reduced, .reduced, .reduced, .reduced, .reduced, .critical]
      ∧ [95, 96, 104, 105, 110, 111, 119, 120].map TempState.critical.after
        = [.normal, .reduced, .reduced, .reduced, .reduced, .critical, .critical, .critical] := by decide
theorem test_meets_SampleMovesTheTemperatureState :
    State.reset.gov.state.after (-40) = State.reset.gov.state
      ∧ (atTemp .critical true State.reset).gov.state.after 150 = .critical := by decide
theorem test_meets_SamplesAndStatusReadsReachTheGovernor :
    TempState.normal.rank < (TempState.normal.after 105).rank
      ∧ ((TempState.critical.after 110).rank < TempState.critical.rank ∧ TempState.critical.after 110 ≠ .normal)
      ∧ (TempState.reduced.after 95 = .normal ∧ TempState.reduced ≠ .normal)
      ∧ (let s := paused (copying 0 ⟨.read, 0x2000000, [], false⟩ [])
         s.store.engine.state = .paused 0 ∧ s.store.queue = requestOf 0 :: [])
      ∧ (∀ obs ∈ [[Obs.statusRead], [.noticeRead, .statusRead]],
          let s := relaying .read obs (atTemp .normal true State.reset)
          s.notice.halted = false ∧ s.gov.state = .normal ∧ s.gov.flag = true
            ∧ (observed .read obs).resp = some (.okay, []) ∧ (observed .read obs).obs = obs
            ∧ s.path.fwd = [entry 1 .write false] ++ observed .read obs :: [entry 3 .read false])
      ∧ State.reset.gov.flag = false ∧ (atTemp .reduced true State.reset).gov.state ≠ .normal := by decide
/-- The smallest capture fits beside the control page at 0x0FFFF000, and so does the largest that ends with the
36-bit space. -/
theorem capture_fits (w h base region : Nat) (hw : 640 ≤ w ∧ w ≤ 4096 ∧ w % 64 = 0)
    (hh : 480 ≤ h ∧ h ≤ 3072 ∧ h % 48 = 0) (hb : base % 4096 = 0 ∧ region % 4096 = 0)
    (ha : 0x10000000 ≤ base ∧ base + w * h * 3 / 2 ≤ region ∧ region + 6 * frameSize w h ≤ 2 ^ 36) :
    State.reset.CaptureFits w h base region := by
  have hc : State.reset.controlPage = ⟨0xFFFF000, 4096⟩ := rfl
  refine ⟨hw, hh, hb.1, hb.2, by simp only; omega, by simp only; omega, ?_, ?_, apart_of (Or.inl ha.2.1), ?_, ?_⟩
  · exact apart_of (Or.inr (by rw [hc]; simpa using ha.1))
  · exact apart_of (Or.inr (by rw [hc]; simp only; omega))
  · intro x g h; cases x <;> cases h
  · intro h; exact absurd rfl h
theorem test_meets_ConfigureCaptureIsRefusedOrTaken :
    (State.reset.notice.halted = false ∧ State.reset.cap.running = false
        ∧ ∀ sl ∈ State.reset.slots.slots, sl.isHeld = false)
      ∧ capturing.cap.running = true ∧ (∃ sl ∈ latched.slots.slots, sl.isHeld = true)
      ∧ State.reset.CaptureFits 640 480 0x10000000 0x10071000
      ∧ State.reset.CaptureFits 4096 3072 0xFF8000000 0xFF9200000
      ∧ ¬State.reset.CaptureFits 576 480 0x10000000 0x10071000
      ∧ ¬State.reset.CaptureFits 4160 480 0x10000000 0x11000000 :=
  ⟨by decide, by decide, by decide, capture_fits 640 480 _ _ (by decide) (by decide) (by decide) (by decide),
    capture_fits 4096 3072 _ _ (by decide) (by decide) (by decide) (by decide),
    fun h => absurd h.1.1 (by decide), fun h => absurd h.1.2.1 (by decide)⟩

/-- STANDBY: output A is HELD on slot 2 and output B with no slot; slot 2 carries FREEZE_A and SHOW_B. -/
def standing : State :=
  let s := withReady [2] capturing
  { s with
    mon := { s.mon with state := .standby, holdA := true, holdB := true }
    outA := { s.outA with source := .held 2 }
    outB := { s.outB with source := .heldNone }
    slots := (s.slots.takeFreeze .a 2).takeShow .b 2 }
theorem test_meets_CaptureStartsAndStops :
    (State.reset.notice.halted = false ∧ State.reset.cap.geom = none)
      ∧ capturing.cap.running = true ∧ (configured.cap.geom ≠ none ∧ configured.cap.running = false)
      ∧ (capturing.notice.halted = false ∧ capturing.cap.tearing = false ∧ capturing.cap.tracker = .none)
      ∧ ((receiving 16).cap.running = true ∧ (receiving 16).cap.tearing = false
        ∧ (receiving 16).cap.tracker = .receiving ∧ (receiving 16).cap.lumaFlight = [] ∧ (receiving 16).path.fwd = [])
      ∧ ((lumaOut (receiving 16)).cap.tracker = .receiving ∧ (lumaOut (receiving 16)).cap.tearing = false
        ∧ (lumaOut (receiving 16)).cap.lumaFlight ≠ [])
      ∧ (draining.cap.running = true ∧ draining.cap.tracker = .draining) ∧ tearing.cap.tearing = true
      ∧ (standing.cap.running = true ∧ standing.cap.tracker = .none ∧ standing.mon.onHold .a = true
        ∧ (standing.out .a).source = .held 2 ∧ standing.mon.onHold .b = true ∧ (standing.out .b).source = .heldNone)
      ∧ (((receiving 16).slots.slot 0).state = .filling ∧ ∀ j, j < 0 → ((receiving 16).slots.slot j).state ≠ .filling)
      ∧ (dispatched 3 (.stopCapture 25) standing).ring.flight.isSome = true := by decide
/-- A stop in STANDBY, answered at once: output A is LIVE, its FREEZE tag is off slot 2 and the SHOW tag of B stays. -/
theorem test_stop_in_standby :
    (match exec (.stopCapture 25) (dispatched 3 (.stopCapture 25) standing) with
      | .next t => decide (t.outA.source = .live ∧ t.outB.source = .live ∧ (t.slots.slot 2).freezeA = false
          ∧ (t.slots.slot 2).showB = true ∧ (t.slots.slot 2).state = .ready ∧ t.mon.state = .off
          ∧ t.recs.waiting.getLast? = some (.given (.directive 3) ([3, 0, 1] ++ List.replicate 13 0)))
      | _ => false) = true := by decide +kernel
theorem test_meets_SetEnhanceReplacesTheStagedSettings :
    configured.notice.halted = false ∧ 2 < (3 : BitVec 8).toNat ∧ (2 : BitVec 8).toNat ≤ 2
      ∧ configured.cap.running = false ∧ capturing.cap.running = true := by decide

/-- A place that holds `n` bytes of line `y`. -/
def held (y n : Nat) (c : LineCond) : Option Place := some ⟨y, false, c, List.replicate n 7, 0⟩
theorem test_meets_FrameStartFixesTheFrame :
    let t := wr 1 0x1000000 16
    ((wr 1 0x1000000 16).legal = true ∧ (wr 1 0x1000000 16).dir = .write
      ∧ capturing.classify (wr 1 0x1000000 16) = .enhancer 0 ∧ capturing.cap.geom = some ⟨0x1000000, 640, 480⟩
      ∧ (⟨0x1000000, 640, 480⟩ : CapGeom).Legal ∧ capturing.isNext (wr 1 0x1000000 16) = true
      ∧ capturing.cap.tearing = false ∧ capturing.cap.tracker = .none ∧ capturing.gov.state = .normal
      ∧ (atTemp .reduced true capturing).gov.state = .reduced
      ∧ (atTemp .reduced true capturing).classify (wr 1 0x1000000 16) = .enhancer 0)
    ∧ (∀ s ∈ [receiving 16, lumaOut (receiving 16)], s.classify t = .enhancer 0 ∧ s.isNext t = true
        ∧ s.cap.tearing = false ∧ s.cap.tracker = .receiving ∧ (s.slots.slot 0).state = .filling
        ∧ 0 < s.slots.slots.length ∧ s.path.fwd = [])
    ∧ (receiving 16).cap.lumaFlight = [] ∧ (lumaOut (receiving 16)).cap.lumaFlight ≠ []
    ∧ (draining.classify t = .enhancer 0 ∧ draining.cap.tracker = .draining)
    ∧ (tearing.classify t = .enhancer 0 ∧ tearing.cap.tearing = true) :=
  ⟨⟨by decide, by decide, by decide, by decide, by unfold CapGeom.Legal; decide, by decide, by decide, by decide,
    by decide, by decide, by decide⟩, by decide, by decide, by decide, by decide, by decide⟩
/-- The start write of a frame: sixteen bytes of 7 in tile 0, and in line 0's place of a stored frame. -/
theorem test_frame_start_takes_its_write :
    (match exec (.frameStart (wr 1 0x1000000 16) 25) { capturing with cap := { capturing.cap with
        sums := List.replicate 192 9, whites := List.replicate 192 9, places := [none, held 5 640 .neighbour] } } with
      | .next t => decide (t.cap.sums = 112 :: List.replicate 191 0 ∧ t.cap.whites = 7 :: List.replicate 191 0
          ∧ t.cap.places = [held 0 16 .receiving, none, none, none] ∧ (t.slots.slot 0).width = 640
          ∧ (t.slots.slot 0).height = 480)
      | _ => false) = true := by decide +kernel
theorem test_meets_FrameStartChoosesTheSlotToFill :
    (∀ k, (capturing.slots.slot k).state ≠ .filling)
      ∧ ((withReady [4, 3, 2, 1, 0] capturing).classify (wr 1 0x1000000 16) = .enhancer 0
        ∧ ((withReady [4, 3, 2, 1, 0] capturing).slots.slot 5).state = .free
        ∧ ∀ j, j < 5 → ((withReady [4, 3, 2, 1, 0] capturing).slots.slot j).state ≠ .free)
      ∧ (let s := withReady [1, 0, 5, 2, 3, 4] capturing
         let t := { s with slots := s.slots.takeCopy 1 }
         (∀ j, j < 6 → (t.slots.slot j).state ≠ .free) ∧ t.slots.slots.length = 6
           ∧ t.slots.ready = [1] ++ 0 :: [5, 2, 3, 4] ∧ (t.slots.slot 0).isHeld = false
           ∧ (∀ j ∈ [1], (t.slots.slot j).isHeld = true))
      ∧ (let s := withReady [1, 0, 5, 2, 3, 4] capturing
         let t := { s with slots := [1, 0, 5, 2, 3].foldl (fun u k => u.takeCopy k) s.slots }
         (∀ j, j < t.slots.slots.length → (t.slots.slot j).state ≠ .free)
           ∧ ∀ j ∈ t.slots.ready.dropLast, (t.slots.slot j).isHeld = true) :=
  ⟨no_filling, by decide, by decide, by decide⟩

/-- The line buffer holds four lines that the write at line 4 does not meet. -/
def bufferFull : State := { receiving 2560 with cap := { (receiving 2560).cap with
  places := [0, 1, 2, 3].map fun y => some ⟨y, false, .complete, [], 0⟩ } }
def dropping (off : Nat) : State :=
  { receiving off with cap := { (receiving off).cap with dropped := true, slot := none } }
def broken (s : State) : State := { s with cap := { s.cap with broken := true, degraded := true } }
/-- A frame RECEIVING with the next write at `off`, line `next` the next to be emitted, and the places given. -/
def lined (off next : Nat) (kind : FrameKind) (places : List (Option Place)) : State :=
  { receiving off with cap := { (receiving off).cap with frameKind := kind, nextEmit := next, places := places } }
/-- A write of 16 bytes that begins a line, goes on with it, or ends it: the shared conditions at line `y`. -/
abbrev AtLine (off y : Nat) (s : State) : Prop :=
  let t := wr 1 (0x1000000 + off) 16
  let g : CapGeom := ⟨0x1000000, 640, 480⟩
  (t.legal = true ∧ s.classify t = .enhancer off ∧ off ≠ 0 ∧ s.cap.geom = some g ∧ s.isNext t = true
    ∧ s.cap.tearing = false ∧ s.cap.tracker = .receiving ∧ off = s.cap.expected ∧ s.cap.dropped = false
    ∧ s.cap.broken = false ∧ s.cap.acceptsLines g off 16 = true ∧ s.cap.slot = some 0
    ∧ s.slots.geom = some ⟨0x2000000, 640, 480, 462848⟩)
  ∧ (y < g.h ∧ y * g.w ≤ off ∧ off + 16 ≤ (y + 1) * g.w ∧ s.cap.placeOf (y + 1) = none
    ∧ ((s.cap.frameKind = .plain ∧ s.cap.nextEmit = y) ∨ (s.cap.frameKind ≠ .plain ∧ s.cap.nextEmit + 1 = max y 1)))
set_option maxRecDepth 4000 in
theorem test_meets_the_lines_of_CaptureWriteFollowsTheTracker :
    (let s := lined 640 1 .plain [none, none, none, none]
     AtLine 640 1 s ∧ s.cap.placeOf 1 = none ∧ s.cap.freePlace = some 0)
      ∧ (let s := lined 16 0 .enhanced [held 0 16 .receiving, none, none, none]
         AtLine 16 0 s ∧ s.cap.placeOf 0 = some 0 ∧ 16 + 16 < 640)
      ∧ (∀ k ∈ [FrameKind.plain, .enhanced], let s := lined 624 0 k [held 0 624 .receiving, none, none, none]
         AtLine 624 0 s ∧ s.cap.placeOf 0 = some 0 ∧ 624 + 16 = 640)
      ∧ (let s := lined 1264 0 .enhanced [held 0 640 .complete, held 1 624 .receiving, none, none]
         AtLine 1264 1 s ∧ s.cap.placeOf 1 = some 1 ∧ s.cap.placeOf 0 = some 0)
      ∧ (let s := lined 307184 478 .enhanced
           [held 477 640 .neighbour, held 478 640 .complete, held 479 624 .receiving, none]
         AtLine 307184 479 s ∧ s.cap.placeOf 479 = some 2 ∧ s.cap.placeOf 478 = some 1 ∧ s.cap.placeOf 477 = some 0
           ∧ s.cap.places.getD 0 none = held 477 640 .neighbour) := by
  refine ⟨by decide, by decide, ?_, by decide, by decide⟩
  intro k hk; fin_cases hk <;> decide
theorem test_meets_raw_length : (List.replicate 624 (7 : Byte)).length = 1264 - 1 * 640 := List.length_replicate
/-- As `lined`, with frames of 704 × 480, whose luma does not end at a 4 KiB boundary. -/
def linedWide (off next : Nat) (kind : FrameKind) (places : List (Option Place)) : State :=
  let s := lined off next kind places
  { s with
    cap := { s.cap with geom := some ⟨0x1000000, 704, 480⟩ }
    slots := { s.slots with geom := some ⟨0x2000000, 704, 480, 507904⟩ } }
/-- A write of 32 bytes that crosses the end of line `y`, which stands in place `k`. -/
abbrev Crosses (g : CapGeom) (off y k : Nat) (s : State) : Prop :=
  let t := wr 1 (0x1000000 + off) 32
  (t.legal = true ∧ s.classify t = .enhancer off ∧ off ≠ 0 ∧ s.cap.geom = some g ∧ s.isNext t = true
    ∧ s.cap.tearing = false ∧ s.cap.tracker = .receiving ∧ off = s.cap.expected ∧ s.cap.dropped = false
    ∧ s.cap.broken = false ∧ s.cap.slot = some 0 ∧ s.slots.geom ≠ none)
  ∧ (y < g.h ∧ y * g.w ≤ off ∧ off < (y + 1) * g.w ∧ (y + 1) * g.w < off + 32 ∧ s.cap.placeOf y = some k
    ∧ s.cap.placeOf (y + 1) = none
    ∧ ((s.cap.frameKind = .plain ∧ s.cap.nextEmit = y) ∨ (s.cap.frameKind ≠ .plain ∧ s.cap.nextEmit + 1 = max y 1)))
set_option maxRecDepth 4000 in
theorem test_meets_the_crossings_of_CaptureWriteFollowsTheTracker :
    let g : CapGeom := ⟨0x1000000, 640, 480⟩
    let wide : CapGeom := ⟨0x1000000, 704, 480⟩
    (∀ k ∈ [FrameKind.plain, .enhanced], let s := lined 624 0 k [held 0 624 .receiving, none, none, none]
      Crosses g 624 0 0 s ∧ s.cap.acceptsLines g 624 32 = true)
      ∧ (let s := lined 1264 0 .enhanced [held 0 640 .complete, held 1 624 .receiving, none, none]
         Crosses g 1264 1 1 s ∧ s.cap.acceptsLines g 1264 32 = true ∧ s.cap.placeOf 0 = some 0)
      ∧ (let s := lined 306544 477 .enhanced
           [held 476 640 .neighbour, held 477 640 .complete, held 478 624 .receiving, none]
         Crosses g 306544 478 2 s ∧ s.cap.acceptsLines g 306544 32 = true ∧ s.cap.placeOf 477 = some 1
           ∧ s.cap.placeOf 476 = some 0)
      ∧ (let s := linedWide 337904 479 .plain [held 479 688 .receiving, none, none, none]
         Crosses wide 337904 479 0 s ∧ s.cap.acceptsLines wide 337904 16 = true ∧ s.hasRoom .write = true)
      ∧ (let s := linedWide 337904 478 .enhanced
           [held 477 704 .neighbour, held 478 704 .complete, held 479 688 .receiving, none]
         Crosses wide 337904 479 2 s ∧ s.cap.acceptsLines wide 337904 16 = true ∧ s.hasRoom .write = true
           ∧ s.cap.placeOf 478 = some 1 ∧ s.cap.placeOf 477 = some 0)
      ∧ (let s := broken (linedWide 337904 479 .plain [none, none, none, none])
         s.classify (wr 1 0x10527F0 32) = .enhancer 337904 ∧ 337904 < wide.w * wide.h
           ∧ wide.w * wide.h < 337904 + 32 ∧ s.cap.freePlace = some 0 ∧ s.hasRoom .write = true)
      ∧ (let s := linedWide 16 0 .enhanced [held 0 16 .receiving, none, none, none]
         s.classify (wr 1 0x10527F0 32) = .enhancer 337904
           ∧ s.acceptsWrite wide 337904 (wr 1 0x10527F0 32).data = true) := by
  refine ⟨?_, by decide, by decide, by decide, by decide, by decide, by decide⟩
  intro k hk; fin_cases hk <;> decide
set_option maxRecDepth 4000 in
theorem test_meets_the_broken_order_of_CaptureWriteFollowsTheTracker :
    (let s := broken (lined 16 0 .enhanced [none, none, none, none])
     s.classify (wr 1 0x1000010 16) = .enhancer 16 ∧ s.cap.broken = true ∧ 16 = s.cap.expected
       ∧ s.cap.dropped = false ∧ s.cap.freePlace = some 0)
      ∧ (let s := broken bufferFull
         s.classify (wr 1 0x1000A00 16) = .enhancer 2560 ∧ s.cap.freePlace = none)
      ∧ (let s := lined 16 0 .enhanced [held 0 16 .receiving, held 3 640 .complete, none, none]
         s.cap.broken = false ∧ 48 ≠ s.cap.expected ∧ s.classify (wr 1 0x1000030 16) = .enhancer 48
           ∧ s.acceptsWrite ⟨0x1000000, 640, 480⟩ 48 (wr 1 0x1000030 16).data = true
           ∧ s.cap.placeOf 0 = some 0 ∧ s.cap.placeOf 3 = some 1 ∧ 3 < s.cap.nextEmit + 4)
      ∧ (∀ n ∈ [1, 2], let s := loaded .a 1 3 false
         let w : LumaWrite := ⟨0x2000000, List.replicate 16 0, 0⟩
         let c := { s.cap with places := [some ⟨5, false, .emitted, [], n⟩], nextEmit := 6, geom := none }
         let t := { s with cap := { c with places := c.places ++ s.cap.places.drop 1 } }
         t.chooseGrant = some .c ∧ t.cap.lumaWaiting = w :: [] ∧ t.cap.places.getD w.place none
           = some ⟨5, false, .emitted, [], n⟩ ∧ t.cap.broken = false ∧ t.cap.frameKind ≠ .plain) := by decide
set_option maxRecDepth 4000 in
theorem test_meets_CaptureWriteFollowsTheTracker :
    let g : CapGeom := ⟨0x1000000, 640, 480⟩
    ((wr 1 0x1000010 16).legal = true ∧ (wr 1 0x1000010 16).dir = .write
        ∧ capturing.classify (wr 1 0x1000010 16) = .enhancer 16 ∧ capturing.cap.geom = some g
        ∧ capturing.isNext (wr 1 0x1000010 16) = true ∧ capturing.cap.tearing = false
        ∧ capturing.cap.tracker ≠ .receiving ∧ draining.cap.tracker ≠ .receiving)
      ∧ ((dropping 16).classify (wr 1 0x1000010 16) = .enhancer 16 ∧ (dropping 16).cap.tracker = .receiving
        ∧ 16 = (dropping 16).cap.expected ∧ (dropping 16).cap.dropped = true ∧ 16 + 16 ≠ g.w * g.h * 3 / 2)
      ∧ ((receiving 307184).classify (wr 1 0x104AFF0 16) = .enhancer 307184
        ∧ (receiving 307184).cap.dropped = false ∧ (receiving 307184).cap.broken = false ∧ 307184 + 16 ≤ g.w * g.h
        ∧ (receiving 307184).cap.acceptsLines g 307184 16 = true)
      ∧ (bufferFull.classify (wr 1 0x1000A00 16) = .enhancer 2560 ∧ bufferFull.cap.dropped = false
        ∧ bufferFull.cap.acceptsLines g 2560 16 = false)
      ∧ ((receiving 460784).classify (wr 1 0x10707F0 16) = .enhancer 460784
        ∧ (receiving 460784).hasRoom .write = true ∧ g.w * g.h ≤ 307200 ∧ 460784 + 16 = g.w * g.h * 3 / 2
        ∧ (receiving 460784).slots.geom = some ⟨0x2000000, 640, 480, 462848⟩)
      ∧ ((receiving 16).classify (wr 1 0x1000020 16) = .enhancer 32 ∧ 32 ≠ (receiving 16).cap.expected
        ∧ (receiving 16).acceptsWrite g 32 (wr 1 0x1000020 16).data = true
        ∧ ((receiving 16).slots.slot 0).state = .filling ∧ 0 < (receiving 16).slots.slots.length
        ∧ (receiving 16).cap.broken = false ∧ (receiving 16).cap.degraded = false
        ∧ (broken (receiving 16)).acceptsWrite g 32 (wr 1 0x1000020 16).data = true)
      ∧ (g.Legal ∧ (receiving 16).cap.sums.length = 192 ∧ (receiving 16).cap.whites.length = 192
        ∧ (dropping 460784).classify (wr 1 0x10707F0 16) = .enhancer 460784
        ∧ (dropping 460784).cap.dropped = true ∧ 460784 = (dropping 460784).cap.expected
        ∧ (dropping 460784).cap.degraded = false ∧ (dropping 460784).cap.frameLevelling ≠ .hold) :=
  ⟨by decide, by decide, by decide, by decide, by decide, by decide,
    ⟨by unfold CapGeom.Legal; decide, List.length_replicate, List.length_replicate, by decide, rfl, rfl, rfl, by decide⟩⟩
/-- A write away from the expected offset that ends at the frame's last byte; the boundary figures of R67. -/
theorem test_meets_the_last_write_of_CaptureWriteFollowsTheTracker :
    let g : CapGeom := ⟨0x1000000, 640, 480⟩
    let t := wr 1 0x10707F0 16
    (∀ s ∈ [receiving 16, dropping 16], s.classify t = .enhancer 460784 ∧ s.isNext t = true ∧ s.cap.tearing = false
        ∧ s.cap.tracker = .receiving ∧ 460784 ≠ s.cap.expected ∧ s.acceptsWrite g 460784 t.data = true
        ∧ 460784 + 16 = g.w * g.h * 3 / 2 ∧ s.cap.broken = false)
      ∧ (receiving 16).cap.dropped = false ∧ (dropping 16).cap.dropped = true
      ∧ bufferFull.acceptsWrite g 2560 t.data = false
      ∧ (let s := broken (receiving 16)
         s.classify t = .enhancer 460784 ∧ 460784 ≠ s.cap.expected ∧ s.cap.broken = true ∧ s.hasRoom .write = true)
      ∧ (let c := (lined 624 0 .enhanced [held 0 624 .receiving, held 2 640 .complete, held 3 640 .complete, none]).cap
         c.acceptsLines g 624 32 = true ∧ c.acceptsLines g 624 16 = true ∧ c.placeOf 0 = some 0 ∧ c.placeOf 1 = none
           ∧ ({ c with places := c.places.take 3 } : Capture).acceptsLines g 624 32 = false
           ∧ ({ c with places := c.places.take 3 } : Capture).acceptsLines g 624 16 = true) := by decide
/-- What such a write does: a stored frame drains, a dropped one ends; either is degraded. -/
theorem test_last_write_out_of_order :
    ([receiving 16, dropping 16].map fun s => match exec (.captureWrite (wr 1 0x10707F0 16) 25) s with
      | .next t => (t.cap.tracker, t.cap.degraded, t.gov.sample)
      | _ => (.receiving, false, none)) = [(.draining, true, none), (.none, true, some 25)] := by decide +kernel
theorem test_meets_TearFinishesWhenItsResponsesHaveReturned :
    (tearing.notice.halted = false ∧ tearing.cap.tearing = true ∧ tearing.cap.lumaFlight = [] ∧ tearing.path.fwd = []
        ∧ tearing.cap.stopping = false ∧ tearing.ring.restarting = false)
      ∧ ({ tearing.cap with stopping := true } : Capture).stopping = true
      ∧ (({ tearing.ring with restarting := true } : Ring).restarting = true ∧ tearing.outA.leaving = false
        ∧ tearing.outB.leaving = false ∧ tearing.store.engine.flight = []
        ∧ ({ tearing.outA with leaving := true } : Engine).leaving = true)
      ∧ (lumaOut tearing).cap.lumaFlight ≠ [] := by decide
theorem test_meets_FrameCompletionMakesTheSlotReady :
    (draining.notice.halted = false ∧ draining.cap.tracker = .draining ∧ draining.cap.lumaWaiting = []
        ∧ draining.cap.lumaFlight = [] ∧ draining.path.fwd = [] ∧ draining.cap.stopping = false)
      ∧ (0 < draining.slots.slots.length ∧ (draining.slots.slot 0).state = .filling
        ∧ ∀ j, j < 0 → (draining.slots.slot j).state ≠ .filling)
      ∧ (draining.cap.degraded = false ∧ draining.cap.frameLevelling ≠ .hold
        ∧ draining.cap.geom = some ⟨0x1000000, 640, 480⟩)
      ∧ ({ draining.cap with stopping := true } : Capture).stopping = true
      ∧ (draining.mon.state ≠ .active ∧ draining.mon.settings.standby = false
        ∧ ({ draining.mon with state := .active } : Monitor).state = .active)
      ∧ (broken draining).cap.degraded = true ∧ (lumaOut draining).cap.lumaFlight ≠ [] := by decide
theorem test_meets_LumaWriteErrorDegradesTheFrameOnce :
    (let s := lumaOut (receiving 16)
     s.notice.halted = false
      ∧ s.cap.lumaFlight.find? (fun w => decide (w.addr = 0x2000000)) = some ⟨0x2000000, [], 0⟩
      ∧ s.cap.slot = some 0 ∧ s.cap.tearing = false ∧ s.cap.degraded = false ∧ (broken s).cap.degraded = true
      ∧ (0 < s.slots.slots.length ∧ (s.slots.slot 0).state = .filling))
    ∧ ((lumaOut tearing).cap.tearing = true ∧ (lumaOut tearing).cap.lumaFlight = [⟨0x2000000, [], 0⟩])
    ∧ ∀ w ∈ (lumaOut tearing).cap.lumaFlight, w.addr ≠ 0x2000010 := by decide
/-- The edges of R73 at dark floors 32 and 128. -/
theorem test_meets_TileGainIsTheRatioToTheTargetWhite :
    tileGain 32 31 = 256 ∧ tileGain 32 32 = 1024 ∧ tileGain 32 58 = 1024 ∧ tileGain 32 59 = 1020
      ∧ tileGain 128 127 = 256 ∧ tileGain 128 128 = 470 ∧ tileGain 64 235 = 256 ∧ tileGain 64 255 = 256 := by decide
theorem test_meets_EnhancementKeepsFlatAreasAndTheGainRange :
    (∀ n ∈ [256, 1024], 256 ≤ n ∧ n ≤ 1024)
      ∧ (let centre := fun (j : Nat) => j * 40 + 40 / 2
         0 < centre 0 ∧ 19 < centre 0 ∧ centre 0 ≤ 20 ∧ 20 < centre 1 ∧ centre 10 ≤ 459 ∧ 459 < centre 11
           ∧ centre 11 ≤ 460 ∧ 619 < centre 15 ∧ centre 15 ≤ 620) ∧ 639 < 640 := by decide
/-- R71, R72: a detail of 40 cored by 2 at a gain of 16 adds 38; over 255 the pixel is clamped. -/
theorem test_enhanced_pixel :
    enhancePixel 16 2 256 100 100 100 100 153 100 100 100 100 = 191
      ∧ enhancePixel 16 2 512 100 100 100 100 153 100 100 100 100 = 255 := by decide

/-- The monitor in state `st` after the update `f`, with the settings of reset (a threshold of 12, K 8, hold 20). -/
def monitorAt (st : MonState) (f : Monitor → Monitor) : State :=
  { capturing with mon := f { capturing.mon with state := st } }
def flat : List Nat := (signature 0 0 200).means
/-- Seven and eight tiles differ by 13 from `flat`. -/
theorem score_edges : score 12 (signature 7 213 200).means flat = 7 ∧ score 12 (signature 8 213 200).means flat = 8
    ∧ score 12 (signature 8 212 200).means flat = 0 := by decide
theorem test_meets_EvaluatedFramesAreScoredAndMoveTheMonitor :
    (flat.length = 192 ∧ State.reset.mon.state = .off)
      ∧ ((monitorAt .motion id).mon.state = .motion ∧ (monitorAt .motion id).mon.previous = none)
      ∧ (let m := (monitorAt .motion fun m => { m with previous := some flat, stable := 19 }).mon
         m.previous = some flat ∧ m.settings.hold = 20 ∧ m.settings.k = 8 ∧ m.settings.delta = 12
           ∧ m.settings.hold ≤ m.stable + 1 ∧ 0 < m.settings.hold)
      ∧ (let m := (monitorAt .active fun m => { m with reference := some flat, idle := 8999 }).mon
         m.reference = some flat ∧ m.settings.standby = false)
      ∧ (let m := (monitorAt .active fun m =>
           { m with reference := some flat, idle := 8999, settings := { m.settings with standby := true } }).mon
         m.settings.idle ≠ 0 ∧ m.settings.standby = true ∧ m.settings.idle ≤ min (m.idle + 1) 65535
           ∧ latched.outA.source = .live ∧ (.recalled 0 : Source) ≠ .live)
      ∧ (let m := (monitorAt .standby fun m => { m with reference := some flat, scan := 6 }).mon
         m.state = .standby ∧ m.scan + 1 < m.settings.scan)
      ∧ (let m := (monitorAt .standby fun m => { m with
           reference := some flat, scan := 7, presence := 1, holdA := true
           settings := { m.settings with presence := 2 } }).mon
         m.settings.scan ≤ m.scan + 1 ∧ m.settings.presence ≠ 0
           ∧ m.settings.presence ≤ min (m.presence + 1) 65535 ∧ m.onHold .a = true ∧ m.onHold .b = false)
      ∧ (monitorAt .standby id).mon.settings.presence = 0
      ∧ (let m := (monitorAt .motion fun m =>
           { m with saved := some flat, settings := { m.settings with auto := true } }).mon
         m.settings.auto = true ∧ m.saved = some flat ∧ ({ opened.store with lesson := some 1 } : Store).lesson ≠ none ∧ m.settings.k ≤ 8) :=
  ⟨⟨by simp only [flat, signature, List.length_append, List.length_replicate], rfl⟩, ⟨rfl, rfl⟩,
    ⟨rfl, rfl, rfl, rfl, by decide, by decide⟩, ⟨rfl, rfl⟩, by decide, by decide, by decide, by decide,
    ⟨rfl, rfl, by decide, by decide⟩⟩
theorem test_meets_SetMonitorAndWakeMoveTheMonitor :
    (capturing.notice.halted = false ∧ 1 < (2 : BitVec 8).toNat ∧ (1 : BitVec 8).toNat ≤ 1
        ∧ capturing.mon.state ≠ .standby)
      ∧ (let s := { monitorAt .standby fun m => { m with holdA := true, holdB := true } with
           outA := { configured.outA with source := .held 0 }, outB := { configured.outB with source := .heldNone } }
         s.notice.halted = false ∧ s.mon.state = .standby ∧ s.mon.onHold .a = true ∧ s.mon.onHold .b = true
           ∧ (s.out .a).source = .held 0 ∧ (s.out .b).source = .heldNone
           ∧ (monitorAt .standby id).mon.onHold .a = false) := by decide

/-- A lesson is open; one AUTO request waits. -/
def auto : State := { withReady [1, 2] opened with
  store := { opened.store with
    lesson := some 1, page := 65535, queue := [requestOf 1], engine := { opened.store.engine with state := .copying 0 } }
  mon := { opened.mon with autoRequests := [⟨[7], false⟩] } }
def inbox (l : List MonNotice) : State := { State.reset with mon := { State.reset.mon with inbox := l } }
theorem sound_of {m : Monitor} (h : ∀ n ∈ m.inbox.head?, n.isAnswer = true) : m.InboxSound := fun n hn => h n hn
theorem test_meets_AutoRequestsAreAnswered :
    (auto.notice.halted = false ∧ auto.mon.InboxSound ∧ auto.mon.autoRequests = ⟨[7], false⟩ :: []
        ∧ auto.store.state = .opened ∧ auto.store.lesson = some 1 ∧ auto.slots.ready = [1] ++ [2]
        ∧ auto.store.queue.length < 4 ∧ auto.store.engine.state ≠ .idle ∧ auto.store.page = 65535)
      ∧ ((served auto).store.engine.state = .idle ∧ (served auto).store.queue.length < 4
        ∧ (served auto).store.lesson = some 1)
      ∧ (opened.store.lesson = none ∧ configured.store.state ≠ .opened ∧ opened.slots.ready = [])
      ∧ ((inbox []).mon.autoRequests = [] ∧ (inbox []).mon.inbox = [] ∧ (inbox []).mon.InboxSound)
      ∧ (inbox [.taken [7] false]).mon.InboxSound ∧ (inbox [.taken [7] true]).mon.InboxSound
      ∧ (inbox [.refused]).mon.InboxSound
      ∧ (let s := inbox [.taken [7] false, .lessonBegun, .newestSaved true, .newestSaved false, .refused, .taken [8] true]
         s.mon.InboxSound ∧ s.mon.inbox = .taken [7] false ::
           ([.lessonBegun, .newestSaved true, .newestSaved false] ++ [.refused, .taken [8] true])) :=
  ⟨⟨rfl, sound_of (by decide), rfl, rfl, rfl, rfl, by decide, by decide, rfl⟩, by decide, by decide,
    ⟨rfl, rfl, sound_of (by decide)⟩, sound_of (by decide), sound_of (by decide), sound_of (by decide),
    sound_of (by decide), rfl⟩
/-- A page saved by AUTO and then a lesson that begins: the lesson's notice acts last. -/
theorem test_the_lesson_begun_behind_an_answer_acts_last :
    ∃ t, exec .autoAnswer (inbox [.taken [7] false, .lessonBegun]) = .next t ∧ t.mon.saved = none ∧ t.mon.inbox = [] :=
  ⟨_, rfl, rfl, rfl⟩
theorem output_fits (x : OutId) (ow oh base : Nat) (hw : 320 ≤ ow ∧ ow ≤ 1920 ∧ ow % 32 = 0)
    (hh : 240 ≤ oh ∧ oh ≤ 1200 ∧ oh % 8 = 0) (hb : base % 4096 = 0) (h0 : 0x10000000 ≤ base)
    (h1 : base + ow * oh * 3 / 2 ≤ 2 ^ 36) : State.reset.OutputFits x ow oh base := by
  refine ⟨hw, hh, hb, h1, apart_of (Or.inr ?_), ?_, ?_, ?_, ?_⟩
  · exact Nat.le_trans (by decide) h0
  · intro g h; cases h
  · intro g h; cases h
  · intro g h; cases x <;> cases h
  · exact fun h => absurd rfl h
theorem test_meets_OutputsAreConfiguredEnabledAndDisabled :
    (State.reset.notice.halted = false ∧ 1 < (2 : BitVec 8).toNat ∧ (State.reset.out .b).state ≠ .enabled)
      ∧ State.reset.OutputFits .a 320 240 0x10000000 ∧ State.reset.OutputFits .b 1920 1200 0xFFFCB4000
      ∧ ¬State.reset.OutputFits .a 288 240 0x10000000 ∧ ¬State.reset.OutputFits .a 320 1208 0x10000000
      ∧ (showing.out .a).state = .enabled
      ∧ (({ showing with outA := { showing.outA with state := .disabled } } : State).out .a).state = .disabled
      ∧ ((queued ⟨1, 0, 16, false⟩ latched).out .a).queue ≠ []
      ∧ ((latched.out .a).leaving = false ∧ (latched.out .a).queue = [] ∧ latched.ring.restarting = false
        ∧ (latched.out .a).latch.map (·.what) = some (.slot 0)
        ∧ ((source (.frozen 0) latched).out .a).source = .frozen 0
        ∧ ((source (.held 0) latched).out .a).source = .held 0)
      ∧ 0 < full.store.catalog.length :=
  ⟨by decide, output_fits _ _ _ _ (by decide) (by decide) (by decide) (by decide) (by decide),
    output_fits _ _ _ _ (by decide) (by decide) (by decide) (by decide) (by decide),
    fun h => absurd h.1.1 (by decide), fun h => absurd h.2.1.2.1 (by decide), rfl, rfl, by decide, by decide, by decide⟩
/-- Output A is ENABLED beside a store whose records are SAVED. -/
def recalling : State := { full with outA := showing.outA }
theorem test_meets_SourceDirectivesSetTheSource :
    (latched.notice.halted = false ∧ (latched.touch.out .a).state = .enabled
        ∧ (latched.touch.out .a).latch.map (·.what) = some (.slot 0) ∧ (latched.touch.slots.slot 0).state = .ready
        ∧ 0 < latched.touch.slots.slots.length)
      ∧ (showing.touch.out .a).latch = none ∧ (showing.touch.out .b).state ≠ .enabled
      ∧ ({ latched.outA with source := .frozen 0 } : Engine).source = .frozen 0
      ∧ (1 < (2 : BitVec 8).toNat ∧ showing.store.state = .closed
        ∧ ({ opened.store with state := .opening } : Store).state = .opening)
      ∧ (recalling.notice.halted = false ∧ (recalling.touch.out .a).state = .enabled
        ∧ recalling.store.state = .opened ∧ (recalling.store.geom.map (·.e)).getD 0 ≤ (2 : BitVec 16).toNat
        ∧ (1 : BitVec 16).toNat < (recalling.store.geom.map (·.e)).getD 0
        ∧ (recalling.store.recAt 1).state = .saved ∧ (recalling.store.recAt 1).wanted = false
        ∧ (recalling.store.recAt 1).view = none ∧ 1 < recalling.store.catalog.length
        ∧ ((source (.frozen 0) recalling).touch.out .a).source = .frozen 0)
      ∧ (opened.store.recAt 1).state ≠ .saved
      ∧ ({ savedRec with view := some ⟨512, 65535, 7, true⟩ } : Rec).view = some ⟨512, 65535, 7, true⟩ := by decide
theorem test_meets_SetViewReplacesTheTargetAndCentre :
    (latched.notice.halted = false
        ∧ (latched.out .a).latch.map (fun l => (l.ws, l.hs)) = some (640, 480))
      ∧ ((configured.out .b).latch = none ∧ configured.cap.geom.map (fun g => (g.w, g.h)) = some (640, 480))
      ∧ ((State.reset.out .a).latch = none ∧ State.reset.cap.geom = none)
      ∧ 1 < (2 : BitVec 8).toNat ∧ (1 : BitVec 8).toNat ≤ 1 := by decide

theorem test_meets_OutputFrameStartLatchesTheSource :
    let s := queued ⟨1, 0, 16, false⟩ latched
    let w := recalledWanted
    ((s.notice.halted = false ∧ (s.out .a).queue = ⟨1, 0, 16, false⟩ :: []
        ∧ (s.out .a).geom = some ⟨0x3000000, 640, 480⟩)
      ∧ ((s.out .a).source = .live ∧ s.slots.ready.getLast? = some 0 ∧ (s.slots.slot 0).state = .ready
        ∧ 0 < s.slots.slots.length)
      ∧ (showing.outA.source = .live ∧ showing.slots.ready = [])
      ∧ (((source .blank s).out .a).source = .blank ∧ ((source .blank s).out .a).latch.map (·.what) = some (.slot 0))
      ∧ ((source .heldNone s).out .a).source = .heldNone
      ∧ ((source (.frozen 0) s).out .a).source = .frozen 0 ∧ ((source (.held 0) s).out .a).source = .held 0
      ∧ ((source (.recalled 1) (queued ⟨1, 0, 16, false⟩ recalling)).out .a).source = .recalled 1
      ∧ (w.notice.halted = false ∧ (w.out .a).queue = ⟨1, 0, 16, false⟩ :: [] ∧ (w.out .a).source = .live
        ∧ 0 < w.store.catalog.length ∧ (w.store.recAt 0).wanted = true ∧ (w.store.recAt 0).claimed = false
        ∧ (w.store.recAt 0).recalled .a = true ∧ (w.store.recAt 0).recalled .b = false ∧ w.ring.restartDispatched = false
        ∧ (dispatched 3 (.restart 25) w).ring.restartDispatched = true
        ∧ w.store.engine.waitCount < w.store.waitLimit ∧ w.store.queue = requestOf 0 :: []
        ∧ w.store.nextSeq = some 3 ∧ w.gov.state = .normal))
    ∧ ∀ j, j ≠ 0 → (w.store.recAt j).wanted = false :=
  ⟨by decide, fun j h => by rcases j with _ | _ | j; exact absurd rfl h; rfl; rfl⟩
/-- R163: a frame start between the dispatch of a RESTART and its command hands nothing over, and the RESTART leaves the
record SAVED; without a RESTART the start hands the record over. -/
theorem test_no_handover_once_restart_is_dispatched :
    (match exec (.outputFrameStart .a 25) (dispatched 3 (.restart 25) recalledWanted) with
      | .next t => (match exec (.restart 25) t with
        | .next u => [t, u].map fun v =>
            ((v.store.recAt 0).state, (v.store.recAt 0).wanted, (v.store.recAt 0).recallA, v.store.order)
        | _ => [])
      | _ => []) = [(.saved, true, false, [0, 1]), (.saved, false, false, [0, 1])]
    ∧ (match exec (.outputFrameStart .a 25) recalledWanted with
      | .next t => ((t.store.recAt 0).state, t.store.order)
      | _ => (.free, [])) = (.copying, [1, 0]) := by decide +kernel
theorem test_meets_OutputReadServedAnswersTheHeadRead :
    let g : OutGeom := ⟨0x3000000, 640, 480⟩
    ((queued ⟨1, 0, 16, false⟩ latched).notice.halted = false
        ∧ ((queued ⟨1, 0, 16, false⟩ latched).out .a).queue = ⟨1, 0, 16, false⟩ :: []
        ∧ ((queued ⟨1, 0, 16, false⟩ latched).out .a).leaving = false)
      ∧ (g.rowsOf 307184 16 = [(.luma, 479)] ∧ g.rowsOf 307200 16 = [(.chroma, 0)]
        ∧ g.rowsOf 307184 32 = [(.luma, 479), (.chroma, 0)]
        ∧ ({ PlaneCache.empty with current := some ⟨479, [7]⟩, previous := some ⟨478, [8]⟩ }).rowBuffer? 479 = some [7]
        ∧ ({ PlaneCache.empty with current := some ⟨479, [7]⟩, previous := some ⟨478, [8]⟩ }).rowBuffer? 478 = some [8])
      ∧ ((showing.out .a).latch = none ∧ (showing.out .a).luma.current = none ∧ (showing.out .a).chroma.current = none
        ∧ 320 ≤ g.ow ∧ 0 < g.oh ∧ 460544 + 256 ≤ g.ow * g.oh * 3 / 2)
      ∧ ((latched.out .a).luma.rowBuffer? 0 = none ∧ g.rowsOf 16 16 = [(.luma, 0)])
      ∧ (let s := queued ⟨1, 16, 16, false⟩ cached
         (s.out .a).latch = some (latchOf 0) ∧ (s.out .a).geom = some g ∧ (s.out .a).leaving = false
           ∧ (s.out .a).luma.rowBuffer? 0 = none ∧ (s.out .a).luma.failed = [] ∧ (s.out .a).damaged = false
           ∧ (s.out .a).luma.place? 0 = some ⟨0, .valid, .demand, [], none⟩
           ∧ (s.out .a).luma.place? 1 = some ⟨1, .valid, .demand, [], none⟩)
      ∧ (let e : Engine := { (queued ⟨1, 16, 16, false⟩ cached).outA with
           leaving := true, luma := { PlaneCache.empty with current := some ⟨0, [7]⟩ } }
         e.queue = [⟨1, 16, 16, false⟩] ∧ e.leaving = true ∧ e.luma.rowBuffer? 0 = some [7]) := by decide
/-- Output A shows the latched slot at 320 × 240, with the luma places given and the head read in row 0. -/
def halved (places : List CachePlace) : Engine := { (queued ⟨1, 16, 16, false⟩ latched).outA with
  geom := some ⟨0x3000000, 320, 240⟩, latch := some { latchOf 0 with step := 131072 }
  luma := { PlaneCache.empty with places := places } }
/-- Rows 0 and 1 make row 0, rows 2 and 3 row 1, and the chroma lines 0 and 1 the first chroma row. -/
theorem test_meets_the_fetches_of_OutputReadServedAnswersTheHeadRead :
    let g : OutGeom := ⟨0x3000000, 320, 240⟩
    let l : Latch := { latchOf 0 with step := 131072 }
    let e := halved [⟨0, .valid, .demand, [], none⟩, ⟨1, .marked, .prefetch, [⟨0x2000280, 16, .bad⟩], some 0x2000280⟩]
    (g.rowsOf 16 16 = [(.luma, 0)] ∧ g.rowsOf 76480 16 = [(.luma, 239)] ∧ g.rows .luma = 240)
      ∧ ((planeView l g .luma).sourceRows 0 = [0, 1] ∧ (planeView l g .luma).sourceRows 1 = [2, 3]
        ∧ (planeView l g .chroma).sourceRows 0 = [0, 1])
      ∧ (e.queue = [⟨1, 16, 16, false⟩] ∧ e.latch = some l ∧ e.geom = some g ∧ e.leaving = false
        ∧ e.luma.rowBuffer? 0 = none ∧ e.luma.failed = [] ∧ e.luma.place? 2 = none ∧ e.luma.places.length ≤ 2)
      ∧ (∃ i ∈ [0, 1], ∀ pl ∈ e.luma.place? i, pl.cond ≠ .valid) ∧ ((halved []).luma.place? 0 = none) := by
  decide +kernel
/-- Output A shows the latched slot at 320 × 240: row 0 waits for its source rows. -/
theorem test_row_0_is_blocked :
    (({ latched.outA with geom := some ⟨0x3000000, 320, 240⟩ } : Engine).rowWork .luma 0) = .blocked := by
  decide +kernel

/-- The segment of row 0 is one read that is out, fetched as `k`. -/
def fetchOut (k : FetchKind) (stale : Bool) : State := { latched with outA := { latched.outA with
  luma := { PlaneCache.empty with places := [⟨0, .fetching, k, [⟨0x2000000, 16, .waiting⟩], none⟩] }
  fetchFlight := [⟨0x2000000, 16, .luma, 0, stale⟩] } }
theorem test_meets_SourceRowFetchSettlesItsPlace :
    (∀ k ∈ [FetchKind.prefetch, .demand, .refetch], ∀ b ∈ [true, false],
      let f : RowFetch := ⟨0x2000000, 16, .luma, 0, b⟩
      (fetchOut k b).notice.halted = false
        ∧ ((fetchOut k b).out .a).fetchFlight.find? (fun f => decide (f.addr = 0x2000000)) = some f
        ∧ (((fetchOut k b).out .a).cache .luma).place? 0
          = some ⟨0, .fetching, k, [⟨0x2000000, 16, .waiting⟩], none⟩
        ∧ (((fetchOut k b).out .a).cache .luma).waiting = [])
      ∧ (let e := { (fetchOut .demand false).outA with
           luma := { (fetchOut .demand false).outA.luma with waiting := [(5, .demand)] } }
         (e.cache .luma).waiting = [(5, .demand)] ∧ (e.cache .luma).place? 5 = none ∧ (e.cache .luma).failed = []
           ∧ 0 ∉ e.keepRows .luma)
      ∧ (let e := { (fetchOut .demand false).outA with luma := { PlaneCache.empty with
           places := [0, 1, 2, 3].map fun j => ⟨j, .fetching, .prefetch, [], none⟩ } }
         (e.cache .luma).places.length = 4 ∧ (∀ pl ∈ (e.cache .luma).places, pl.cond = .fetching ∧ pl.row ≠ 4)
           ∧ (e.cache .luma).failed = [] ∧ (e.cache .luma).waiting = [])
      ∧ (let at' := fun (j : Nat) (k : CacheCond) => (⟨j, k, .prefetch, [], none⟩ : CachePlace)
         let pre := [at' 0 .fetching, at' 1 .valid]
         (∀ pl ∈ pre, pl.cond = .fetching ∨ pl.row ∈ [1, 3]) ∧ (at' 2 .marked).cond ≠ .fetching ∧ 2 ∉ [1, 3]
           ∧ (pre ++ at' 2 .marked :: [at' 3 .valid]).length = 4
           ∧ ∀ pl ∈ pre ++ at' 2 .marked :: [at' 3 .valid], pl.row ≠ 4) := by decide
/-- A demand fetch whose last read comes back is read again, and the fetch that waits for a place waits on (R126). -/
theorem test_a_refetch_raises_no_waiting_fetch :
    let s := { fetchOut .demand false with outA := { (fetchOut .demand false).outA with
      luma := { PlaneCache.empty with waiting := [(5, .demand)], places :=
        [⟨0, .fetching, .demand, [⟨0x2000000, 16, .waiting⟩, ⟨0x2000010, 16, .bad⟩], some 0x2000010⟩] } } }
    ∀ r ∈ [Resp.okay, .error], ∃ t, exec (.sourceRowFetchResponse .a 0x2000000 r (List.replicate 16 0)) s = .next t
      ∧ t.outA.luma.waiting = [(5, .demand)] ∧ t.outA.luma.places.map (·.kind) = [.refetch] := by
  intro s r hr; fin_cases hr <;> exact ⟨_, rfl, rfl, rfl⟩
/-- Output A at 320 × 240 is at the last luma row, or has computed it: chroma row 0's lines are kept too (R126). -/
theorem test_meets_the_rows_kept_of_SourceRowFetchSettlesItsPlace :
    let g : OutGeom := ⟨0x3000000, 320, 240⟩
    let e : Engine := { halved [] with queue := [⟨1, 76480, 16, false⟩] }
    let e' : Engine := { halved [] with queue := [], computed := some (.luma, 239) }
    (e.geom = some g ∧ g.rowsOf 76480 16 = [(.luma, 239)] ∧ (e.cache .luma).rowBuffer? 239 = none)
      ∧ e.keepRows .chroma = [0, 1] ∧ e'.keepRows .chroma = [0, 1] ∧ e.keepRows .luma = [478, 479]
      ∧ ({ e' with computed := some (.chroma, 119) } : Engine).keepRows .luma = [] := by decide +kernel
/-- Unzoomed, an output row of 640 uses the columns 0 to 639. -/
theorem test_meets_the_segment_of_SourceRowFetchSettlesItsPlace :
    let v := planeView (latchOf 0) ⟨0x3000000, 640, 480⟩ .luma
    let used := fun (c i : Nat) => c < v.outWidth ∧ 0 ≤ v.x0 + ((c * 65536 : Nat) : Int)
      ∧ v.x0 + ((c * 65536 : Nat) : Int) < (v.width * 65536 : Nat) ∧ i = (v.x0 + ((c * 65536 : Nat) : Int)).toNat / 65536
    used 0 0 ∧ used 639 639 ∧ ∀ d i, used d i → 0 ≤ i ∧ i ≤ 639 := by
  refine ⟨by decide, by decide, ?_⟩
  rintro d i ⟨hd, -, -, rfl⟩
  change d < 640 at hd
  change 0 ≤ (0 + ((d * 65536 : Nat) : Int)).toNat / 65536 ∧ (0 + ((d * 65536 : Nat) : Int)).toNat / 65536 ≤ 639
  omega
theorem test_meets_UnzoomedFrameIsShownByteForByte :
    (0 < 320 ∧ 320 % 2 = 0 ∧ 319 < 320 ∧ (239 < 240 ∧ (if true then 240 - 1 - 0 else 0) = 239) ∧ 119 < 240 / 2)
      ∧ ((640 * 65536 : Int) ≤ (65536 * 640 : Nat) ∧ ((32768 * 640 : Nat) : Int) < 640 * 65536)
      ∧ (let l := latchOf 0
         (0 ≤ l.x0 + (0 * l.step : Nat) ∧ l.x0 + (639 * l.step : Nat) < (l.ws * 65536 : Nat))
           ∧ (({ l with x0 := -1 } : Latch).x0 + (0 * l.step : Nat) < 0)
           ∧ (l.ws * 65536 : Nat) ≤ ({ l with x0 := 65536 } : Latch).x0 + (639 * l.step : Nat)
           ∧ l.ws % 2 = 0 ∧ l.hs % 2 = 0
           ∧ (0 ≤ l.y0 / 2 + (239 * l.step : Nat) ∧ l.y0 / 2 + (239 * l.step : Nat) < (l.hs / 2 * 65536 : Nat))) := by
  decide
/-- R119: the fit step of an axis that divides and of one that does not. -/
theorem test_fit_step : fitStep 640 480 640 480 = 65536 ∧ fitStep 640 480 1920 480 = 65536
    ∧ fitStep 640 480 960 1200 = 43691 ∧ fitStep 640 480 1920 1200 = 26215 := by decide
theorem store_fits (e base : Nat) (he : 1 ≤ e ∧ e ≤ 256) (hb : base % 4096 = 0) (h0 : 0x10000000 ≤ base)
    (h1 : base + (catalogEnd e + e * frameSize 640 480) ≤ 2 ^ 36) :
    configured.StoreFits e base (frameSize 640 480) := by
  have hs : frameSize 640 480 = 462848 := by decide
  refine ⟨he.1, he.2, hb, h1, apart_of (Or.inr (Nat.le_trans (by decide) h0)), ?_, ?_, ?_⟩
  · intro g h; cases h; exact apart_of (Or.inr (Nat.le_trans (by decide) h0))
  · intro g h; cases h; exact apart_of (Or.inr (Nat.le_trans (by decide) h0))
  · intro x g h; cases x <;> cases h
def opening (got : List Byte) (e : Nat) : State := { configured with
  store := { configured.store with
    state := .opening, geom := some ⟨0x4000000, e, 462848⟩, resume := some ⟨got, false, true, 5⟩ }
  recs := ⟨[], [.resume 0x4000000 (min 256 (64 + 64 * e))]⟩ }
theorem test_meets_OpenStoreOpensOrResumes :
    (configured.notice.halted = false ∧ configured.store.state = .closed
        ∧ configured.cap.geom = some ⟨0x1000000, 640, 480⟩ ∧ (1 : BitVec 8).toNat ≤ 1)
      ∧ opened.store.state = .opened ∧ (State.reset.store.state = .closed ∧ State.reset.cap.geom = none)
      ∧ (opening [] 2).store.state = .opening
      ∧ configured.StoreFits 1 0x10000000 (frameSize 640 480)
      ∧ configured.StoreFits 256 0x10000000 (frameSize 640 480)
      ∧ ¬configured.StoreFits 0 0x10000000 (frameSize 640 480)
      ∧ ¬configured.StoreFits 257 0x10000000 (frameSize 640 480) :=
  ⟨by decide, by decide, by decide, by decide,
    store_fits _ _ (by decide) (by decide) (by decide) (by decide),
    store_fits _ _ (by decide) (by decide) (by decide) (by decide), fun h => absurd h.1 (by decide),
    fun h => absurd h.2.1 (by decide)⟩

/-- A header for `e` entries, and two records that both say SAVED with sequence 1. -/
def catalogBytes (e : Nat) : List Byte :=
  headerRecord ⟨0x4000000, e, 462848⟩ 5 ++ catalogRecord 0 savedRec ++ catalogRecord 1 savedRec
set_option maxRecDepth 4000 in
theorem test_meets_ResumeReadRebuildsTheCatalog :
    ((opening [] 2).notice.halted = false ∧ (opening [] 2).recs.resumeInFlight = some (0x4000000, 192)
        ∧ (opening [] 2).store.resume = some ⟨[], false, true, 5⟩
        ∧ (opening [] 2).store.geom = some ⟨0x4000000, 2, 462848⟩)
      ∧ ((catalogBytes 2).length = 192 ∧ fieldAt (catalogBytes 2) 0 4 = 0x20405354
        ∧ fieldAt (catalogBytes 2) 4 2 = 2 ∧ fieldAt (catalogBytes 2) 8 4 = 462848
        ∧ fieldAt (catalogBytes 2) 66 1 = 2 ∧ fieldAt (catalogBytes 2) 64 2 = 0 ∧ fieldAt (catalogBytes 2) 68 4 = 1
        ∧ fieldAt (catalogBytes 2) 130 1 = 2 ∧ fieldAt (catalogBytes 2) 128 2 = 1
        ∧ fieldAt (catalogBytes 2) 132 4 = 1)
      ∧ fieldAt (List.replicate 192 0) 0 4 ≠ 0x20405354
      ∧ ((opening [] 4).recs.resumeInFlight = some (0x4000000, 256)
        ∧ (catalogBytes 4 ++ List.replicate 64 0).length = 256
        ∧ fieldAt (catalogBytes 4 ++ List.replicate 64 0) 4 2 = 4
        ∧ (catalogBytes 4 ++ List.replicate 64 0).length < 64 + 64 * 4) :=
  ⟨by decide, by decide, by decide, by decide⟩
/-- Of two records with the same sequence the lower position stays SAVED. -/
theorem test_resume_keeps_the_lower_position :
    (match exec (.resumeReadResponse .okay (catalogBytes 2)) (opening [] 2) with
      | .next t => t.store.catalog.map (·.state)
      | _ => []) = [.saved, .free] := by decide +kernel

/-- A resume that ends refused puts the policy and the wait limit of before back (R23). -/
theorem test_refused_resume_restores :
    (match exec (.resumeReadResponse .error []) (opening [] 2) with
      | .next t => (t.store.state, t.store.keepAll, t.store.waitLimit)
      | _ => (.opened, false, 0)) = (.closed, true, 5) := by decide +kernel

theorem test_meets_StoreClosesAndLessonsBeginAndEnd :
    (State.reset.notice.halted = false ∧ State.reset.store.state = .closed ∧ (opening [] 2).store.state = .opening)
      ∧ (opened.store.state = .opened ∧ opened.store.queue = []
        ∧ ∀ r ∈ opened.store.catalog, r.recallA = false ∧ r.recallB = false)
      ∧ (auto.store.queue ≠ [] ∧ ∃ r ∈ [{ savedRec with recallB := true }], r.recallA = true ∨ r.recallB = true)
      ∧ (opened.store.geom = some ⟨0x4000000, 2, 462848⟩
        ∧ [RecWork.record .header, .record (.catalog 1), .record .status][0]? = some (.record .header)
        ∧ [RecWork.record .header, .record (.catalog 1), .record .status][1]? = some (.record (.catalog 1))
        ∧ [RecWork.record .header, .record (.catalog 1), .record .status][2]? = some (.record .status))
      ∧ opened.mon.InboxSound ∧ (inbox [.refused]).mon.InboxSound ∧ (inbox [.refused]).mon.inbox ≠ [] :=
  ⟨by decide, by decide, by decide, by decide, sound_of (by decide), sound_of (by decide), by decide⟩
theorem test_meets_SnapshotQueuesARequest :
    (auto.notice.halted = false ∧ auto.store.state = .opened ∧ auto.slots.ready.getLast? = some 2
        ∧ auto.store.queue.length < 4 ∧ auto.store.engine.state ≠ .idle ∧ auto.mon.inbox = []
        ∧ 2 < auto.slots.slots.length ∧ auto.store.lesson ≠ none)
      ∧ ((served auto).store.engine.state = .idle ∧ (served auto).slots.ready.getLast? = some 2)
      ∧ (latched.outA.latch.map Latch.what = some (.slot 0) ∧ latched.outB.latch = none)
      ∧ (showing.outA.state = .enabled ∧ State.reset.outA.state ≠ .enabled)
      ∧ (2 < (3 : BitVec 8).toNat ∧ ¬2 < (2 : BitVec 8).toNat ∧ 1 < (2 : BitVec 8).toNat)
      ∧ opened.slots.ready.getLast? = none ∧ 4 ≤ (List.replicate 4 (requestOf 1)).length
      ∧ (monitorAt .motion fun m => { m with last := some (signature 0 0 200) }).mon.last
        = some (signature 0 0 200) := by
  refine ⟨by decide, by decide, by decide, by decide, by decide, by decide, by decide, rfl⟩
theorem test_meets_EntryDirectivesActOnTheirRecord :
    (full.notice.halted = false ∧ full.store.state = .opened ∧ (full.store.geom.map (·.e)).getD 0 = 2)
      ∧ ((full.store.recAt 1).state = .saved ∧ (full.store.recAt 1).claimed = false
        ∧ (full.store.recAt 1).wanted = false ∧ (full.store.recAt 1).marked = false)
      ∧ (((waiting 59).store.recAt 0).claimed = true ∧ ((waiting 59).store.recAt 0).wanted = true
        ∧ ((waiting 59).store.recAt 0).state ≠ .free ∧ (waiting 59).store.engine.waitCount < (waiting 59).store.waitLimit)
      ∧ ({ savedRec with claimed := true }).claimed = true ∧ ({ savedRec with claimed := true }).wanted = false
      ∧ (opened.store.recAt 1).state = .free := by decide
theorem test_meets_WaitEndsByHandoverOrTimeout :
    (let s := waiting 59
     (s.notice.halted = false ∧ s.store.state = .opened ∧ 0 < (s.store.geom.map (·.e)).getD 0
        ∧ 0 < s.store.catalog.length ∧ (s.store.recAt 0).wanted = true ∧ (s.store.recAt 0).claimed = true
        ∧ (s.store.recAt 0).recallA = false ∧ (s.store.recAt 0).recallB = false
        ∧ s.store.engine.waitCount < s.store.waitLimit ∧ s.ring.restartDispatched = false
        ∧ (dispatched 3 (.restart 25) s).ring.restartDispatched = true
        ∧ (dispatched 3 (.release 0) s).ring.restartDispatched = false
        ∧ s.store.queue = requestOf 0 :: [] ∧ s.store.nextSeq = some 3 ∧ s.gov.state = .normal
        ∧ (atTemp .reduced true s).gov.state ≠ .normal)
      ∧ (s.store.engine.state = .waiting 0 ∧ (waiting 60).store.waitLimit ≤ (waiting 60).store.engine.waitCount))
    ∧ (full.store.queue = [] ∧ (waiting 0).store.queue ≠ [] ∧ opened.store.nextSeq = some 1
      ∧ (1 < opened.store.catalog.length ∧ (opened.store.recAt 1).state = .free)
      ∧ (full.store.keepAll = false ∧ full.store.order = [] ++ 0 :: [1] ∧ (full.store.recAt 0).kept = false
        ∧ (full.store.recAt 0).claimed = false ∧ (full.store.recAt 0).recallA = false
        ∧ (full.store.recAt 0).recallB = false)
      ∧ ((waiting 0).store.recAt 0).claimed = true
      ∧ ({ full.store with keepAll := true } : Store).keepAll = true ∧ ({ full.store with nextSeq := none }).nextSeq = none)
    ∧ ∀ j, ¬(j < full.store.catalog.length ∧ (full.store.recAt j).state = .free) :=
  ⟨by decide, by decide, fun j h => by
    rcases j with _ | _ | j
    · exact absurd h.2 (by decide)
    · exact absurd h.2 (by decide)
    · exact absurd (Nat.lt_of_succ_lt_succ (Nat.lt_of_succ_lt_succ h.1)) (Nat.not_lt_zero j)⟩
theorem test_meets_ChunkResponsesDriveTheCopy :
    let r : ChunkTxn := ⟨.read, 0x2000000, [], false⟩
    let w : ChunkTxn := ⟨.write, 0x4000000, [], false⟩
    ((copying 112 r [r]).notice.halted = false ∧ (copying 112 r [r]).store.engine.state = .copying 0
        ∧ (copying 112 r [r]).ring.restarting = false
        ∧ (copying 112 r [r]).store.engine.flight.find? (fun y => decide (y.dir = .read ∧ y.addr = 0x2000000)) = some r
        ∧ r.stale = false ∧ (copying 112 r [r]).store.queue = requestOf 0 :: []
        ∧ (copying 112 r [r]).store.engine.waiting ≠ [])
      ∧ ((copying 112 w []).store.engine.flight.find? (fun y => decide (y.dir = .write ∧ y.addr = 0x4000000)) = some w
        ∧ (copying 112 w []).store.engine.waiting = [] ∧ (copying 112 w []).store.engine.flight.erase w = []
        ∧ (copying 112 w []).store.engine.failAddr = none
        ∧ ({ (copying 112 w []).store.engine with failAddr := some 0x4000100 } : CopyEngine).failAddr ≠ none)
      ∧ (111 + 1 < frameSize 640 480 / 4096 ∧ frameSize 640 480 / 4096 ≤ 112 + 1)
      ∧ (copying 111 w []).gov.state = .normal ∧ (atTemp .reduced true (copying 111 w [])).gov.state ≠ .normal
      ∧ (List.replicate 256 (0 : Byte)).length = 256
      ∧ (let s := copying 0 { r with stale := true } []
         ({ s.ring with restarting := true } : Ring).restarting = true ∧ s.cap.tearing = false ∧ s.outA.leaving = false
           ∧ s.outB.leaving = false ∧ s.store.engine.flight = [{ r with stale := true }]
           ∧ State.reset.store.engine.flight.find? (fun y => decide (y.dir = .read ∧ y.addr = 0x2000000)) = none) :=
  ⟨by decide, by decide, by decide, by decide, by decide, List.length_replicate, by decide⟩
/-- R134's table of catalog ends, and a frame that needs no padding. -/
theorem test_store_layout : catalogEnd 1 = 4096 ∧ catalogEnd 64 = 8192 ∧ catalogEnd 256 = 20480
    ∧ frameSize 640 480 = 462848 ∧ frameSize 4096 3072 = 18874368
    ∧ full.entryAddr 1 = 0x4000000 + 4096 + 462848 ∧ full.slotAddr 5 = 0x2000000 + 5 * 462848 := by decide
theorem test_meets_HaltedFreezesEverythingButTheForwardingPath :
    (halted State.reset).notice.halted = true ∧ (∀ n, Instr.downstreamGrant ≠ .resetN n)
      ∧ ∃ t, exec .downstreamGrant (halted State.reset) = .next t :=
  ⟨rfl, fun _ h => Instr.noConfusion h, _, rfl⟩
theorem test_meets_EveryStepKeepsTheInvariants :
    let s := { capturing with pending := [.frameStart (wr 1 0x1000000 16) 40] }
    (∃ t, step s = .next t) ∧ s.slots.Sound ∧ s.CountsInRange ∧ s.ZoomInRange ∧ s.cap.Legal ∧ s.path.QueueInRange
      ∧ s.mon.InboxSound ∧ s.MonitorFollowsCapture ∧ s.mon.HoldsOnlyInStandby := by
  refine ⟨⟨_, rfl⟩, ⟨rfl, List.nodup_nil, fun k => ?_, fun j _ h => absurd h (no_filling j)⟩, ⟨by decide, by decide,
    by decide, by decide, by decide, by decide, by decide, fun t h => by cases h⟩, ⟨by unfold View.InRange; decide,
    by unfold View.InRange; decide, fun r h => (by cases h), fun r h => (by cases h)⟩, ⟨fun g h => ?_,
    by unfold Settings.InRange; decide, by unfold Settings.InRange; decide⟩, fun d => by cases d <;> decide,
    fun n h => (by cases h), by unfold State.MonitorFollowsCapture; decide, fun x h => (by cases x <;> cases h)⟩
  · refine ⟨fun h => (by cases h), fun h => ?_⟩
    rcases k with _ | _ | _ | _ | _ | _ | k <;> cases h
  · cases h; unfold CapGeom.Legal; decide
/-- A copy of slot 0, which is READY and latched by output A, is under way into record 0. -/
def sound : State := { copying 0 ⟨.read, 0x2000000, [], false⟩ [] with
  slots := latched.slots.takeCopy 0, outA := latched.outA, pending := [.snapshot 1 0]
  store := { (copying 0 ⟨.read, 0x2000000, [], false⟩ []).store with nextSeq := some 2 } }
theorem sound_slots : sound.slots.Sound := by
  refine ⟨rfl, by decide, fun k => ?_, fun j k h => ?_⟩
  · rcases k with _ | _ | _ | _ | _ | _ | k
    iterate 6 decide
    exact ⟨fun h => (by have h' : k + 6 ∈ [0] := h; simp at h'), fun h => (by cases h)⟩
  · rcases j with _ | _ | _ | _ | _ | _ | j <;> cases h
theorem sound_store : sound.store.Sound := by
  refine ⟨by decide, fun p => ?_, by decide, fun n h p hp => ?_, fun p => ?_, fun p => ?_, fun p h => ?_, by decide,
    fun h => absurd rfl h, fun h => absurd rfl h⟩
  · rcases p with _ | _ | p
    iterate 2 decide
    exact ⟨fun h => (by have h' : p + 2 ∈ [0] := h; simp at h'), fun h => absurd rfl h⟩
  · cases h; have h' : p ∈ [0] := hp; simp at h'; subst h'; decide
  · rcases p with _ | _ | p
    iterate 2 decide
    exact ⟨fun h => (by cases h), fun h => (by rcases h with h | h <;> cases h)⟩
  · rcases p with _ | _ | p <;> exact ⟨fun h => (by cases h), fun h => (by cases h)⟩
  · rcases p with _ | _ | p <;> cases h
theorem sound_tags : sound.TagsSound := by
  refine ⟨fun k => ?_, fun k h => ?_, fun x h => ?_, fun x k _ => ⟨fun h => ?_, fun h => ?_⟩⟩
  · rcases k with _ | k
    · decide
    · rcases k with _ | _ | _ | _ | _ | k <;> rfl
  · rcases k with _ | _ | _ | _ | _ | _ | k
    · rfl
    all_goals exact absurd h (Nat.lt_irrefl 0)
  · cases x
    · exact absurd rfl h
    · exact ⟨rfl, rfl⟩
  · cases x <;> cases h; decide
  · cases x <;> cases h
theorem test_meets_EveryStepKeepsTheCatalogAndTheTags :
    (∃ t, step sound = .next t) ∧ sound.slots.Sound ∧ sound.store.Sound ∧ sound.TagsSound
      ∧ sound.ring.restarting = false := ⟨⟨_, rfl⟩, sound_slots, sound_store, sound_tags, rfl⟩

end Sys2Proof.Tests
end

section
/-! The gain of a tile (R73): the clamp as a minimum and a maximum, where the rounded ratio of the target white 235 to
the tile's white leaves 256..1024, and from these the gain. -/

namespace Sys2Proof.Machine

/-! ### The clamp -/

theorem clamp_eq_max_min {a b : Nat} (h : a ≤ b) (v : Nat) : clamp a b v = max a (min b v) := by
  unfold clamp
  split
  · omega
  · split <;> omega

/-! ### The ratio to the target white: 60160 is 235 · 256 -/

theorem whiteRatio_lt_of_target_lt {wt : Nat} (h : 235 < wt) : (60160 + wt / 2) / wt < 256 :=
  Nat.div_lt_of_lt_mul (by omega)

theorem whiteRatio_le_of_target_le {wt : Nat} (h : 235 ≤ wt) : (60160 + wt / 2) / wt ≤ 256 := by
  obtain rfl | above := Nat.eq_or_lt_of_le h
  · decide
  · exact (whiteRatio_lt_of_target_lt above).le

theorem le_whiteRatio_of_le {wt : Nat} (pos : 0 < wt) (h : wt ≤ 58) : 1024 ≤ (60160 + wt / 2) / wt :=
  (Nat.le_div_iff_mul_le pos).2 (by omega)

/-! ### The gain -/

theorem tileGain_of_lt {d wt : Nat} (h : wt < d) : tileGain d wt = 256 := if_pos h

theorem tileGain_of_le {d wt : Nat} (h : d ≤ wt) :
    tileGain d wt = max 256 (min 1024 ((60160 + wt / 2) / wt)) :=
  (if_neg h.not_gt).trans (clamp_eq_max_min (by decide) _)

/-- A tile at or above the target white is not lifted, whatever the dark floor. -/
theorem tileGain_of_target_le (d : Nat) {wt : Nat} (h : 235 ≤ wt) : tileGain d wt = 256 := by
  obtain below | above := Nat.lt_or_ge wt d
  · exact tileGain_of_lt below
  · have ratio := whiteRatio_le_of_target_le h
    rw [tileGain_of_le above]
    omega

theorem tileGain_of_le_58 {d wt : Nat} (pos : 0 < wt) (above : d ≤ wt) (h : wt ≤ 58) : tileGain d wt = 1024 := by
  rw [tileGain_of_le above, min_eq_left (le_whiteRatio_of_le pos h)]
  rfl

theorem tileGain_in_range (d wt : Nat) : 256 ≤ tileGain d wt ∧ tileGain d wt ≤ 1024 := by
  obtain below | above := Nat.lt_or_ge wt d
  · simp [tileGain_of_lt below]
  · rw [tileGain_of_le above]
    omega

/-- Settles O38, by the two branches of the gain and the bounds of the ratio on either side of whites 58 and 235. -/
theorem tileGainIsTheRatioToTheTargetWhite : Obligations.TileGainIsTheRatioToTheTargetWhite := by
  intro d wt floorLow _
  exact ⟨tileGain_of_lt, tileGain_of_le, fun atTarget => tileGain_of_target_le d atTarget.ge,
    fun aboveTarget _ => ⟨whiteRatio_lt_of_target_lt aboveTarget, tileGain_of_target_le d aboveTarget.le⟩,
    fun above => tileGain_of_le_58 (by omega) above, tileGain_in_range d wt⟩

end Sys2Proof.Machine
end

section
/-! The temperature state after a sample (R166): the ways out of each state one by one, and what a sample does to the
part's state (R165) where it moves the temperature state and where it leaves it. -/

namespace Sys2Proof.Machine

/-! ### The ways out of each state -/

theorem TempState.after_of_le_95 (st : TempState) {t : Int} (h : t ≤ 95) : st.after t = .normal := if_pos h

theorem TempState.after_of_120_le (st : TempState) {t : Int} (h : 120 ≤ t) : st.after t = .critical := by
  have warm : ¬ t ≤ 95 := by omega
  have hot : ¬ t ≤ 110 := by omega
  cases st <;> simp only [TempState.after, warm, hot, h, if_true, if_false]

theorem TempState.normal_after_of_lt_105 {t : Int} (h : t < 105) : TempState.normal.after t = .normal := by
  have notHot : ¬ 120 ≤ t := by omega
  simp only [TempState.after, notHot, h.not_ge, if_false, ite_self]

theorem TempState.normal_after_of_105_le {t : Int} (low : 105 ≤ t) (high : t < 120) :
    TempState.normal.after t = .reduced := by
  have warm : ¬ t ≤ 95 := by omega
  simp only [TempState.after, warm, high.not_ge, low, if_true, if_false]

theorem TempState.reduced_after_of_95_lt {t : Int} (low : 95 < t) (high : t < 120) :
    TempState.reduced.after t = .reduced := by
  simp only [TempState.after, low.not_ge, high.not_ge, if_false]

theorem TempState.critical_after_of_le_110 {t : Int} (low : 95 < t) (high : t ≤ 110) :
    TempState.critical.after t = .reduced := by
  simp only [TempState.after, low.not_ge, high, if_true, if_false]

theorem TempState.critical_after_of_110_lt {t : Int} (h : 110 < t) : TempState.critical.after t = .critical := by
  have warm : ¬ t ≤ 95 := by omega
  simp only [TempState.after, warm, h.not_ge, if_false]

/-- From 105 to 110 the state is REDUCED from whichever side it is reached. -/
theorem TempState.after_of_105_le_of_le_110 (st : TempState) {t : Int} (low : 105 ≤ t) (high : t ≤ 110) :
    st.after t = .reduced := by
  cases st with
  | normal => exact normal_after_of_105_le low (by omega)
  | reduced => exact reduced_after_of_95_lt (by omega) (by omega)
  | critical => exact critical_after_of_le_110 (by omega) high

/-! ### The sample -/

theorem clampSample_of_mem {t : Int} (low : -40 ≤ t) (high : t ≤ 150) : clampSample t = t :=
  (if_neg low.not_gt).trans (if_neg high.not_gt)

/-- Of the governor the effects of a change touch the flag alone. -/
theorem State.thermalChange_gov_state (before after : TempState) (s : State) :
    (s.thermalChange before after).gov.state = s.gov.state := by
  unfold State.thermalChange
  repeat' split
  all_goals simp

theorem State.sampleDie_of_after_eq {reading : Int} {s : State}
    (stays : s.gov.state.after (clampSample reading) = s.gov.state) :
    s.sampleDie reading = { s with gov := { s.gov with sample := some (clampSample reading) } } := by
  simp only [State.sampleDie, stays, if_true, State.onGov]

theorem State.sampleDie_of_after_ne {reading : Int} {s : State}
    (moves : s.gov.state.after (clampSample reading) ≠ s.gov.state) :
    s.sampleDie reading = (s.onGov fun g => { g with
      sample := some (clampSample reading), state := s.gov.state.after (clampSample reading) }).thermalChange
        s.gov.state (s.gov.state.after (clampSample reading)) :=
  if_neg moves

theorem State.sampleDie_gov_state (reading : Int) (s : State) :
    (s.sampleDie reading).gov.state = s.gov.state.after (clampSample reading) := by
  by_cases stays : s.gov.state.after (clampSample reading) = s.gov.state
  · rw [State.sampleDie_of_after_eq stays]
    exact stays.symm
  · rw [State.sampleDie_of_after_ne stays, State.thermalChange_gov_state, State.onGov_gov]

/-- Settles O27, row by row of the table, with the reading in the range the clamp leaves as it is. -/
theorem sampleMovesTheTemperatureState : Obligations.SampleMovesTheTemperatureState := by
  intro t low high
  have clamped := clampSample_of_mem low high
  refine ⟨fun cool st => st.after_of_le_95 cool, fun above below => ⟨?_, ?_, ?_⟩,
    fun above below st => st.after_of_105_le_of_le_110 above below, fun above below => ⟨?_, ?_, ?_⟩,
    fun hot st => st.after_of_120_le hot, fun s => ⟨?_, fun stays => ?_⟩⟩
  · exact TempState.normal_after_of_lt_105 (by omega)
  · exact TempState.reduced_after_of_95_lt (by omega) (by omega)
  · exact TempState.critical_after_of_le_110 (by omega) (by omega)
  · exact TempState.normal_after_of_105_le (by omega) (by omega)
  · exact TempState.reduced_after_of_95_lt (by omega) (by omega)
  · exact TempState.critical_after_of_110_lt (by omega)
  · rw [State.sampleDie_gov_state, clamped]
  · rw [State.sampleDie_of_after_eq (by rwa [clamped]), clamped]

end Sys2Proof.Machine
end

section
/-! The Notice Unit (09 section 9.2). The ATTN line (R174), whose scan over the kind numbers is a search over the kinds,
and SET_NOTICE (R177), which outside HALTED always acts and answers ADJUSTED when its threshold is above 7. -/

namespace Sys2Proof.Machine

/-! ### The kinds and their numbers -/

/-- The kinds in the order of the table of 09 section 9.1. -/
def EventKind.byNumber : List EventKind :=
  [.directiveDone, .pageMotion, .frameDropped, .frameDegraded, .presence, .thermalClear, .pageSettled, .standby,
   .snapDone, .woken, .strayAccess, .snapMissed, .snapFailed, .outputDamaged, .thermal, .fault]

theorem EventKind.map_number_byNumber : EventKind.byNumber.map EventKind.number = List.range 16 := rfl

theorem EventKind.mem_byNumber (k : EventKind) : k ∈ EventKind.byNumber := by
  cases k <;> decide

/-- The numbers below 16 are those of the kinds, so a search over the numbers is a search over the kinds. -/
theorem EventKind.any_range_iff (p : Nat → Bool) :
    (List.range 16).any p = true ↔ ∃ k : EventKind, p k.number = true := by
  simp [← EventKind.map_number_byNumber, List.any_map, EventKind.mem_byNumber]

/-! ### The ATTN line -/

theorem NoticeUnit.raisesAttn_number_iff (n : NoticeUnit) (k : EventKind) :
    n.raisesAttn k.number = true
      ↔ n.isPending k = true ∧ n.enable.getLsbD k.number = true ∧ n.threshold < k.level := by
  simp [NoticeUnit.raisesAttn, NoticeUnit.isPending, EventKind.level, and_assoc]

theorem NoticeUnit.attn_iff (n : NoticeUnit) :
    n.attn = true ↔ n.halted = true ∨ n.seen = false
      ∧ ((∃ k : EventKind, n.raisesAttn k.number = true) ∨ n.isPending .fault = true) := by
  simp only [NoticeUnit.attn, Bool.or_eq_true, Bool.and_eq_true, Bool.not_eq_true', EventKind.any_range_iff]

/-- Settles O22: the scan finds a number exactly when a kind is pending, enabled and above the threshold. -/
theorem attnIsHighExactlyWhenSomethingCallsForIt : Obligations.AttnIsHighExactlyWhenSomethingCallsForIt := by
  intro s
  simp only [State.attn, NoticeUnit.attn_iff, NoticeUnit.raisesAttn_number_iff]

/-! ### SET_NOTICE -/

/-- R177: SET_NOTICE is taken in every state short of HALTED. -/
theorem execSetNotice_of_not_halted {s : State} (running : s.notice.halted = false) (th : BitVec 8)
    (set clear : BitVec 16) :
    execSetNotice th set clear s = .next (((s.onNotice fun n =>
        { n with enable := (n.enable ||| set) &&& ~~~clear, threshold := clamp 0 7 th.toNat }).request .notice).answer
      (.setNotice th set clear) (doneOr (decide (clamp 0 7 th.toNat ≠ th.toNat)))) :=
  State.unlessHalted_of_not running _

theorem clamp_zero_eq_min (b v : Nat) : clamp 0 b v = min v b := by
  rw [clamp_eq_max_min b.zero_le, Nat.zero_max, Nat.min_comm]

/-- A clamp from 0 answers ADJUSTED exactly when the value is above its upper bound. -/
theorem doneOr_clamp_zero (b v : Nat) :
    doneOr (decide (clamp 0 b v ≠ v)) = if b < v then .adjusted else .done := by
  have moved : clamp 0 b v ≠ v ↔ b < v := by
    rw [clamp_zero_eq_min]
    omega
  simp only [doneOr, moved, decide_eq_true_eq]

/-- Settles O25, by the equation of SET_NOTICE outside HALTED and the clamp of the threshold as a minimum. -/
theorem setNoticeUpdatesEnablesAndThreshold : Obligations.SetNoticeUpdatesEnablesAndThreshold := by
  intro th set clear s running
  change execSetNotice th set clear s = _
  rw [execSetNotice_of_not_halted running, doneOr_clamp_zero, clamp_zero_eq_min]

end Sys2Proof.Machine
end

section
/-! What every command does, whatever it is: the step hands it the queue's rest, and no command touches the queue
(00 section 2). -/

namespace Sys2Proof.Machine

/-! ### The states an outcome goes on to -/

/-- Every state the outcome goes on to satisfies `P`; a fault or a refusal goes on to none. -/
def Ends (P : State → Prop) (o : Host.Outcome State Fault Refusal) : Prop := ∀ t, o = .next t → P t

section
variable {P : State → Prop}

@[simp] theorem ends_next (t : State) : Ends P (.next t) ↔ P t :=
  ⟨fun h => h t rfl, fun h _ e => by cases e; exact h⟩

@[simp] theorem ends_refused (r : Refusal) : Ends P (.refused r) := fun _ e => by cases e

/-- A command the part takes no notice of while HALTED. -/
@[simp] theorem ends_unlessHalted (s : State) (f : State → State) :
    Ends P (s.unlessHalted f) ↔ (s.notice.halted = true → P s) ∧ (s.notice.halted = false → P (f s)) := by
  cases halted : s.notice.halted <;> simp [State.unlessHalted, halted]

end

/-! ### The step -/

/-- Settles O1: the step's own case of a queue that is not empty. -/
theorem stepRunsTheFrontCommand : Obligations.StepRunsTheFrontCommand := by
  intro c rest s queue
  simp only [step, queue]

/-! ### The rows of a window read -/

/-- What finding the rows of a read of output `x` keeps: what a row computed, an output frame damaged and the fetches of a
blocked row keep (R124 to R128). -/
theorem State.ensureRows_keeps {x : OutId} {Q : State → Prop}
    (computed : ∀ u p r b, Q u → Q (State.rowComputed x p r b u)) (damaged : ∀ u a, Q u → Q (State.noteDamaged x a u))
    (demanded : ∀ u p r, Q u → Q (State.onOut x (·.demandFor p r) u)) :
    ∀ (rows : List (Plane × Nat)) (s t : State) (o : Option (List (Plane × Nat × List Byte))),
      Q s → State.ensureRows x rows s = (t, o) → Q t
  | [], s, t, o, hs, h => by
    cases h
    exact hs
  | (p, r) :: rest, s, t, o, hs, h => by
    have row : Q (s.ensureRow x p r).1 := by
      unfold State.ensureRow
      repeat' split
      · exact hs
      · exact computed _ _ _ _ hs
      · exact computed _ _ _ _ (damaged _ _ hs)
      · exact demanded _ _ _ hs
    rw [State.ensureRows] at h
    split at h
    · rename_i e
      cases h
      simpa only [e] using row
    · rename_i e
      simp only [e] at row
      split at h <;> rename_i e2 <;> cases h <;>
        exact State.ensureRows_keeps computed damaged demanded rest _ _ _ row e2

theorem State.ensureRows_pending {x : OutId} {rows : List (Plane × Nat)} {s t : State}
    {o : Option (List (Plane × Nat × List Byte))} (h : State.ensureRows x rows s = (t, o)) : t.pending = s.pending :=
  State.ensureRows_keeps (Q := fun u => u.pending = s.pending) (by simp) (by simp) (by simp) rows s t o rfl h

/-! ### The queue of commands -/

@[simp] theorem State.present_pending (t : Txn) (accepts : Bool) {take : State → State} (s : State)
    (h : ∀ u : State, (take u).pending = u.pending) : (s.present t accepts take).pending = s.pending := by
  unfold State.present
  split
  · rw [h, State.leaveUntaken_pending]
  · exact State.holdUntaken_pending t s

/-- No meaning touches the queue: none of the operations it is made of does. -/
theorem exec_pending (c : Instr) (s : State) : Ends (fun t => t.pending = s.pending) (exec c s) := by
  cases c with
  | resetN _ => simp [exec, execResetN]
  | forwardedTransaction _ | straddlingAccess _ | outputWindowWrite _ | outputWindowRead _ | captureWindowRead _
  | captureWrite _ _ | frameStart _ _ =>
    simp only [exec, execForwardedTransaction, execStraddlingAccess, execOutputWindowWrite, execOutputWindowRead,
      execCaptureWindowRead, execCaptureWrite, execFrameStart]
    repeat' split
    all_goals simp
  | classBResponse _ _ _ _ | chromaWriteResponse _ _ | submitWord _ | acknowledgeWord _ | noticeRecordRead
  | statusRecordRead | downstreamGrant =>
    simp only [exec, execClassBResponse, execChromaWriteResponse, execSubmitWord, execAcknowledgeWord,
      execNoticeRecordRead, execStatusRecordRead, execDownstreamGrant]
    repeat' split
    all_goals simp
  | sourceRowFetchResponse _ _ _ _ | directiveFetchResponse _ _ | resumeReadResponse _ _ | chunkReadResponse _ _ _
  | unknownDirectiveType _ =>
    simp only [exec, execSourceRowFetchResponse, execDirectiveFetchResponse, execResumeReadResponse,
      execChunkReadResponse, execUnknownDirectiveType]
    repeat' split
    all_goals first | exact ends_refused _ | exact (ends_next _).2 rfl |
      refine (ends_unlessHalted _ _).2 ⟨fun _ => rfl, fun _ => ?_⟩
    all_goals simp
  | outputReadServed x =>
    simp only [exec, execOutputReadServed]
    refine (ends_unlessHalted _ _).2 ⟨fun _ => rfl, fun _ => ?_⟩
    repeat' split
    · rfl
    · exact State.ensureRows_pending (by assumption)
    · simp [State.ensureRows_pending (by assumption)]
    · rfl
  | _ =>
    simp only [exec, execOutputFrameStart, execTearFinished, execFrameCompletion,
      execLossCountGrant, execLumaWriteResponse, execDirectiveStatusWriteResponse, execRecordWriteResponse,
      execChunkWriteResponse, execWaitLimitTimeout, execAutoRequest, execAutoAnswer, execConfigureCapture,
      execStartCapture, execStopCapture, execSetEnhance, execConfigureOutput, execEnableOutput,
      execDisableOutput, execSetView, execLive, execFreeze, execBlank, execRecall, execSetMonitor, execWake,
      execOpenStore, execCloseStore, execBeginLesson, execEndLesson, execSnapshot, execClaim, execRelease,
      execKeep, execUnkeep, execDelete, execSetNotice, execRestart]
    refine (ends_unlessHalted _ _).2 ⟨fun _ => rfl, fun _ => ?_⟩
    repeat' split
    all_goals simp

/-- Settles O2. -/
theorem noCommandTouchesTheQueue : Obligations.NoCommandTouchesTheQueue :=
  fun c s t h => exec_pending c s t h

end Sys2Proof.Machine
end

section
/-! While HALTED the forwarding path alone moves (R16): the lines of untaken transactions, the forwarding queue and the
record of the port. -/

namespace Sys2Proof.Machine

/-! ### The forwarding path -/

/-- From `s` to `t` nothing moves but the forwarding path: the untaken lines, the forwarding queue, the upstream
responses (R16). -/
def State.ForwardsTo (s t : State) : Prop :=
  ∃ reads writes fwd log, t = s.onPath fun p =>
    { p with upReads := reads, upWrites := writes, fwd := fwd, upLog := log }

theorem State.ForwardsTo.refl (s : State) : s.ForwardsTo s := ⟨_, _, _, _, rfl⟩

theorem State.ForwardsTo.trans {s t u : State} (h : s.ForwardsTo t) (h' : t.ForwardsTo u) : s.ForwardsTo u := by
  obtain ⟨_, _, _, _, rfl⟩ := h
  obtain ⟨_, _, _, _, rfl⟩ := h'
  exact ⟨_, _, _, _, rfl⟩

theorem State.ForwardsTo.notice {s t : State} (h : s.ForwardsTo t) : t.notice = s.notice := by
  obtain ⟨_, _, _, _, rfl⟩ := h
  rfl

theorem State.setUntaken_forwards (d : Dir) (l : List Txn) (s : State) : s.ForwardsTo (s.setUntaken d l) := by
  cases d <;> exact ⟨_, _, _, _, rfl⟩

theorem State.holdUntaken_forwards (t : Txn) (s : State) : s.ForwardsTo (s.holdUntaken t) := by
  unfold State.holdUntaken
  split
  · exact .refl s
  · exact s.setUntaken_forwards _ _

theorem State.forward_forwards (t : Txn) (s : State) : s.ForwardsTo (s.forward t) := ⟨_, _, _, _, rfl⟩

theorem State.present_forwards (t : Txn) (accepts : Bool) {take : State → State} (s : State)
    (h : ∀ u : State, u.ForwardsTo (take u)) : s.ForwardsTo (s.present t accepts take) := by
  unfold State.present
  split
  · exact .trans (s.setUntaken_forwards _ _) (h _)
  · exact s.holdUntaken_forwards t

theorem State.otherwise_forwards (t : Txn) (s : State) : s.ForwardsTo (s.otherwise t) := by
  unfold State.otherwise
  split
  · exact s.present_forwards t _ (State.forward_forwards t)
  · exact s.holdUntaken_forwards t

theorem State.relayOne_forwards (e : FwdEntry) (r : Resp) (data : List Byte) (s : State) :
    s.ForwardsTo (s.relayOne e r data) := ⟨_, _, _, _, rfl⟩

theorem State.relay_forwards (d : Dir) : ∀ (n : Nat) (s : State), s.ForwardsTo (s.relay d n)
  | 0, s => .refl s
  | n + 1, s => by
    unfold State.relay
    repeat' split
    · exact .refl s
    · exact .refl s
    · exact .refl s
    · exact .trans (s.relayOne_forwards _ _ _) (State.relay_forwards d n _)

theorem State.responded_forwards (e : FwdEntry) (r : Resp) (data : List Byte) (s : State) :
    s.ForwardsTo (s.responded e r data) :=
  .trans ⟨_, _, _, _, rfl⟩ (State.relay_forwards _ _ _)

/-! ### The rows of the port while HALTED -/

section
variable {s : State} (halted : s.notice.halted = true)
include halted

theorem State.classify_of_halted (t : Txn) : s.classify t = .forward := if_pos halted

/-- Nothing is handed over: the response alone is returned. -/
theorem State.relayObserved_forwards_of_halted (d : Dir) (o : Obs) : s.ForwardsTo (s.relayObserved d o) := by
  unfold State.relayObserved
  split
  · exact .refl s
  · simp only [halted, if_true]
    exact .trans (s.relayOne_forwards _ _ _) (State.relay_forwards _ _ _)

theorem State.chromaError_of_halted (e : FwdEntry) : s.chromaError e = s := by
  simp [State.chromaError, halted]

/-- Class B alone is granted, and the loss count keeps its value. -/
theorem State.grant_forwards_of_halted {k : GrantClass} (h : s.chooseGrant = some k) : s.ForwardsTo (s.grant k) := by
  have classB : k = .b := by
    simp only [State.chooseGrant, halted, if_true, State.offerB] at h
    split at h <;> cases h
    rfl
  subst classB
  simp only [State.grant, State.issue, halted, if_true]
  exact ⟨_, _, _, _, rfl⟩

/-- R16: no command but RESET_N moves anything but the forwarding path. -/
theorem exec_forwards_of_halted {c : Instr} (noReset : ∀ n, c ≠ .resetN n) : Ends s.ForwardsTo (exec c s) := by
  cases c with
  | resetN n => exact absurd rfl (noReset n)
  | forwardedTransaction t | straddlingAccess t | outputWindowWrite t | outputWindowRead t | captureWindowRead t
  | captureWrite t _ | frameStart t _ =>
    simp only [exec, execForwardedTransaction, execStraddlingAccess, execOutputWindowWrite, execOutputWindowRead,
      execCaptureWindowRead, execCaptureWrite, execFrameStart, State.classify_of_halted halted]
    split
    · exact (ends_next _).2 (s.otherwise_forwards t)
    · exact ends_refused _
  | classBResponse _ _ _ _ | chromaWriteResponse _ _ =>
    simp only [exec, execClassBResponse, execChromaWriteResponse, State.chromaError_of_halted halted, ite_self]
    repeat' split
    all_goals simp [State.ForwardsTo.refl, State.responded_forwards]
  | submitWord _ | acknowledgeWord _ | noticeRecordRead | statusRecordRead =>
    exact (ends_next _).2 (State.relayObserved_forwards_of_halted halted _ _)
  | downstreamGrant =>
    simp only [exec, execDownstreamGrant, ends_next]
    split
    · exact State.grant_forwards_of_halted halted (by assumption)
    · exact .refl s
  | sourceRowFetchResponse _ _ _ _ | directiveFetchResponse _ _ | resumeReadResponse _ _ | chunkReadResponse _ _ _
  | unknownDirectiveType _ =>
    simp only [exec, execSourceRowFetchResponse, execDirectiveFetchResponse, execResumeReadResponse,
      execChunkReadResponse, execUnknownDirectiveType, State.unlessHalted_of_halted halted]
    repeat' split
    all_goals simp [State.ForwardsTo.refl]
  | _ =>
    simp only [exec, execOutputReadServed, execOutputFrameStart, execTearFinished, execFrameCompletion,
      execLossCountGrant, execLumaWriteResponse, execDirectiveStatusWriteResponse, execRecordWriteResponse,
      execChunkWriteResponse, execWaitLimitTimeout, execAutoRequest, execAutoAnswer, execConfigureCapture,
      execStartCapture, execStopCapture, execSetEnhance, execConfigureOutput, execEnableOutput,
      execDisableOutput, execSetView, execLive, execFreeze, execBlank, execRecall, execSetMonitor, execWake,
      execOpenStore, execCloseStore, execBeginLesson, execEndLesson, execSnapshot, execClaim, execRelease,
      execKeep, execUnkeep, execDelete, execSetNotice, execRestart, State.unlessHalted_of_halted halted, ends_next]
    exact .refl s

end

/-- Settles O57: no block but the Path Unit is on the forwarding path. -/
theorem haltedFreezesEverythingButTheForwardingPath : Obligations.HaltedFreezesEverythingButTheForwardingPath := by
  intro c s t halted noReset h
  obtain ⟨_, _, _, _, rfl⟩ := exec_forwards_of_halted halted noReset t h
  refine ⟨?_, halted, ?_, rfl, rfl, rfl, rfl⟩
  · intro b hb
    cases b with
    | path => exact absurd (List.mem_singleton.2 rfl) hb
    | _ => rfl
  · simp [State.attn, NoticeUnit.attn, halted]

end Sys2Proof.Machine
end

section
/-! What RESET_N leaves (R17 and every block's reset rule), and that it is sound. -/

namespace Sys2Proof.Machine

/-! ### Slots all as after reset -/

/-- Past the end of the list a slot reads as after reset, too. -/
theorem SlotTable.slot_of_reset {t : SlotTable} {n : Nat} (h : t.slots = List.replicate n Slot.reset) (k : Nat) :
    t.slot k = Slot.reset := by
  simp only [SlotTable.slot, h, List.getD_eq_getElem?_getD, List.getElem?_replicate]
  split <;> rfl

/-- Past its end an empty catalog reads as FREE. -/
theorem Store.recAt_of_nil {st : Store} (h : st.catalog = []) (p : Nat) : st.recAt p = Rec.blank := by
  simp [Store.recAt, h]

/-! ### RESET_N -/

theorem exec_resetN (n : BitVec 4) (s : State) :
    exec (.resetN n) s = .next { State.resetWith n with pending := s.pending } := rfl

/-- R184: every kind is enabled. -/
theorem NoticeUnit.reset_enables (k : EventKind) : NoticeUnit.reset.enable.getLsbD k.number = true := by
  cases k <;> decide

/-- Settles O3: each field is the one `State.resetWith` writes out. -/
theorem resetNLeavesEveryBlockAtItsResetValues : Obligations.ResetNLeavesEveryBlockAtItsResetValues := by
  refine ⟨fun n s => ⟨_, exec_resetN n s, ?_⟩, fun n s => ⟨_, exec_resetN n s, ?_⟩⟩
  · refine ⟨rfl, rfl, rfl, rfl, rfl, rfl, rfl, rfl, rfl, rfl, rfl, rfl, rfl, rfl, rfl, rfl, rfl, rfl, rfl, rfl, rfl, rfl,
      rfl, rfl, rfl, rfl, rfl, rfl, rfl, rfl, rfl, rfl, rfl, rfl, rfl,
      NoticeUnit.reset_enables, rfl, rfl, rfl, rfl, rfl, rfl, rfl, rfl⟩
  · refine ⟨rfl, rfl, rfl, rfl, ?_, rfl, rfl, rfl, rfl, rfl, rfl, rfl, rfl, rfl, rfl, rfl, rfl, rfl, rfl, rfl, rfl,
      rfl, rfl, rfl, rfl, rfl, rfl, rfl, rfl, rfl, rfl, rfl, rfl, rfl, rfl, ?_⟩
    · intro k
      rw [SlotTable.slot_of_reset (n := 6) rfl]
      decide
    · intro x
      cases x <;> exact ⟨rfl, rfl, rfl, rfl, rfl, rfl, rfl, rfl, rfl, rfl, rfl⟩

/-! ### The invariants at reset -/

theorem SlotTable.reset_sound : SlotTable.reset.Sound := by
  have free (k : Nat) : (SlotTable.reset.slot k).state = .free := by rw [SlotTable.slot_of_reset (n := 6) rfl]; rfl
  refine ⟨rfl, List.nodup_nil, fun k => ?_, fun j k hj => ?_⟩
  · exact ⟨nofun, fun h => nomatch (free k).symm.trans h⟩
  · simp [free] at hj

theorem Store.reset_sound : Store.reset.Sound := by
  have blank (p : Nat) : Store.reset.recAt p = Rec.blank := Store.recAt_of_nil rfl p
  have order : Store.reset.order = [] := rfl
  have queue : Store.reset.queue = [] := rfl
  have idle : Store.reset.engine.state = .idle := rfl
  have catalog : Store.reset.catalog = [] := rfl
  have resume : Store.reset.resume = none := rfl
  simp only [Store.Sound, blank, order, queue, idle, catalog, resume]
  simp [Rec.blank]

theorem State.reset_tagsSound : State.reset.TagsSound := by
  have slot (k : Nat) : State.reset.slots.slot k = Slot.reset := SlotTable.slot_of_reset (n := 6) rfl k
  refine ⟨fun k => ?_, fun k h => ?_, fun x _ => ?_, fun x k _ => ⟨fun h => ?_, fun h => ?_⟩⟩
  · rw [slot]; rfl
  · rw [slot] at h; cases h
  · cases x <;> exact ⟨rfl, rfl⟩
  · cases x <;> cases h
  · cases x <;> cases h

/-- Settles O59, block by block. -/
theorem invariantsHoldAtReset : Obligations.InvariantsHoldAtReset := by
  refine ⟨SlotTable.reset_sound, ?_, ?_, ⟨nofun, ?_, ?_⟩, (by intro d; cases d <;> decide),
    nofun, ?_, (by intro x h; cases x <;> cases h), Store.reset_sound, State.reset_tagsSound⟩
  · refine ⟨by decide, by decide, by decide, by decide, by decide, by decide, by decide, nofun⟩
  · refine ⟨?_, ?_, nofun, nofun⟩ <;>
      exact ⟨by decide, by decide, by decide, by decide, by decide⟩
  · exact ⟨by decide, by decide, by decide, by decide⟩
  · exact ⟨by decide, by decide, by decide, by decide⟩
  · exact ⟨nofun, fun h => absurd rfl h⟩

end Sys2Proof.Machine
end

section
/-! The upstream port (chapter 1): the window table and the treatments (R3, R4), the taking of a transaction (R1), what
each row does with a transaction of its treatment, and what a forwarded transaction is observed for (R10, R11). -/

namespace Sys2Proof.Machine

/-! ### The window table (R3) -/

theorem State.captureEntry?_eq_some_iff {s : State} {r : Region} : s.captureEntry? = some r ↔
    s.cap.running = true ∧ ∃ g, s.cap.geom = some g ∧ r = ⟨g.base, g.w * g.h * 3 / 2⟩ := by
  cases running : s.cap.running <;> cases geom : s.cap.geom <;>
    simp [State.captureEntry?, State.captureWindow?, CapGeom.window, frameBytes, running, geom, eq_comm]

theorem State.outputEntry?_eq_some_iff {x : OutId} {s : State} {r : Region} : s.outputEntry? x = some r ↔
    (s.out x).state = .enabled ∧ (s.out x).leaving = false
      ∧ ∃ g, (s.out x).geom = some g ∧ r = ⟨g.base, g.ow * g.oh * 3 / 2⟩ := by
  by_cases present : (s.out x).state = .enabled ∧ (s.out x).leaving = false
  · cases geom : (s.out x).geom <;>
      simp [State.outputEntry?, Engine.window?, OutGeom.window, frameBytes, present, geom, eq_comm]
  · have absent : s.outputEntry? x = none := if_neg present
    simp only [absent, reduceCtorEq, false_iff]
    exact fun ⟨enabled, stays, _⟩ => present ⟨enabled, stays⟩

/-! ### The treatments (R4) -/

/-- R4 for one entry: `inside` by the direction for a transaction wholly in it, a straddling one else. -/
theorem State.classifyCapture_of_at {t : Txn} {s : State} {g : Region} (entry : s.captureEntry? = some g)
    (starts : g.at t.addr = true) : s.classifyCapture t = some (if g.holds t.addr t.len then
      (if t.dir = .read then .redirect (t.addr - g.base) else .enhancer (t.addr - g.base)) else .straddle) := by
  cases dir : t.dir <;> simp [State.classifyCapture, entry, starts, dir]

theorem State.classifyCapture_eq_none {t : Txn} {s : State}
    (h : ∀ g, s.captureEntry? = some g → g.at t.addr = false) : s.classifyCapture t = none := by
  unfold State.classifyCapture
  split
  · rfl
  · rename_i g entry
    simp [h g entry]

theorem State.classifyOutput_of_at {x : OutId} {t : Txn} {s : State} {g : Region} (entry : s.outputEntry? x = some g)
    (starts : g.at t.addr = true) : s.classifyOutput x t = some (if g.holds t.addr t.len then
      (if t.dir = .read then .engine x (t.addr - g.base) else .refuse) else .straddle) := by
  cases dir : t.dir <;> simp [State.classifyOutput, entry, starts, dir]

theorem State.classifyOutput_eq_none {x : OutId} {t : Txn} {s : State}
    (h : ∀ g, s.outputEntry? x = some g → g.at t.addr = false) : s.classifyOutput x t = none := by
  unfold State.classifyOutput
  split
  · rfl
  · rename_i g entry
    simp [h g entry]

theorem State.classify_of_controlPage {t : Txn} {s : State} (h : s.controlPage.at t.addr = true) :
    s.classify t = .forward := by
  simp [State.classify, h]

theorem State.classify_of_no_entry {t : Txn} {s : State} (capture : s.classifyCapture t = none)
    (output : ∀ x, s.classifyOutput x t = none) : s.classify t = .forward := by
  simp [State.classify, capture, output]

/-- Settles O5: the entries, then each treatment from the entry the transaction starts in. -/
theorem classificationFollowsTheWindowTable : Obligations.ClassificationFollowsTheWindowTable := by
  intro t s
  refine ⟨rfl, fun r => State.captureEntry?_eq_some_iff, fun x r => State.outputEntry?_eq_some_iff,
    fun halted => State.classify_of_halted halted t, State.classify_of_controlPage, fun noCap noA noB => ?_,
    fun noCap noOut => ?_, fun running outside => ⟨fun g entry starts => ?_, fun noCap x g entry starts other => ?_⟩⟩
  · refine State.classify_of_no_entry (State.classifyCapture_eq_none ?_) fun x => State.classifyOutput_eq_none ?_
    · simp [noCap]
    · cases x <;> simp [noA, noB]
  · exact State.classify_of_no_entry (State.classifyCapture_eq_none noCap) fun x =>
      State.classifyOutput_eq_none (noOut x)
  · have treatment := State.classifyCapture_of_at entry starts
    refine ⟨fun inside dir => ?_, fun inside dir => ?_, fun past => ?_⟩ <;>
      simp [State.classify, *]
  · have treatment := State.classifyOutput_of_at entry starts
    have noCapture := State.classifyCapture_eq_none noCap
    have noOther := State.classifyOutput_eq_none other
    refine ⟨fun inside dir => ?_, fun inside dir => ?_, fun past => ?_⟩ <;> cases x <;>
      simp only [otherOut] at noOther <;>
      simp [State.classify, *]

/-! ### Taking (R1) -/

/-- The state with the line of direction `d` replaced. -/
theorem State.setUntaken_untaken (d : Dir) (l : List Txn) (s : State) : (s.setUntaken d l).untaken d = l := by
  cases d <;> rfl

theorem State.isNext_iff {t : Txn} {s : State} :
    s.isNext t = true ↔ s.untaken t.dir = [] ∨ (s.untaken t.dir).head? = some t := by
  unfold State.isNext
  cases s.untaken t.dir <;> simp

theorem State.hasRoom_iff {d : Dir} {s : State} :
    s.hasRoom d = true ↔ (s.path.fwd.filter fun e => decide (e.dir = d)).length < 16 := decide_eq_true_iff

section
variable {t : Txn} {s : State} {accepts : Bool} {take : State → State}

theorem State.present_of_taken (next : s.isNext t = true) (ok : accepts = true) :
    s.present t accepts take = take (s.leaveUntaken t) := by
  simp [State.present, next, ok]

theorem State.present_of_not_accepted (refuses : accepts = false) : s.present t accepts take = s.holdUntaken t := by
  simp [State.present, refuses]

theorem State.present_of_not_next (behind : s.isNext t = false) : s.present t accepts take = s.holdUntaken t := by
  simp [State.present, behind]

/-- The line moves neither the control page nor HALTED, so it observes as before. -/
@[simp] theorem State.observe_leaveUntaken : (s.leaveUntaken t).observe t = s.observe t := by
  unfold State.leaveUntaken
  cases t.dir <;> rfl

theorem State.otherwise_of_not_next (behind : s.isNext t = false) : s.otherwise t = s.holdUntaken t := by
  unfold State.otherwise
  split
  · exact State.present_of_not_next behind
  · rfl

theorem State.forward_leaveUntaken : (s.leaveUntaken t).forward t = (s.leaveUntaken t).onPath fun p =>
    { p with fwd := p.fwd ++ [⟨t.id, t.dir, t.addr, t.len, t.data, false, s.observe t, false, none⟩] } := by
  simp only [State.forward, State.enqueue, State.observe_leaveUntaken]

/-- Behind an earlier transaction of its direction a capture write waits, whatever the tracker. -/
theorem State.captureWrite_of_not_next (behind : s.isNext t = false) (g : CapGeom) (off : Nat) (die : Int) :
    s.captureWrite t g off die = s.holdUntaken t := by
  unfold State.captureWrite
  repeat' split
  all_goals first | rfl | exact State.present_of_not_next behind

theorem State.frameStart_of_not_next (behind : s.isNext t = false) (g : CapGeom) (die : Int) :
    s.frameStart t g die = s.holdUntaken t := by
  unfold State.frameStart
  simp only [State.present_of_not_next behind, behind, Bool.false_eq_true, if_false]
  repeat' split
  all_goals rfl

end

/-- R1: every row of the port leaves a transaction with an earlier one ahead of it waiting. -/
theorem exec_of_not_next {t : Txn} {s : State} (legal : t.legal = true) (behind : s.isNext t = false) :
    exec (.forwardedTransaction t) s = .next (s.holdUntaken t) ∧ exec (.straddlingAccess t) s = .next (s.holdUntaken t)
      ∧ (t.dir = .write → ∀ die, exec (.outputWindowWrite t) s = .next (s.holdUntaken t)
        ∧ exec (.captureWrite t die) s = .next (s.holdUntaken t)
        ∧ exec (.frameStart t die) s = .next (s.holdUntaken t))
      ∧ (t.dir = .read → exec (.outputWindowRead t) s = .next (s.holdUntaken t)
        ∧ exec (.captureWindowRead t) s = .next (s.holdUntaken t)) := by
  refine ⟨?_, ?_, fun dir die => ⟨?_, ?_, ?_⟩, fun dir => ⟨?_, ?_⟩⟩ <;>
    simp only [exec, execForwardedTransaction, execStraddlingAccess, execOutputWindowWrite, execCaptureWrite,
      execFrameStart, execOutputWindowRead, execCaptureWindowRead, decide_true, Bool.and_self, if_true,
      State.otherwise_of_not_next behind, State.present_of_not_next behind, State.captureWrite_of_not_next behind,
      State.frameStart_of_not_next behind, ite_self, *]
  all_goals split <;> rfl

/-! ### The rows of the port -/

/-- Settles O6: a transaction is taken by `present`, whose take and whose wait are said once above. -/
theorem forwardedTransactionsJoinTheQueueUnchanged : Obligations.ForwardedTransactionsJoinTheQueueUnchanged := by
  refine ⟨fun t s legal treatment next => ⟨fun room => ?_, fun full => ?_⟩, fun t s legal treatment next room => ?_,
    fun t s => ⟨fun d => State.hasRoom_iff, ?_, fun h => ?_, fun h => ?_, ?_⟩,
    fun t s legal => ⟨fun treatment next full => ?_, fun off dir treatment next full => ?_, exec_of_not_next legal⟩⟩
  · simp only [exec, execForwardedTransaction, legal, if_true, State.otherwise, treatment,
      State.present_of_taken next room, State.forward_leaveUntaken]
  · simp only [exec, execForwardedTransaction, legal, if_true, State.otherwise, treatment,
      State.present_of_not_accepted full]
  · simp only [exec, execStraddlingAccess, legal, if_true, treatment, State.present_of_taken next room,
      State.forward_leaveUntaken]
  · rw [State.isNext_iff]
    cases t.dir <;> rfl
  · have line : t ∈ s.untaken t.dir := by cases dir : t.dir <;> simp only [dir] at h <;> exact h
    simp [State.holdUntaken, line]
  · have line : t ∉ s.untaken t.dir := by cases dir : t.dir <;> simp only [dir] at h <;> exact h
    simp only [State.holdUntaken, List.contains_iff_mem, line, if_false]
    cases t.dir <;> rfl
  · simp only [State.leaveUntaken, List.drop_one]
    cases t.dir <;> rfl
  · simp only [exec, execStraddlingAccess, legal, if_true, treatment, State.present_of_not_accepted full]
  · simp only [exec, execCaptureWindowRead, legal, dir, decide_true, Bool.and_self, if_true, treatment,
      State.present_of_not_accepted full]

/-- Settles O8. -/
theorem outputWindowAccessesGoToTheEngineOrAreRefused : Obligations.OutputWindowAccessesGoToTheEngineOrAreRefused := by
  intro t s legal next
  refine ⟨fun dir treatment => ?_, fun x off dir treatment => ?_⟩
  · simp only [exec, execOutputWindowWrite, legal, dir, decide_true, Bool.and_self, if_true, treatment,
      State.present_of_taken next, State.respond]
  · simp only [exec, execOutputWindowRead, legal, dir, decide_true, Bool.and_self, if_true, treatment,
      State.present_of_taken next]

/-! ### The FILLING slot -/

/-- The first slot of a state is found, and with none nothing is. -/
theorem SlotTable.find_state_eq_some {t : SlotTable} {st : SlotState} {k : Nat} (len : k < t.slots.length)
    (here : (t.slot k).state = st) (first : ∀ j, j < k → (t.slot j).state ≠ st) :
    (List.range t.slots.length).find? (fun k => decide ((t.slot k).state = st)) = some k := by
  rw [List.find?_range_eq_some]
  exact ⟨by simpa using here, List.mem_range.2 len, fun j hj => by simpa using first j hj⟩

theorem SlotTable.find_state_eq_none {t : SlotTable} {st : SlotState} (h : ∀ k, (t.slot k).state ≠ st) (n : Nat) :
    (List.range n).find? (fun k => decide ((t.slot k).state = st)) = none :=
  List.find?_eq_none.2 fun k _ => by simpa using h k

/-- Settles O9. -/
theorem captureWindowReadIsRedirectedToTheFillingSlot : Obligations.CaptureWindowReadIsRedirectedToTheFillingSlot := by
  intro t off s legal dir treatment next room
  have slots : (s.leaveUntaken t).slots = s.slots := by simp
  have taken : exec (.captureWindowRead t) s = .next ((s.leaveUntaken t).enqueue t
      ((s.leaveUntaken t).redirected t off)) := by
    simp only [exec, execCaptureWindowRead, legal, dir, decide_true, Bool.and_self, if_true, treatment,
      State.present_of_taken next room]
  refine ⟨fun g k geom len filling first => ?_, fun noFilling => ?_⟩ <;>
    rw [taken] <;> simp only [State.redirected, slots, State.enqueue, State.observe_leaveUntaken, dir]
  · simp only [SlotTable.find_state_eq_some len filling first, State.slotAddr, slots, geom]
  · simp only [SlotTable.find_state_eq_none noFilling]

/-! ### Observations (R10, R11) -/

theorem mem_singleton_if {α : Type} {p : Prop} [Decidable p] {a b : α} :
    a ∈ (if p then [b] else []) ↔ p ∧ a = b := by
  split <;> simp [*]

theorem coversUnit_iff {t : Txn} {base off : Nat} :
    coversUnit t base off = true ↔ t.addr ≤ base + off ∧ base + off < t.addr + t.len := by
  simp [coversUnit, Region.at]

/-- Settles O7: what a write and what a read is observed for is a list of one entry a unit covered. -/
theorem observationsAreTheControlPageWords : Obligations.ObservationsAreTheControlPageWords := by
  intro t s
  refine ⟨fun halted => by simp [State.observe, halted], fun running dir => ?_, fun running dir => ?_⟩
  · have observed (o : Obs) : o ∈ s.observe t ↔
        (coversUnit t s.path.cpBase Config.submitOffset = true ∧ o = .submit (wordOf t s.path.cpBase Config.submitOffset))
        ∨ (coversUnit t s.path.cpBase Config.acknowledgeOffset = true ∧
            o = .acknowledge (wordOf t s.path.cpBase Config.acknowledgeOffset)) := by
      simp [State.observe, running, dir]
    simp [observed, coversUnit_iff, wordOf, Config.submitOffset, Config.acknowledgeOffset, and_assoc]
  · have observed (o : Obs) : o ∈ s.observe t ↔
        (coversUnit t s.path.cpBase Config.noticeOffset = true ∧ o = .noticeRead)
        ∨ (coversUnit t s.path.cpBase Config.statusOffset = true ∧ o = .statusRead) := by
      simp [State.observe, running, dir]
    simp [observed, coversUnit_iff, Config.noticeOffset, Config.statusOffset]

end Sys2Proof.Machine
end

section
/-! Class B's responses (R2): a response reaches its entry, and the responses of a direction are returned in taking order
as far as they have come. The response to a redirected chroma write is one of them (R7, R80). -/

namespace Sys2Proof.Machine

/-! ### A response reaches its entry -/

theorem setResponse_append {e : FwdEntry} (r : Resp) (data : List Byte) (post : List FwdEntry) :
    ∀ {pre : List FwdEntry}, e ∉ pre →
      setResponse e r data (pre ++ e :: post) = pre ++ { e with resp := some (r, data) } :: post
  | [], _ => by simp [setResponse]
  | x :: pre, h => by
    obtain ⟨other, rest⟩ := not_or.1 (mt List.mem_cons.2 h)
    simp [setResponse, Ne.symm other, setResponse_append r data post rest]

theorem FwdEntry.awaits_iff {d : Dir} {id : Nat} {chroma : Bool} {e : FwdEntry} : e.awaits d id chroma = true ↔
    e.dir = d ∧ e.id = id ∧ e.chroma = chroma ∧ e.granted = true ∧ e.resp = none := by
  simp [FwdEntry.awaits, and_assoc]

/-- The entry a response is for is the first that awaits it (log 24). -/
theorem find_awaits_append {d : Dir} {id : Nat} {chroma : Bool} {e : FwdEntry} {pre post : List FwdEntry}
    (ahead : ∀ x ∈ pre, x.awaits d id chroma = false) (here : e.awaits d id chroma = true) :
    (pre ++ e :: post).find? (FwdEntry.awaits d id chroma) = some e := by
  rw [List.find?_append, List.find?_eq_none.2 (fun x hx => by simp [ahead x hx]), Option.none_or,
    List.find?_cons_of_pos here]

theorem FwdEntry.not_awaits_of_dir {d : Dir} {x : FwdEntry} (h : x.dir ≠ d) (id : Nat) (chroma : Bool) :
    x.awaits d id chroma = false := by
  simp [FwdEntry.awaits, h]

/-! ### Relaying, response by response -/

section
variable {s : State} {e : FwdEntry} {r : Resp} {data : List Byte} {d : Dir} {pre post : List FwdEntry}

theorem State.handsOver_eq_false_iff :
    s.handsOver e r = false ↔ r = .error ∨ e.obs = [] ∨ s.notice.halted = true := by
  cases r <;> cases halted : s.notice.halted <;> simp [State.handsOver, halted]

/-- The first response of its direction is returned, unless its access is to be handed over first. -/
theorem State.relay_succ (queue : s.path.fwd = pre ++ e :: post) (first : ∀ x ∈ pre, x.dir ≠ d) (dir : e.dir = d)
    (has : e.resp = some (r, data)) (plain : s.handsOver e r = false) (n : Nat) :
    s.relay d (n + 1) = (s.onPath fun p =>
      { p with fwd := pre ++ post, upLog := p.upLog ++ [⟨e.id, d, r, data⟩] }).relay d n := by
  have ahead : e ∉ pre := fun h => first e h dir
  simp only [State.relay, State.nextRelayed_eq queue first dir, has, plain, Bool.false_eq_true, if_false,
    State.relayOne_eq queue ahead, dir]

/-- Relaying stops at an earlier transaction that has no response. -/
theorem State.relay_of_first_waiting (queue : s.path.fwd = pre ++ e :: post) (first : ∀ x ∈ pre, x.dir ≠ d)
    (dir : e.dir = d) (waits : e.resp = none) (n : Nat) : s.relay d n = s := by
  cases n with
  | zero => rfl
  | succ n => simp only [State.relay, State.nextRelayed_eq queue first dir, waits]

/-- Relaying stops at a response that is to be handed over. -/
theorem State.relay_of_handsOver (queue : s.path.fwd = pre ++ e :: post) (first : ∀ x ∈ pre, x.dir ≠ d)
    (dir : e.dir = d) (has : e.resp = some (r, data)) (observed : s.handsOver e r = true) (n : Nat) :
    s.relay d n = s := by
  cases n with
  | zero => rfl
  | succ n => simp only [State.relay, State.nextRelayed_eq queue first dir, has, observed, if_true]

/-- The response of an entry put in its place, before anything is relayed. -/
theorem State.responded_eq (queue : s.path.fwd = pre ++ e :: post) (ahead : e ∉ pre) : s.responded e r data =
    (s.onPath fun p => { p with fwd := pre ++ { e with resp := some (r, data) } :: post }).relay e.dir
      (pre.length + post.length + 1) := by
  have length : s.path.fwd.length = pre.length + post.length + 1 := by
    rw [queue, List.length_append, List.length_cons]
    omega
  simp only [State.responded, length]
  congr 1
  simp only [State.onPath, queue, setResponse_append r data post ahead]

/-- The response to the earliest transaction of its direction is returned at once. -/
theorem State.responded_of_first (queue : s.path.fwd = pre ++ e :: post) (first : ∀ x ∈ pre, x.dir ≠ d)
    (waiting : ∀ x ∈ post, x.dir = d → x.resp = none) (dir : e.dir = d) (plain : s.handsOver e r = false) :
    s.responded e r data = s.onPath fun p =>
      { p with fwd := pre ++ post, upLog := p.upLog ++ [⟨e.id, d, r, data⟩] } := by
  subst dir
  have ahead : e ∉ pre := fun h => first e h rfl
  rw [State.responded_eq queue ahead,
    State.relay_succ (s := s.onPath _) (e := { e with resp := some (r, data) }) rfl first rfl rfl plain, State.relay_of_waiting]
  · rfl
  · intro x hx
    exact (List.mem_append.1 hx).elim (fun h same => absurd same (first x h)) (waiting x)

end

/-! ### The rows of the responses -/

theorem execClassBResponse_of_find {d : Dir} {id : Nat} {r : Resp} {data : List Byte} {e : FwdEntry} {s : State}
    (found : s.path.fwd.find? (FwdEntry.awaits d id false) = some e)
    (formed : d = .read → r = .okay → data.length = e.len) :
    exec (.classBResponse d id r data) s = .next (s.responded e r (if d = .read then data else [])) := by
  have notMalformed : ¬(d = .read ∧ r = .okay ∧ data.length ≠ e.len) := fun ⟨hd, hr, hl⟩ => hl (formed hd hr)
  simp only [exec, execClassBResponse, found, notMalformed, if_false]

/-- Settles O10: the entry is found, its response put, and what may be returned is relayed in order. -/
theorem classBResponsesAreReturnedInOrder : Obligations.ClassBResponsesAreReturnedInOrder := by
  refine ⟨fun d id r data e pre post s queue first waiting dir hid chroma granted none formed => ?_,
    fun d id r r' data data' e x pre mid post s queue first waiting here xdir has plain plain' formed => ?_,
    fun d id r data x e p1 p2 post s queue first xdir waits ahead here formed => ?_⟩
  · have here : e.awaits d id false = true := FwdEntry.awaits_iff.2 ⟨dir, hid, chroma, granted, none⟩
    have found := find_awaits_append (post := post) (fun x hx => FwdEntry.not_awaits_of_dir (first x hx) id false) here
    rw [← queue] at found
    subst hid
    refine ⟨fun plain => ?_, fun okay observed running => ?_⟩ <;> rw [execClassBResponse_of_find found formed]
    · rw [State.responded_of_first queue first waiting dir (State.handsOver_eq_false_iff.2 plain)]
    · subst okay
      subst dir
      rw [State.responded_eq queue fun h => first e h rfl, State.relay_of_handsOver (s := s.onPath _)
        (e := { e with resp := some (.okay, if e.dir = .read then data else []) }) rfl first rfl rfl]
      simp [State.handsOver, observed, running]
  · obtain ⟨dir, hid, -, -, -⟩ := FwdEntry.awaits_iff.1 here
    subst dir
    have firstPre : ∀ y ∈ pre, y.dir ≠ e.dir := fun y hy => first y (List.mem_append_left _ hy)
    have queue' : s.path.fwd = pre ++ e :: (mid ++ x :: post) := by simp [queue]
    have found := find_awaits_append (post := mid ++ x :: post)
      (fun y hy => FwdEntry.not_awaits_of_dir (firstPre y hy) id false) here
    rw [← queue'] at found
    rw [execClassBResponse_of_find found formed, State.responded_eq queue' fun h => firstPre e h rfl,
      State.relay_succ (s := s.onPath _) (e := { e with resp := some (r, _) }) rfl firstPre rfl rfl
        (State.handsOver_eq_false_iff.2 plain), List.length_append, List.length_cons, ← Nat.add_assoc,
      ← Nat.add_assoc, State.relay_succ (s := State.onPath _ (State.onPath _ _)) (e := x) (pre := pre ++ mid)
        (post := post) (by simp) first xdir has
        (State.handsOver_eq_false_iff.2 plain'), State.relay_of_waiting]
    · simp [State.onPath, hid]
    · intro y hy
      exact (List.mem_append.1 hy).elim (fun h same => absurd same (first y h)) (waiting y)
  · have notAhead : e ∉ p1 ++ x :: p2 := fun h => by simp [ahead e h] at here
    have found := find_awaits_append (post := post) ahead here
    rw [← queue] at found
    obtain ⟨rfl, -⟩ := FwdEntry.awaits_iff.1 here
    rw [execClassBResponse_of_find found formed, State.responded_eq queue notAhead,
      State.relay_of_first_waiting (s := s.onPath _) (e := x) (pre := p1)
        (post := p2 ++ { e with resp := some (r, if e.dir = .read then data else []) } :: post) (by simp) first xdir waits]

/-! ### The response to a redirected chroma write -/

theorem execChromaWriteResponse_of_find {id : Nat} {r : Resp} {e : FwdEntry} {s : State}
    (found : s.path.fwd.find? (FwdEntry.awaits .write id true) = some e) :
    exec (.chromaWriteResponse id r) s =
      .next ((if r = .error then s.chromaError e else s).responded e r []) := by
  simp only [exec, execChromaWriteResponse, found]

/-- R80: outside HALTED and outside a tear the fault names the slot of the frame. -/
theorem State.chromaError_of_slot {e : FwdEntry} {s : State} {k : Nat} (running : s.notice.halted = false)
    (whole : s.cap.tearing = false) (slot : s.cap.slot = some k) : s.chromaError e =
      s.logFault .captureWrite .enhancer e.addr s.cap.frameNo (.slot k) := by
  simp [State.chromaError, running, whole, slot]

theorem State.chromaError_of_tearing {e : FwdEntry} {s : State} (torn : s.cap.tearing = true) :
    s.chromaError e = s := by
  simp [State.chromaError, torn]

@[simp] theorem State.chromaError_path (e : FwdEntry) (s : State) : (s.chromaError e).path = s.path := by
  unfold State.chromaError
  split <;> simp
@[simp] theorem State.chromaError_cap (e : FwdEntry) (s : State) : (s.chromaError e).cap = s.cap := by
  unfold State.chromaError
  split <;> simp
@[simp] theorem State.chromaError_slots (e : FwdEntry) (s : State) : (s.chromaError e).slots = s.slots := by
  unfold State.chromaError
  split <;> simp

/-- Settles O11: the fault, if any, and then the return of the earliest write response. -/
theorem chromaWriteResponseAnswersTheCaptureWrite : Obligations.ChromaWriteResponseAnswersTheCaptureWrite := by
  intro id r e pre post s running queue first waiting dir hid chroma granted noResp plain
  have here : e.awaits .write id true = true := FwdEntry.awaits_iff.2 ⟨dir, hid, chroma, granted, noResp⟩
  have found := find_awaits_append (post := post) (fun x hx => FwdEntry.not_awaits_of_dir (first x hx) id true) here
  rw [← queue] at found
  have returned (u : State) (path : u.path = s.path) : u.responded e r [] = u.onPath fun p =>
      { p with fwd := pre ++ post, upLog := p.upLog ++ [⟨e.id, .write, r, []⟩] } :=
    State.responded_of_first (path ▸ queue) first waiting dir (State.handsOver_eq_false_iff.2 (.inr (.inl plain)))
  rw [execChromaWriteResponse_of_find found]
  refine ⟨_, rfl, ?_, ?_, ?_, fun quiet => ?_, fun error whole k slot => ?_⟩
  · split <;> rw [returned] <;> simp [hid]
  · split <;> rw [returned] <;> simp
  · split <;> rw [returned] <;> simp
  · have same : (if r = .error then s.chromaError e else s) = s := by
      obtain rfl | torn := quiet
      · rfl
      · rw [State.chromaError_of_tearing torn, ite_self]
    rw [same, returned s rfl]
    intro b hb
    cases b with
    | path => exact absurd (List.mem_singleton.2 rfl) hb
    | _ => rfl
  · rw [if_pos error, State.chromaError_of_slot running whole slot, returned _ (by simp)]
    refine ⟨rfl, rfl, fun b hb => ?_⟩
    cases b with
    | path | notice | recs => simp at hb
    | _ => simp [Block.same]

end Sys2Proof.Machine
end

section
/-! Little-endian fields (00_scope.md section 5) and the directive records (10 section 10.2): what a record of the layout
says at each offset, and that decoding a directive's record gives the directive (R23, R187). -/

namespace Sys2Proof

/-! ### Fields -/

@[simp] theorem leBytes_length (n v : Nat) : (leBytes n v).length = n := by
  induction n generalizing v with
  | zero => rfl
  | succ n ih => simp [leBytes, ih]

@[simp] theorem leNat_leBytes (n v : Nat) : leNat (leBytes n v) = v % 256 ^ n := by
  induction n generalizing v with
  | zero => simp [leBytes, leNat, Nat.mod_one]
  | succ n ih =>
    rw [leBytes, leNat, ih, BitVec.toNat_ofNat, Nat.pow_succ' (m := 256)]
    exact Nat.mod_mul.symm

/-- A field of zero bytes is zero. -/
theorem leNat_of_all_zero : ∀ {l : List Byte}, (∀ b ∈ l, b = 0) → leNat l = 0
  | [], _ => rfl
  | b :: l, h => by
    rw [leNat, leNat_of_all_zero fun x hx => h x (List.mem_cons_of_mem _ hx), h b List.mem_cons_self]
    rfl

theorem fieldAt_append_right {a b : List Byte} {off : Nat} (h : a.length ≤ off) (n : Nat) :
    fieldAt (a ++ b) off n = fieldAt b (off - a.length) n := by
  simp [fieldAt, List.drop_append, List.drop_of_length_le h]

theorem fieldAt_append_left {a b : List Byte} {off n : Nat} (h : off + n ≤ a.length) :
    fieldAt (a ++ b) off n = fieldAt a off n := by
  rw [fieldAt, fieldAt, List.drop_append_of_le_length (by omega), List.take_append_of_le_length]
  simp only [List.length_drop]
  omega

theorem fieldAt_replicate_zero (k off n : Nat) : fieldAt (List.replicate k 0) off n = 0 :=
  leNat_of_all_zero fun _ hb => List.eq_of_mem_replicate (List.mem_of_mem_drop (List.mem_of_mem_take hb))

/-- The byte of a one-byte field. -/
theorem fieldAt_cons_zero (b : Byte) (rest : List Byte) : fieldAt (b :: rest) 0 1 = b.toNat := by
  simp [fieldAt, leNat]

/-! ### Directive records -/

theorem ofNat_leNat_leBytes_two (v : BitVec 16) : BitVec.ofNat 16 (leNat (leBytes 2 v.toNat)) = v := by
  rw [leNat_leBytes, Nat.mod_eq_of_lt (by exact v.isLt), BitVec.ofNat_toNat, BitVec.setWidth_eq]

theorem ofNat_leNat_leBytes_eight (v : BitVec 64) : BitVec.ofNat 64 (leNat (leBytes 8 v.toNat)) = v := by
  rw [leNat_leBytes, Nat.mod_eq_of_lt (by exact v.isLt), BitVec.ofNat_toNat, BitVec.setWidth_eq]

theorem ofNat_leNat_singleton (v : BitVec 8) : BitVec.ofNat 8 (leNat [v]) = v := by simp [leNat]

/-- Decoding the record of a directive gives the directive: each parameter is read back from its own bytes. -/
theorem decodeDirective_of_encodeDirective {flags : BitVec 8} {c : Instr} {rec : List Byte}
    (h : encodeDirective flags c = some rec) : decodeDirective rec = c.bare := by
  cases c with
  | configureCapture w h cw sr =>
    cases h
    change Instr.configureCapture (BitVec.ofNat 16 (leNat (leBytes 2 w.toNat)))
      (BitVec.ofNat 16 (leNat (leBytes 2 h.toNat))) (BitVec.ofNat 64 (leNat (leBytes 8 cw.toNat)))
      (BitVec.ofNat 64 (leNat (leBytes 8 sr.toNat))) = _
    simp only [ofNat_leNat_leBytes_two, ofNat_leNat_leBytes_eight, Instr.bare]
  | setEnhance g c l d =>
    cases h
    change Instr.setEnhance (BitVec.ofNat 8 (leNat [g])) (BitVec.ofNat 8 (leNat [c])) (BitVec.ofNat 8 (leNat [l]))
      (BitVec.ofNat 8 (leNat [d])) = _
    simp only [ofNat_leNat_singleton, Instr.bare]
  | configureOutput x ow oh wb =>
    cases h
    change Instr.configureOutput (BitVec.ofNat 8 (leNat [x])) (BitVec.ofNat 16 (leNat (leBytes 2 ow.toNat)))
      (BitVec.ofNat 16 (leNat (leBytes 2 oh.toNat))) (BitVec.ofNat 64 (leNat (leBytes 8 wb.toNat))) = _
    simp only [ofNat_leNat_singleton, ofNat_leNat_leBytes_two, ofNat_leNat_leBytes_eight, Instr.bare]
  | setView x f zt r cx cy =>
    cases h
    change Instr.setView (BitVec.ofNat 8 (leNat [x])) (BitVec.ofNat 8 (leNat [f]))
      (BitVec.ofNat 16 (leNat (leBytes 2 zt.toNat))) (BitVec.ofNat 16 (leNat (leBytes 2 r.toNat)))
      (BitVec.ofNat 16 (leNat (leBytes 2 cx.toNat))) (BitVec.ofNat 16 (leNat (leBytes 2 cy.toNat))) = _
    simp only [ofNat_leNat_singleton, ofNat_leNat_leBytes_two, Instr.bare]
  | recallEntry x u p =>
    cases h
    change Instr.recallEntry (BitVec.ofNat 8 (leNat [x])) (BitVec.ofNat 8 (leNat [u]))
      (BitVec.ofNat 16 (leNat (leBytes 2 p.toNat))) = _
    simp only [ofNat_leNat_singleton, ofNat_leNat_leBytes_two, Instr.bare]
  | setMonitor dl k ho sc sb i p a =>
    cases h
    change Instr.setMonitor (BitVec.ofNat 8 (leNat [dl])) (BitVec.ofNat 8 (leNat [k])) (BitVec.ofNat 8 (leNat [ho]))
      (BitVec.ofNat 8 (leNat [sc])) (BitVec.ofNat 8 (leNat [sb])) (BitVec.ofNat 16 (leNat (leBytes 2 i.toNat)))
      (BitVec.ofNat 16 (leNat (leBytes 2 p.toNat))) (BitVec.ofNat 8 (leNat [a])) = _
    simp only [ofNat_leNat_singleton, ofNat_leNat_leBytes_two, Instr.bare]
  | openStore po re wl e b =>
    cases h
    change Instr.openStore (BitVec.ofNat 8 (leNat [po])) (BitVec.ofNat 8 (leNat [re])) (BitVec.ofNat 8 (leNat [wl]))
      (BitVec.ofNat 16 (leNat (leBytes 2 e.toNat))) (BitVec.ofNat 64 (leNat (leBytes 8 b.toNat))) = _
    simp only [ofNat_leNat_singleton, ofNat_leNat_leBytes_two, ofNat_leNat_leBytes_eight, Instr.bare]
  | snapshot so ke =>
    cases h
    change Instr.snapshot (BitVec.ofNat 8 (leNat [so])) (BitVec.ofNat 8 (leNat [ke])) = _
    simp only [ofNat_leNat_singleton, Instr.bare]
  | setNotice th se cl =>
    cases h
    change Instr.setNotice (BitVec.ofNat 8 (leNat [th])) (BitVec.ofNat 16 (leNat (leBytes 2 se.toNat)))
      (BitVec.ofNat 16 (leNat (leBytes 2 cl.toNat))) = _
    simp only [ofNat_leNat_singleton, ofNat_leNat_leBytes_two, Instr.bare]
  | enableOutput x | disableOutput x | live x | freeze x | blank x =>
    cases h
    exact congrArg _ (ofNat_leNat_singleton x)
  | claim p | release p | keep p | unkeep p | delete p =>
    cases h
    exact congrArg _ (ofNat_leNat_leBytes_two p)
  | startCapture | stopCapture _ | wake | closeStore | beginLesson | endLesson | restart _ =>
    cases h
    rfl
  | _ => cases h

/-- Every directive record is a type, the flags, status 0, the parameters and zero bytes to the end. -/
theorem encodeDirective_form {flags : BitVec 8} {c : Instr} {rec : List Byte}
    (h : encodeDirective flags c = some rec) : ∃ ty params, params.length ≤ 29 ∧ rec = directiveRecord ty flags params := by
  cases c
  all_goals cases h
  all_goals exact ⟨_, _, by simp, rfl⟩

theorem directiveRecord_form (ty : Nat) (flags : BitVec 8) {params : List Byte} (h : params.length ≤ 29) :
    (directiveRecord ty flags params).length = 32 ∧ byteAt (directiveRecord ty flags params) 1 = flags
      ∧ byteAt (directiveRecord ty flags params) 2 = 0 := by
  refine ⟨?_, ?_, ?_⟩
  · simp only [directiveRecord, List.length_append, List.length_replicate, List.length_cons, List.length_nil]
    omega
  · simp [directiveRecord, byteAt, fieldAt, leNat]
  · simp [directiveRecord, byteAt, fieldAt, leNat]

/-- Settles O21. -/
theorem decodingADirectiveRecordGivesTheDirective : Obligations.DecodingADirectiveRecordGivesTheDirective := by
  intro flags c rec h
  obtain ⟨ty, params, short, rfl⟩ := encodeDirective_form h
  exact ⟨decodeDirective_of_encodeDirective h, directiveRecord_form ty flags short⟩

/-! ### Types that name no directive -/

theorem knownType_iff {ty : BitVec 8} : knownType ty = true ↔ 1 ≤ ty.toNat ∧ ty.toNat ≤ 26 := by
  simp [knownType]

theorem decodeDirective_of_unknown {rec : List Byte} (h : fieldAt rec 0 1 = 0 ∨ 27 ≤ fieldAt rec 0 1) :
    decodeDirective rec = .unknownDirectiveType (byteAt rec 0) := by
  unfold decodeDirective
  split
  case h_27 => rfl
  all_goals omega

theorem decodeDirective_of_known {rec : List Byte} (low : 1 ≤ fieldAt rec 0 1) (high : fieldAt rec 0 1 ≤ 26)
    (u : BitVec 8) : decodeDirective rec ≠ .unknownDirectiveType u := by
  unfold decodeDirective
  split
  case h_27 =>
    simp only [imp_false] at *
    omega
  all_goals nofun

end Sys2Proof

namespace Sys2Proof.Machine

/-- Settles O20: the answer touches the ring and the record writes alone. -/
theorem unknownTypeIsAnsweredRefusedFormat : Obligations.UnknownTypeIsAnsweredRefusedFormat := by
  refine ⟨fun ty s running unknown => ⟨?_, ?_⟩, fun ty low high => ⟨knownType_iff.2 ⟨low, high⟩, fun s => ?_⟩,
    fun ty rest => ⟨fun low high => ?_, fun unknown => ?_⟩⟩
  · have notKnown : knownType ty = false := by
      rw [Bool.eq_false_iff, Ne, knownType_iff]
      rcases unknown with rfl | h
      · decide
      · omega
    simp only [exec, execUnknownDirectiveType, notKnown, Bool.false_eq_true, if_false, State.unlessHalted_of_not running]
  · intro b hb
    cases b with
    | ring | recs => simp at hb
    | _ => simp [Block.same]
  · simp only [exec, execUnknownDirectiveType, knownType_iff.2 ⟨low, high⟩, if_true]
  · exact decodeDirective_of_known (by rwa [fieldAt_cons_zero]) (by rwa [fieldAt_cons_zero])
  · rw [decodeDirective_of_unknown, byteAt, fieldAt_cons_zero, BitVec.ofNat_toNat, BitVec.setWidth_eq]
    rw [fieldAt_cons_zero]
    exact unknown.imp_left fun h => by rw [h]; rfl

end Sys2Proof.Machine
end

section
/-! The Directive Unit (chapter 2) and the Notice Unit's faults (09 section 9.5): what joins the record write queue, the
answers and their status writes (R23 to R25), submit values (R20, R21), fetches and retirements (R22, R24, R26), the write
error latches (R182) and the double fault (R183). -/

namespace Sys2Proof.Machine

/-! ### What joins the record write queue -/

theorem RecordWriter.mem_of_mem_request {x : RecWork} {k : Target} {w : RecordWriter}
    (h : x ∈ (w.request k).waiting) : x = .record k ∨ x ∈ w.waiting := by
  by_cases there : .record k ∈ w.waiting
  · exact .inr (by rwa [RecordWriter.request_of_mem there] at h)
  · rw [RecordWriter.request_of_not_mem there] at h
    exact (List.mem_append.1 h).symm.imp_left List.mem_singleton.1

theorem RecordWriter.mem_of_mem_give {x : RecWork} {k : Target} {d : List Byte} {w : RecordWriter}
    (h : x ∈ (w.give k d).waiting) : x = .given k d ∨ x ∈ w.waiting := by
  unfold RecordWriter.give at h
  split at h
  · obtain ⟨y, hy, e⟩ := List.mem_map.1 h
    split at e
    · exact .inl e.symm
    · exact .inr (e ▸ hy)
  · exact (List.mem_append.1 h).symm.imp_left List.mem_singleton.1

theorem RecordWriter.give_of_not_given {k : Target} {w : RecordWriter} (h : ∀ d, .given k d ∉ w.waiting)
    (d : List Byte) : w.give k d = { w with waiting := w.waiting ++ [.given k d] } := by
  have none : w.waiting.any (RecWork.isGiven k) = false := by
    refine List.any_eq_false.2 fun x hx => ?_
    cases x with
    | given j d' =>
      have other : j ≠ k := by
        rintro rfl
        exact h d' hx
      simp [RecWork.isGiven, other]
    | _ => simp [RecWork.isGiven]
  simp [RecordWriter.give, none]

/-- A write with its content given stays with its content, unless another content of the same target replaces it. -/
theorem RecordWriter.given_mem_give_of_ne {j k : Target} {d d' : List Byte} {w : RecordWriter} (other : j ≠ k)
    (h : .given j d ∈ w.waiting) : .given j d ∈ (w.give k d').waiting := by
  unfold RecordWriter.give
  split
  · exact List.mem_map.2 ⟨_, h, by simp [RecWork.isGiven, other]⟩
  · exact List.mem_append_left _ h

theorem State.mem_raiseFetch_of_mem {x : RecWork} {s : State} (h : x ∈ s.recs.waiting) :
    x ∈ s.raiseFetch.recs.waiting := List.mem_append_left _ h

@[simp] theorem State.logFault_recs_flight (k : FaultKind) (b : BlockId) (addr : Nat) (frame : Count) (pos : FaultPos)
    (s : State) : (s.logFault k b addr frame pos).recs.flight = s.recs.flight := by
  simp [State.logFault_eq]

/-! ### Events and faults (R173, R181) -/

theorem EventKind.fault_bit_getLsbD {j : EventKind} (h : j ≠ .fault) :
    EventKind.fault.bit.getLsbD j.number = false := by
  rw [EventKind.bit_getLsbD, decide_eq_false h]

@[simp] theorem State.logFault_isPending (k : FaultKind) (b : BlockId) (addr : Nat) (frame : Count) (pos : FaultPos)
    (s : State) (j : EventKind) :
    (s.logFault k b addr frame pos).notice.isPending j = (s.notice.isPending j || decide (j = .fault)) := by
  rw [State.logFault, State.requestStatus_notice, State.raise_isPending]
  rfl

/-- Settles O23. -/
theorem eventsAndFaultsReachTheNoticeUnit : Obligations.EventsAndFaultsReachTheNoticeUnit := by
  refine ⟨fun k s => ⟨fun pending notFault => ?_, fun joins => ⟨fun j => s.raise_isPending k j, ?_⟩⟩,
    fun k b addr frame pos s => ?_⟩
  · simp [State.raise, pending, notFault]
  · obtain ⟨pending, notFault, -⟩ | ⟨-, raised⟩ := s.raise_cases k
    · exact absurd joins (by simp [pending, notFault])
    · rw [raised]
      refine ⟨rfl, by simp, fun b hb => ?_⟩
      cases b with
      | notice | recs => simp at hb
      | _ => simp [Block.same]
  · refine ⟨?_, ?_, ?_, ?_, fun j notFault => ?_, ?_, ?_, ?_, ?_, ?_, ?_, ?_, fun b hb => ?_⟩
    case refine_13 =>
      cases b with
      | notice | recs => simp at hb
      | _ => simp [Block.same]
    case refine_5 => simp [notFault]
    case refine_6 =>
      rw [State.logFault_eq]
      exact RecordWriter.mem_request_of_mem _ (RecordWriter.mem_request_of_mem _ (RecordWriter.mem_give _ _ _))
    case refine_7 =>
      rw [State.logFault_eq]
      exact RecordWriter.mem_request_of_mem _ (RecordWriter.mem_request _ _)
    case refine_3 => simp
    all_goals simp [State.logFault_eq]

/-! ### Answers and their status writes (R24) -/

/-- R24: the first sixteen bytes as fetched, but for the status byte. -/
theorem statusWrite_form {rec : List Byte} (long : 16 ≤ rec.length) (st : Status) :
    (statusWrite rec st).length = 16 ∧ fieldAt (statusWrite rec st) 2 1 = st.code
      ∧ (statusWrite rec st).take 2 = rec.take 2 ∧ (statusWrite rec st).drop 3 = (rec.take 16).drop 3 := by
  have two : (rec.take 2).length = 2 := by
    rw [List.length_take]
    omega
  have three : (rec.take 2 ++ b1 st.code).length = 3 := by rw [List.length_append, two, b1, leBytes_length]
  refine ⟨?_, ?_, ?_, ?_⟩
  · rw [statusWrite, List.length_append, three, List.length_take, List.length_drop]
    omega
  · rw [statusWrite, List.append_assoc, fieldAt_append_right two.le, two, fieldAt_append_left (by simp [b1])]
    cases st <;> decide
  · rw [statusWrite, List.append_assoc, List.take_append_of_le_length two.ge, List.take_of_length_le two.le]
  · rw [statusWrite, List.drop_append_of_le_length three.ge, List.drop_of_length_le three.le, List.nil_append,
      List.drop_take]

theorem Ring.isDispatched_iff {r : Ring} {c : Instr} {i : Nat} {rec : List Byte}
    (flight : r.flight = some ⟨i, .dispatched rec⟩) : r.isDispatched c = true ↔ decodeDirective rec = c.bare := by
  simp [Ring.isDispatched, flight]

theorem State.answer_of_dispatched {c : Instr} {st : Status} {i : Nat} {rec : List Byte} {s : State}
    (flight : s.ring.flight = some ⟨i, .dispatched rec⟩) (names : decodeDirective rec = c.bare) :
    s.answer c st = (s.onRing fun r => { r with lastStatus := some st }).answerRecord i rec st := by
  simp only [State.answer, flight, (Ring.isDispatched_iff flight).2 names, if_true]

theorem State.answerAccepted_of_accepted {ty : Nat} {st : Status} {i : Nat} {rec : List Byte} {s : State}
    (flight : s.ring.flight = some ⟨i, .accepted rec⟩) (type : fieldAt rec 0 1 = ty) :
    s.answerAccepted ty st = (s.onRing fun r => { r with lastStatus := some st }).answerRecord i rec st := by
  simp only [State.answerAccepted, flight, type, if_true]

/-- R24: an answer raises its status write at the tail when none of the record waits. -/
theorem State.answerRecord_of_not_given {i : Nat} {rec : List Byte} {st : Status} {s : State}
    (none : ∀ d, .given (.directive i) d ∉ s.recs.waiting) : s.answerRecord i rec st =
      (s.onRing fun r => { r with flight := some ⟨i, .answered rec⟩ }).onRecs fun w =>
        { w with waiting := w.waiting ++ [.given (.directive i) (statusWrite rec st)] } := by
  simp only [State.answerRecord, State.onRecs, State.onRing_recs, RecordWriter.give_of_not_given none]

/-- Settles O16. -/
theorem answerRaisesTheStatusWrite : Obligations.AnswerRaisesTheStatusWrite := by
  refine ⟨fun c st i rec s flight names long none => ⟨statusWrite rec st, ?_, statusWrite_form long st⟩,
    fun c i rec s flight => ⟨fun names => ?_, fun other => ?_⟩,
    fun ty i st rec s flight type long none => ⟨statusWrite rec st, ?_, statusWrite_form long st⟩⟩
  · rw [State.answer_of_dispatched flight names, State.answerRecord_of_not_given (s := s.onRing _) none]
    rfl
  · simp only [State.accept, flight, (Ring.isDispatched_iff flight).2 names, if_true, State.onRing]
  · simp only [State.accept, flight, (Ring.isDispatched_iff flight).not.2 other]
    rfl
  · rw [State.answerAccepted_of_accepted flight type, State.answerRecord_of_not_given (s := s.onRing _) none]
    rfl

/-! ### Submit values (R20, R21) -/

section
variable {v : Nat} {s : State}

theorem State.takeSubmit_of_ge (h : 32 ≤ v) : s.takeSubmit v = s.refuseSubmit := if_pos h

theorem State.takeSubmit_of_idle (small : v < 32) (idle : s.ring.state = .idle) : s.takeSubmit v =
    if v = s.ring.head then s.onRing fun r => { r with tail := v }
    else (s.onRing fun r => { r with tail := v }).raiseFetch := by
  simp only [State.takeSubmit, Config.ringRecords, small.not_ge, if_false, idle]

theorem State.takeSubmit_of_fetching (small : v < 32) (fetching : s.ring.state = .fetching) : s.takeSubmit v =
    if s.ring.flightIndex = some v then s.refuseSubmit else s.onRing fun r => { r with tail := v } := by
  simp only [State.takeSubmit, Config.ringRecords, small.not_ge, if_false, fetching]

theorem State.takeSubmit_of_stalled (small : v < 32) (stalled : s.ring.state = .stalled) : s.takeSubmit v =
    if v = s.ring.head then
      ((s.onRing fun r => { r with tail := v }).onRing fun r => { r with state := .idle }).request .head
    else (s.onRing fun r => { r with tail := v }).raiseFetch := by
  simp only [State.takeSubmit, Config.ringRecords, small.not_ge, if_false, stalled]

theorem Ring.flightIndex_eq_some_iff {r : Ring} :
    r.flightIndex = some v ↔ ∃ f, r.flight = some f ∧ f.index = v := Option.map_eq_some_iff

end

/-- The row of an observed write or read that is due, for the whole of what the access is observed for. -/
theorem State.relayObserved_all {d : Dir} {o : Obs} {e : FwdEntry} {data : List Byte} {pre post : List FwdEntry}
    {s : State} (running : s.notice.halted = false) (queue : s.path.fwd = pre ++ e :: post)
    (first : ∀ x ∈ pre, x.dir ≠ d) (dir : e.dir = d) (okay : e.resp = some (.okay, data)) (observed : o ∈ e.obs)
    (waiting : ∀ x ∈ post, x.dir = d → x.resp = none) : s.relayObserved d o = State.handEach e.obs (s.onPath fun p =>
      { p with
        fwd := pre ++ post, upLog := p.upLog ++ [⟨e.id, d, .okay, data⟩], handed := p.handed ++ e.obs }) := by
  rw [State.relayObserved_of_due running queue first dir okay observed waiting]
  rfl

/-- Settles O14: the value is handed over by the row, and each case of `takeSubmit` is one of the statement. -/
theorem submitWordIsTakenByTheRingState : Obligations.SubmitWordIsTakenByTheRingState := by
  refine ⟨fun v e data pre post s running queue first dir okay obs waiting => ?_, fun v s notDue => ?_⟩
  · have handed : exec (.submitWord v) s = .next ((s.onPath fun p => { p with
        fwd := pre ++ post, upLog := p.upLog ++ [⟨e.id, .write, .okay, data⟩]
        handed := p.handed ++ [.submit v] }).takeSubmit v.toNat) := by
      simp only [exec, execSubmitWord, State.relayObserved_all running queue first dir okay
        (by rw [obs]; exact List.mem_singleton.2 rfl) waiting, obs, State.handEach, State.hand]
    dsimp only
    rw [handed]
    refine ⟨fun large => ?_, fun small idle same => ?_, fun small idle other => ?_, fun small fetching other => ?_,
      fun small fetching inFlight => ?_, fun small stalled same => ?_, fun small stalled other => ?_⟩
    · rw [State.takeSubmit_of_ge large]
      rfl
    · rw [State.takeSubmit_of_idle (s := State.onPath _ s) small idle]
      exact congrArg _ (if_pos same)
    · rw [State.takeSubmit_of_idle (s := State.onPath _ s) small idle]
      exact congrArg _ (if_neg other)
    · rw [State.takeSubmit_of_fetching (s := State.onPath _ s) small fetching]
      refine congrArg _ (if_neg fun inFlight => ?_)
      obtain ⟨f, flight, index⟩ := Ring.flightIndex_eq_some_iff.1 inFlight
      exact other f flight index
    · rw [State.takeSubmit_of_fetching (s := State.onPath _ s) small fetching]
      exact congrArg _ (if_pos (Ring.flightIndex_eq_some_iff.2 inFlight))
    · rw [State.takeSubmit_of_stalled (s := State.onPath _ s) small stalled]
      exact congrArg _ (if_pos same)
    · rw [State.takeSubmit_of_stalled (s := State.onPath _ s) small stalled]
      exact congrArg _ (if_neg other)
  · exact congrArg _ (State.relayObserved_of_not_due notDue)

/-! ### Acknowledges and notice reads (R175, R176) -/

/-- R176: the kinds of the mask's low sixteen bits go. -/
theorem State.acknowledge_pending_getLsbD (v : BitVec 32) (s : State) {n : Nat} (h : n < 16) :
    (s.acknowledge v).notice.pending.getLsbD n = (s.notice.pending.getLsbD n && !v.getLsbD n) := by
  unfold State.acknowledge
  dsimp only
  split
  · rename_i nothing
    have bit : (s.notice.pending &&& v.setWidth 16).getLsbD n = false := by rw [nothing]; simp
    rw [BitVec.getLsbD_and, BitVec.getLsbD_setWidth, decide_eq_true h, Bool.true_and] at bit
    revert bit
    cases s.notice.pending.getLsbD n <;> cases v.getLsbD n <;> simp
  · simp [h]

/-- R176: of the Notice Unit an acknowledge changes the pending set alone, and the record is requested when it does. -/
theorem State.acknowledge_effect (v : BitVec 32) (s : State) :
    (s.acknowledge v).notice = { s.notice with pending := (s.acknowledge v).notice.pending }
      ∧ ((s.acknowledge v).notice.pending ≠ s.notice.pending → (s.acknowledge v).recs = s.recs.request .notice)
      ∧ ((s.acknowledge v).notice.pending = s.notice.pending → (s.acknowledge v).recs = s.recs) := by
  unfold State.acknowledge
  dsimp only
  split
  · exact ⟨rfl, fun changed => absurd rfl changed, fun _ => rfl⟩
  · rename_i some
    refine ⟨rfl, fun _ => rfl, fun same => absurd ?_ some⟩
    change s.notice.pending &&& ~~~(v.setWidth 16) = s.notice.pending at same
    rw [← same, BitVec.and_assoc, BitVec.and_comm (~~~_), BitVec.and_not_self]
    exact BitVec.and_zero

theorem RecordWriter.noticeOutstanding_iff {w : RecordWriter} : w.noticeOutstanding = true ↔
    .record .notice ∈ w.waiting ∨ ∃ a d, .write .notice a d ∈ w.flight := by
  have isNotice (x : RecFlight) : x.isNotice = true ↔ ∃ a d, x = .write .notice a d := by
    unfold RecFlight.isNotice
    split <;> simp_all
  simp only [RecordWriter.noticeOutstanding, Bool.or_eq_true, List.contains_iff_mem, List.any_eq_true, isNotice]
  refine or_congr_right ⟨?_, ?_⟩
  · rintro ⟨_, hx, a, d, rfl⟩
    exact ⟨a, d, hx⟩
  · rintro ⟨a, d, hx⟩
    exact ⟨_, hx, a, d, rfl⟩

/-- Settles O24. -/
theorem acknowledgesAndNoticeReadsAreObserved : Obligations.AcknowledgesAndNoticeReadsAreObserved := by
  refine ⟨fun v e data pre post s running queue first dir okay waiting => ⟨fun obs => ?_, fun w obs => ?_⟩,
    fun e data pre post s running queue first dir okay obs waiting => ?_,
    fun v s => ⟨fun notDue => congrArg _ (State.relayObserved_of_not_due notDue),
      fun notDue => congrArg _ (State.relayObserved_of_not_due notDue)⟩⟩
  · have handed := State.relayObserved_all running queue first dir okay (o := .acknowledge v) (by simp [obs]) waiting
    rw [obs] at handed
    refine ⟨_, congrArg Host.Outcome.next handed, ?_⟩
    simp only [State.handEach, State.hand]
    obtain ⟨frame, changes, stays⟩ := State.acknowledge_effect v (s.onPath fun p => { p with
      fwd := pre ++ post, upLog := p.upLog ++ [⟨e.id, .write, .okay, data⟩], handed := p.handed ++ [.acknowledge v] })
    refine ⟨fun n hn => State.acknowledge_pending_getLsbD v _ hn, frame, changes, stays, by simp, fun b hb => ?_⟩
    cases b with
    | notice | recs | path => simp at hb
    | _ => simp [Block.same]
  · have handed (o : Obs) (ho : o ∈ e.obs) := State.relayObserved_all running queue first dir okay ho waiting
    have submit := handed (.submit w) (by simp [obs])
    have acknowledge := handed (.acknowledge v) (by simp [obs])
    refine ⟨congrArg Host.Outcome.next (acknowledge.trans submit.symm), _, congrArg Host.Outcome.next submit, ?_⟩
    rw [obs]
    simp only [State.handEach, State.hand]
    refine ⟨fun n hn => ?_, fun large => ?_, fun small notFetching => ?_, by simp, fun b hb => ?_⟩
    · rw [State.acknowledge_pending_getLsbD v _ hn, State.takeSubmit_notice]
      rfl
    · rw [State.acknowledge_ring, State.takeSubmit_of_ge large]
      rfl
    · rw [State.acknowledge_ring]
      cases state : s.ring.state with
      | idle =>
        rw [State.takeSubmit_of_idle (s := State.onPath _ s) small state]
        split <;> rfl
      | fetching => exact absurd state notFetching
      | stalled =>
        rw [State.takeSubmit_of_stalled (s := State.onPath _ s) small state]
        split <;> rfl
    · cases b with
      | notice | recs | path | ring => simp at hb
      | _ => simp [Block.same]
  · have handed := State.relayObserved_all running queue first dir okay (o := .noticeRead) (by simp [obs]) waiting
    rw [obs] at handed
    have row : exec .noticeRecordRead s = .next (State.noticeReadSeen _) := congrArg Host.Outcome.next handed
    dsimp only
    rw [row]
    refine ⟨fun outstanding => ?_, fun notWaiting notOut => ?_⟩
    · exact congrArg _ (if_pos (RecordWriter.noticeOutstanding_iff.2 outstanding))
    · refine congrArg _ (if_neg fun outstanding => ?_)
      obtain h | ⟨a, d, h⟩ := RecordWriter.noticeOutstanding_iff.1 outstanding
      · exact notWaiting h
      · exact notOut a d h

/-! ### Fetches (R22, R26) -/

/-- Settles O15. -/
theorem directiveFetchResponseDispatchesOrStalls : Obligations.DirectiveFetchResponseDispatchesOrStalls := by
  intro a i data s running fetch flight
  refine ⟨fun length => ?_, ?_⟩
  · simp only [exec, execDirectiveFetchResponse, fetch, length, ne_eq, not_true_eq_false, and_false, if_false,
      State.unlessHalted_of_not running]
    simp [State.dispatch, State.onRing, State.onRecs, flight]
  · have row : exec (.directiveFetchResponse .error data) s = .next
        ((s.onRecs fun w => { w with flight := w.flight.erase (.fetch a) }).fetchFailed a) := by
      simp only [exec, execDirectiveFetchResponse, fetch, reduceCtorEq, false_and, if_false,
        State.unlessHalted_of_not running]
    refine ⟨_, row, ?_⟩
    simp only [State.fetchFailed, State.logFault_eq]
    refine ⟨rfl, rfl, ?_, rfl, ?_, fun j d h => ?_, RecordWriter.mem_request _ _, ?_, fun b hb => ?_⟩
    · change (s.notice.pending ||| EventKind.fault.bit).getLsbD EventKind.fault.number = true
      simp [EventKind.bit_getLsbD]
    · exact RecordWriter.mem_request_of_mem _ (RecordWriter.mem_request_of_mem _
        (RecordWriter.mem_request_of_mem _ (RecordWriter.mem_give _ _ _)))
    · obtain h | h := RecordWriter.mem_of_mem_request h
      · cases h
      obtain h | h := RecordWriter.mem_of_mem_request h
      · cases h
      obtain h | h := RecordWriter.mem_of_mem_request h
      · cases h
      obtain h | h := RecordWriter.mem_of_mem_give h
      · cases h
      · exact h
    · exact RecordWriter.mem_request_of_mem _ (RecordWriter.mem_request _ _)
    · cases b with
      | ring | recs | notice => simp at hb
      | _ => rfl

end Sys2Proof.Machine
end

section
/-! The responses of record writes: the write error latches (R182), the retirement of a record by the response of its status
write (R24), and the double fault (R183, R16). -/

namespace Sys2Proof.Machine

/-! ### The write error latches (R182) -/

section
variable {k : LatchId} {addr : Nat} {s : State}

theorem State.latched_okay :
    s.latched k addr .okay = s.onNotice fun n => { n with latches := n.latches.put k false } := rfl

theorem State.latched_error_of_set (set : s.notice.latches.get k = true) : s.latched k addr .error = s := if_pos set

theorem State.latched_error_of_clear (clear : s.notice.latches.get k = false) : s.latched k addr .error =
    (s.onNotice fun n => { n with latches := n.latches.put k true }).logFault k.fault .notice addr s.cap.frameNo
      .none := by
  simp only [State.latched, clear, Bool.false_eq_true, if_false]

@[simp] theorem State.latched_recs_flight (r : Resp) : (s.latched k addr r).recs.flight = s.recs.flight := by
  cases r with
  | okay => rfl
  | error =>
    cases set : s.notice.latches.get k with
    | true => rw [State.latched_error_of_set set]
    | false => rw [State.latched_error_of_clear set, State.logFault_recs_flight, State.onNotice_recs]

theorem State.latched_isPending (r : Resp) {j : EventKind} (h : j ≠ .fault) :
    (s.latched k addr r).notice.isPending j = s.notice.isPending j := by
  cases r with
  | okay => rfl
  | error =>
    cases set : s.notice.latches.get k with
    | true => rw [State.latched_error_of_set set]
    | false =>
      rw [State.latched_error_of_clear set, State.logFault_isPending, decide_eq_false h, Bool.or_false]
      rfl

end

/-! ### Retirement (R24) -/

section
variable (i : Nat) (rec : List Byte) (s : State)

/-- R24: head advances; the ring becomes IDLE at the tail and else fetches the next record. -/
theorem State.retire_ring : (s.retire i rec).ring = { s.ring with
    head := (i + 1) % 32
    state := if (i + 1) % 32 = s.ring.tail then .idle else .fetching
    flight := if (i + 1) % 32 = s.ring.tail then none else some ⟨(i + 1) % 32, .fetch⟩ } := by
  by_cases atTail : (i + 1) % 32 = s.ring.tail <;> cases notify : notifies rec <;>
    simp [State.retire, Config.ringRecords, State.raiseFetch, atTail, notify]

@[simp] theorem State.retire_flight : (s.retire i rec).recs.flight = s.recs.flight := by
  by_cases atTail : (i + 1) % 32 = s.ring.tail <;> cases notify : notifies rec <;>
    simp [State.retire, Config.ringRecords, State.raiseFetch, atTail, notify]

/-- What waited waits on, and the Head unit is written. -/
theorem State.mem_retire {x : RecWork} (h : x = .record .head ∨ x ∈ s.recs.waiting) :
    x ∈ (s.retire i rec).recs.waiting := by
  have requested : x ∈ (s.recs.request .head).waiting := by
    obtain rfl | h := h
    · exact RecordWriter.mem_request _ _
    · exact RecordWriter.mem_request_of_mem _ h
  unfold State.retire
  dsimp only
  split <;> split
  · exact State.mem_raise_of_mem _ requested
  · exact requested
  · exact State.mem_raiseFetch_of_mem (State.mem_raise_of_mem _ requested)
  · exact State.mem_raiseFetch_of_mem requested

theorem State.fetch_mem_retire (next : (i + 1) % 32 ≠ s.ring.tail) :
    .fetch (s.path.cpBase + (i + 1) % 32 * 32) ∈ (s.retire i rec).recs.waiting := by
  cases notify : notifies rec <;>
    simp [State.retire, Config.ringRecords, State.raiseFetch, RecordWriter.raiseWork, next, notify]

theorem State.retire_isPending (j : EventKind) : (s.retire i rec).notice.isPending j =
    (s.notice.isPending j || notifies rec && decide (j = .directiveDone)) := by
  by_cases atTail : (i + 1) % 32 = s.ring.tail <;> cases notify : notifies rec <;>
    simp [State.retire, Config.ringRecords, atTail, notify]

/-- Retirement touches neither the latches nor the count and the place of the faults. -/
theorem State.retire_faults : (s.retire i rec).notice.latches = s.notice.latches
    ∧ (s.retire i rec).notice.faults = s.notice.faults ∧ (s.retire i rec).notice.place = s.notice.place := by
  by_cases atTail : (i + 1) % 32 = s.ring.tail <;> cases notify : notifies rec <;>
    simp [State.retire, Config.ringRecords, atTail, notify]

end

/-! ### The rows of the record writes -/

section
variable {which : RecFlight → Bool} {k : Target} {a : Nat} {d : List Byte} {r : Resp} {s : State}

theorem State.recordResponse_of_find (found : s.recs.flight.find? which = some (.write k a d)) :
    s.recordResponse which r =
      (s.onRecs fun w => { w with flight := w.flight.erase (.write k a d) }).writeReturned k a r := by
  simp only [State.recordResponse, found]

theorem execRecordWriteResponse_of_find (running : s.notice.halted = false)
    (found : s.recs.flight.find? (RecFlight.writesAt a) = some (.write k a d)) : exec (.recordWriteResponse a r) s =
      .next ((s.onRecs fun w => { w with flight := w.flight.erase (.write k a d) }).writeReturned k a r) := by
  simp only [exec, execRecordWriteResponse, State.unlessHalted_of_not running, State.recordResponse_of_find found]

/-- R182: a write that is no status write follows its latch and nothing more. -/
theorem State.writeReturned_of_latch {l : LatchId} (latch : k.latch = some l) (noStatus : ∀ i, k ≠ .directive i) :
    s.writeReturned k a r = s.latched l a r := by
  cases k with
  | directive i => exact absurd rfl (noStatus i)
  | fault _ => cases latch
  | _ => cases latch; rfl

/-- R24, R182: the write of the record answered follows its latch, and then the record is retired. -/
theorem State.writeReturned_directive {i : Nat} {rec : List Byte} (flight : s.ring.flight = some ⟨i, .answered rec⟩) :
    s.writeReturned (.directive i) a r = (s.latched .directive a r).retire i rec := by
  have flight' : (s.latched .directive a r).ring.flight = some ⟨i, .answered rec⟩ := by
    rw [State.latched_ring, flight]
  change (s.latched .directive a r).statusWriteReturned i = _
  simp only [State.statusWriteReturned, flight', if_true]

end

/-- Settles O17: the latch first, then the retirement. -/
theorem statusWriteResponseRetiresTheRecord : Obligations.StatusWriteResponseRetiresTheRecord := by
  intro i a rec d r s running flight found
  have row : exec (.directiveStatusWriteResponse r) s = .next
      (((s.onRecs fun w => { w with flight := w.flight.erase (.write (.directive i) a d) }).latched .directive a
        r).retire i rec) := by
    simp only [exec, execDirectiveStatusWriteResponse, State.unlessHalted_of_not running,
      State.recordResponse_of_find found]
    exact congrArg _ (State.writeReturned_directive (s := s.onRecs _) flight)
  refine ⟨_, row, ?_⟩
  generalize before : (s.onRecs fun w => { w with flight := w.flight.erase (.write (.directive i) a d) }) = s1
  have ring : s1.ring = s.ring := by rw [← before]; rfl
  have path : s1.path = s.path := by rw [← before]; rfl
  have cap : s1.cap = s.cap := by rw [← before]; rfl
  have notice : s1.notice = s.notice := by rw [← before]; rfl
  have ringAfter := (s1.latched .directive a r).retire_ring i rec
  obtain ⟨latches, faults, place⟩ := (s1.latched .directive a r).retire_faults i rec
  rw [State.latched_ring, ring] at ringAfter
  refine ⟨?_, ?_, ?_, fun atTail => ⟨?_, ?_⟩, fun next => ⟨?_, ?_, ?_⟩, State.mem_retire _ _ _ (.inl rfl), ?_,
    fun notify => ?_, fun quiet => ?_, fun okay => ⟨?_, ?_, ?_⟩, fun error => ?_, fun error set => ⟨?_, ?_⟩,
    fun error clear => ?_, fun first => ?_, fun b hb => ?_⟩
  · rw [ringAfter]
  · rw [ringAfter]
  · rw [ringAfter]
  · simp only [ringAfter, atTail, if_true]
  · simp only [ringAfter, atTail, if_true]
  · simp only [ringAfter, next, if_false]
  · simp only [ringAfter, next, if_false]
  · have raised := (s1.latched .directive a r).fetch_mem_retire i rec (by rwa [State.latched_ring, ring])
    rwa [State.latched_path, path] at raised
  · rw [State.retire_flight, State.latched_recs_flight, ← before]
    rfl
  · rw [State.retire_isPending, notify]
    simp
  · rw [State.retire_isPending, quiet, State.latched_isPending _ (by decide), notice, Bool.false_and, Bool.or_false]
  · rw [latches, okay, State.latched_okay, ← before]
    rfl
  · rw [faults, okay, State.latched_okay, ← before]
    rfl
  · rw [place, okay, State.latched_okay, ← before]
    rfl
  · rw [latches, error]
    cases set : s1.notice.latches.get .directive with
    | true =>
      rw [State.latched_error_of_set set, ← notice, ← show s1.notice.latches.directive = true from set]
    | false =>
      rw [State.latched_error_of_clear set, State.logFault_eq, ← notice]
      rfl
  · rw [faults, error, State.latched_error_of_set (by rw [notice]; exact set), notice]
  · rw [place, error, State.latched_error_of_set (by rw [notice]; exact set), notice]
  · have logged := State.latched_error_of_clear (s := s1) (k := .directive) (addr := a) (by rw [notice]; exact clear)
    subst error
    refine ⟨?_, ?_, ?_, State.mem_retire _ _ _ (.inr ?_), State.mem_retire _ _ _ (.inr ?_)⟩
    · rw [faults, logged, State.logFault_eq, ← notice]
      rfl
    · rw [place, logged, State.logFault_eq, ← notice]
      rfl
    · rw [State.retire_isPending, logged, State.logFault_isPending]
      simp
    · rw [logged, State.logFault_eq]
      exact RecordWriter.mem_request _ _
    · rw [logged, State.logFault_eq, ← notice, ← cap]
      exact RecordWriter.mem_request_of_mem _ (RecordWriter.mem_request_of_mem _ (RecordWriter.mem_give _ _ _))
  · rw [execRecordWriteResponse_of_find running first, before, State.writeReturned_directive (ring ▸ flight)]
  · subst before
    cases b with
    | ring | recs | notice => simp at hb
    | _ => simp [Block.same]

/-- Settles O18. -/
theorem recordWriteResponseFollowsTheLatches : Obligations.RecordWriteResponseFollowsTheLatches := by
  intro k l a d s running found latch noStatus
  have row (r : Resp) : exec (.recordWriteResponse a r) s = .next (State.latched l a r _) :=
    (execRecordWriteResponse_of_find running found).trans
      (congrArg _ (State.writeReturned_of_latch latch noStatus))
  have kind : l.fault = if l = .store then .catalogWrite else .recordWrite := by cases l <;> rfl
  refine ⟨row .okay, fun set => ?_, fun clear => ?_⟩
  · rw [row, State.latched_error_of_set (s := s.onRecs _) set]
  · rw [row, State.latched_error_of_clear (s := s.onRecs _) clear, kind]
    rfl

/-- Settles O19. -/
theorem doubleFaultHaltsThePart : Obligations.DoubleFaultHaltsThePart := by
  intro k a d s running found
  refine ⟨_, execRecordWriteResponse_of_find running found, rfl, rfl, rfl, rfl, ?_, rfl, fun x => by cases x <;> rfl, rfl,
    fun b hb => ?_⟩
  · rw [List.map_append]
    rfl
  · cases b with
    | ring | slots | mon | gov | pending => rfl
    | _ => simp at hb

end Sys2Proof.Machine
end

section
/-! The downstream arbiter (01 section 1.6): the class it grants (R12 to R14, R68) and what a grant issues. -/

namespace Sys2Proof.Machine

/-! ### What waits in each class -/

theorem State.waitsE_iff {s : State} : s.waitsE = true ↔ s.store.engine.waiting ≠ [] := by
  simp [State.waitsE]

theorem State.waitsB_iff {s : State} : s.waitsB = true ↔ ∃ e ∈ s.path.fwd, e.granted = false := by
  simp [State.waitsB]

theorem State.not_waitsB_iff {s : State} : s.waitsB = false ↔ ∀ e ∈ s.path.fwd, e.granted = true := by
  simp [State.waitsB]

/-- R12: class A alternates while both engines wait. -/
theorem State.offerA_eq (s : State) : s.offerA =
    if s.outA.fetchWaiting ≠ [] ∧ (s.outB.fetchWaiting = [] ∨ s.path.lastA = .b) then some (.a .a)
    else if s.outB.fetchWaiting ≠ [] then some (.a .b) else none := by
  unfold State.offerA State.nextClassA
  split <;> rename_i ha hb <;> cases last : s.path.lastA <;> simp [ha, hb, otherOut]

theorem State.offerC_eq (s : State) : s.offerC = if s.cap.lumaWaiting ≠ [] then some .c else none := by
  cases h : s.cap.lumaWaiting <;> simp [State.offerC, h]

theorem State.offerD_eq (s : State) : s.offerD = if s.recs.waiting ≠ [] then some .d else none := by
  cases h : s.recs.waiting <;> simp [State.offerD, h]

theorem State.offerB_eq (s : State) :
    s.offerB = if ∃ e ∈ s.path.fwd, e.granted = false then some .b else none := by
  simp only [State.offerB, State.waitsB_iff]

theorem State.offerE_eq (s : State) : s.offerE = if s.store.engine.waiting ≠ [] then some .e else none := by
  simp only [State.offerE, State.waitsE_iff]

/-- R13: the order A to E, with class C ahead of class B under luma pressure. -/
theorem State.classOrder_findSome (s : State) : s.classOrder.findSome? id =
    (s.offerA.or (if s.lumaPressed then s.offerC.or s.offerB else s.offerB.or s.offerC)).or
      (s.offerD.or s.offerE) := by
  unfold State.classOrder
  split <;> simp only [List.findSome?_cons, List.findSome?_nil, id, Option.or_assoc] <;>
    cases s.offerA <;> cases s.offerB <;> cases s.offerC <;> cases s.offerD <;> cases s.offerE <;> rfl

theorem ite_some_or {α : Type} {p : Prop} [Decidable p] (x : α) (y z : Option α) :
    (if p then some x else y).or z = if p then some x else y.or z := by
  split <;> simp

/-- Settles O12: each class's offer in the order of the statement. -/
theorem arbiterOrderIsABCDEWithItsExceptions : Obligations.ArbiterOrderIsABCDEWithItsExceptions := by
  intro s
  refine ⟨fun running => ?_, fun halted => ?_, ?_⟩
  · have loss : s.lossDue = true ↔ s.store.engine.waiting ≠ [] ∧ 32 ≤ s.path.lossCount := by
      rw [State.lossDue, Bool.and_eq_true, State.waitsE_iff, decide_eq_true_iff, Config.lossLimit]
    have pressed : s.lumaPressed = true ↔ 3 ≤ s.cap.emittedLines := decide_eq_true_iff
    have noneB : (∀ e ∈ s.path.fwd, e.granted = true) ↔ ¬∃ e ∈ s.path.fwd, e.granted = false := by simp
    simp only [State.chooseGrant, running, Bool.false_eq_true, if_false, loss, State.classOrder_findSome,
      State.offerA_eq, State.offerB_eq, State.offerC_eq, State.offerD_eq, State.offerE_eq, pressed, noneB]
    by_cases lines : 3 ≤ s.cap.emittedLines
    · simp only [lines, if_true, true_or, and_true, ite_some_or, Option.none_or]
    · by_cases waitsB : ∃ e ∈ s.path.fwd, e.granted = false <;>
        simp only [lines, waitsB, if_true, if_false, not_true_eq_false, not_false_eq_true, or_false, or_true, and_false,
          and_true, ite_some_or, Option.none_or, Option.some_or]
  · simp only [State.chooseGrant, halted, if_true, State.offerB_eq]
  · rw [← List.countP_eq_length_filter]
    refine List.countP_congr fun p _ => ?_
    cases p <;> simp

/-! ### Grants -/

/-- The first entry not granted is granted. -/
theorem grantFirst_append {e : FwdEntry} {post : List FwdEntry} (waits : e.granted = false) :
    ∀ {pre : List FwdEntry}, (∀ y ∈ pre, y.granted = true) →
      grantFirst (pre ++ e :: post) = pre ++ { e with granted := true } :: post
  | [], _ => by simp [grantFirst, waits]
  | x :: pre, h => by
    simp [grantFirst, h x List.mem_cons_self, grantFirst_append waits fun y hy => h y (List.mem_cons_of_mem _ hy)]

/-- R14: every grant but class E's is a loss for a class E that waits. -/
theorem State.lossAfter_of_ne {k : GrantClass} (other : k ≠ .e) (s : State) : s.lossAfter k =
    if s.store.engine.waiting = [] then 0 else min (s.path.lossCount + 1) 32 := by
  cases h : s.store.engine.waiting <;> simp [State.lossAfter, other, State.waitsE, h, Config.lossLimit]

theorem State.grant_eq {s : State} (running : s.notice.halted = false) (k : GrantClass) :
    s.grant k = (s.issue k).onPath fun p => { p with lossCount := s.lossAfter k } := by
  simp only [State.grant, running, Bool.false_eq_true, if_false]

/-- R14, R178: a grant to class E issues its first transaction and ends its losses. -/
theorem State.grant_e {s : State} {x : ChunkTxn} {rest : List ChunkTxn} (running : s.notice.halted = false)
    (waiting : s.store.engine.waiting = x :: rest) : s.grant .e = (s.onStore fun st => { st with engine :=
      { st.engine with waiting := rest, flight := st.engine.flight ++ [x] } }).onPath fun p =>
        { p with lossCount := 0 } := by
  rw [State.grant_eq running]
  simp [State.issue, State.lossAfter, Store.onEngine, CopyEngine.grantChunk, State.onStore, waiting]

theorem Capture.lumaGranted_frame (k : Nat) (c : Capture) : (c.lumaGranted k).lumaWaiting = c.lumaWaiting
    ∧ (c.lumaGranted k).lumaFlight = c.lumaFlight := by
  unfold Capture.lumaGranted
  repeat' split
  all_goals exact ⟨rfl, rfl⟩

/-- Settles O13: the class chosen issues its first transaction. -/
theorem grantsIssueTheFirstWaitingTransaction : Obligations.GrantsIssueTheFirstWaitingTransaction := by
  refine ⟨fun s running => ?_, fun s x rest running waiting due => ?_⟩
  · have granted {k : GrantClass} (chosen : s.chooseGrant = some k) : exec .downstreamGrant s = .next
        ((s.issue k).onPath fun p => { p with lossCount := s.lossAfter k }) := by
      simp only [exec, execDownstreamGrant, chosen, State.grant_eq running]
    have lost {k : GrantClass} (other : k ≠ .e) := State.lossAfter_of_ne other s
    refine ⟨fun none => ?_, fun x f rest chosen waiting => ?_, fun pre e post chosen queue ahead waits => ?_,
      fun w rest chosen waiting => ⟨_, granted chosen, ?_⟩, fun w rest chosen waiting => ?_,
      fun x rest chosen waiting => ?_⟩
    · simp only [exec, execDownstreamGrant, none]
    · rw [granted chosen, lost (k := .a x) (by simp)]
      cases x <;> simp only [State.out_a, State.out_b] at waiting <;>
        simp [State.issue, Engine.grantFetch, State.onOut, State.onOutA, State.onOutB, State.onPath, waiting]
    · rw [granted chosen, lost (k := .b) (by simp)]
      simp [State.issue, State.onPath, queue, grantFirst_append waits ahead]
    · have cap : (s.issue .c).cap =
          ({ s.cap with lumaWaiting := rest, lumaFlight := s.cap.lumaFlight ++ [w] } : Capture).lumaGranted w.place := by
        simp [State.issue, Capture.grantLuma, waiting]
      obtain ⟨waits, flies⟩ := Capture.lumaGranted_frame w.place
        { s.cap with lumaWaiting := rest, lumaFlight := s.cap.lumaFlight ++ [w] }
      refine ⟨?_, ?_, ?_, fun b hb => ?_⟩
      · rw [State.onPath_cap, cap, waits]
      · rw [State.onPath_cap, cap, flies]
      · rw [lost (k := .c) (by simp)]
        rfl
      · cases b with
        | cap | path => simp at hb
        | _ => rfl
    · rw [granted chosen, lost (k := .d) (by simp)]
      simp only [State.issue, State.grantRecord, waiting]
      cases w <;> rfl
    · have classE : exec .downstreamGrant s = .next (s.grant .e) := by simp only [exec, execDownstreamGrant, chosen]
      rw [classE, State.grant_e running waiting]
  · have loss : s.lossDue = true := by simp [State.lossDue, State.waitsE, Config.lossLimit, waiting, due]
    simp only [exec, execLossCountGrant, State.unlessHalted_of_not running, loss, if_true,
      State.grant_e running waiting]

end Sys2Proof.Machine
end

section
/-! The records the part writes (chapter 10). A record is its fields one after the other, so the bytes of a field are found by
evaluation at its offset; the bytes marked zero are a run of zeros behind (or between) them. -/

namespace Sys2Proof.Machine

/-! ### Fields of a record -/

@[simp] theorem b1_length (v : Nat) : (b1 v).length = 1 := leBytes_length 1 v
@[simp] theorem b2_length (v : Nat) : (b2 v).length = 2 := leBytes_length 2 v
@[simp] theorem b4_length (v : Nat) : (b4 v).length = 4 := leBytes_length 4 v
@[simp] theorem b8_length (v : Nat) : (b8 v).length = 8 := leBytes_length 8 v
@[simp] theorem zeros_length (n : Nat) : (zeros n).length = n := List.length_replicate

@[simp] theorem fieldAt_b1 (v : Nat) : fieldAt (b1 v) 0 1 = v % 256 := leNat_leBytes 1 v
@[simp] theorem fieldAt_b2 (v : Nat) : fieldAt (b2 v) 0 2 = v % 65536 := leNat_leBytes 2 v
@[simp] theorem fieldAt_b4 (v : Nat) : fieldAt (b4 v) 0 4 = v % 2 ^ 32 := leNat_leBytes 4 v
@[simp] theorem fieldAt_b8 (v : Nat) : fieldAt (b8 v) 0 8 = v % 2 ^ 64 := leNat_leBytes 8 v
@[simp] theorem fieldAt_zeros (k off n : Nat) : fieldAt (zeros k) off n = 0 := fieldAt_replicate_zero k off n

theorem boolCode_mod (b : Bool) : boolCode b % 256 = if b then 1 else 0 := by cases b <;> rfl

/-- A count fills its field. -/
theorem Count.toNat_mod (c : Count) : c.toNat % 2 ^ 32 = c.toNat := Nat.mod_eq_of_lt c.isLt

/-- A set of kinds fills its field. -/
theorem kinds_toNat_mod (v : BitVec 16) : v.toNat % 65536 = v.toNat := Nat.mod_eq_of_lt v.isLt

theorem RingState.code_mod (st : RingState) : st.code % 256 = st.code := by cases st <;> rfl
theorem MonState.code_mod (st : MonState) : st.code % 256 = st.code := by cases st <;> rfl
theorem TempState.code_mod (st : TempState) : st.code % 256 = st.code := by cases st <;> rfl
theorem StoreState.code_mod (st : StoreState) : st.code % 256 = st.code := by cases st <;> rfl
theorem Outcome.code_mod (o : Outcome) : o.code % 256 = o.code := by cases o <;> rfl
theorem OutState.code_mod (st : OutState) : st.code % 256 = st.code := by cases st <;> rfl
theorem SlotState.code_mod (st : SlotState) : st.code % 256 = st.code := by cases st <;> rfl
theorem FrameKind.code_mod (k : FrameKind) : k.code % 256 = k.code := by cases k <;> rfl
theorem RecState.code_mod (st : RecState) : st.code % 256 = st.code := by cases st <;> rfl
theorem FaultKind.code_mod (k : FaultKind) : k.code % 256 = k.code := by cases k <;> rfl
theorem BlockId.code_mod (b : BlockId) : b.code % 256 = b.code := by cases b <;> rfl
theorem Against.code_mod (a : Against) : a.code % 256 = a.code := by cases a <;> rfl
theorem FaultPos.code_mod (p : FaultPos) : p.code.1 % 256 = p.code.1 := by cases p <;> rfl
theorem Source.code_mod (src : Source) : src.code.1 % 256 = src.code.1 := by cases src <;> rfl

/-- The bytes marked zero at a record's end. -/
theorem fieldAt_of_zeros_behind (fields : List Byte) {k off : Nat} (h : fields.length ≤ off) (n : Nat) :
    fieldAt (fields ++ zeros k) off n = 0 := by
  rw [fieldAt_append_right h]
  exact fieldAt_replicate_zero k _ n

/-- The bytes marked zero between the fields before and behind them. -/
theorem fieldAt_of_zeros_between (before behind : List Byte) {k off n : Nat} (h : before.length ≤ off)
    (h' : off + n ≤ before.length + k) : fieldAt (before ++ zeros k ++ behind) off n = 0 := by
  rw [fieldAt_append_left (by simpa using h')]
  exact fieldAt_of_zeros_behind before h n

/-! ### The highest level (R179) -/

/-- A running maximum is no less than where it began and than every value passed. -/
theorem le_foldl_max (f : Nat → Nat) : ∀ (l : List Nat) (m : Nat),
    m ≤ l.foldl (fun m i => max m (f i)) m ∧ ∀ i ∈ l, f i ≤ l.foldl (fun m i => max m (f i)) m
  | [], m => ⟨le_refl m, nofun⟩
  | x :: l, m => by
    obtain ⟨start, passed⟩ := le_foldl_max f l (max m (f x))
    refine ⟨le_trans (le_max_left _ _) start, fun i hi => ?_⟩
    obtain rfl | hi := List.mem_cons.1 hi
    · exact le_trans (le_max_right _ _) start
    · exact passed i hi

/-- A running maximum is where it began or one of the values passed. -/
theorem foldl_max_attained (f : Nat → Nat) : ∀ (l : List Nat) (m : Nat),
    l.foldl (fun m i => max m (f i)) m = m ∨ ∃ i ∈ l, l.foldl (fun m i => max m (f i)) m = f i
  | [], m => .inl rfl
  | x :: l, m => by
    obtain start | ⟨i, hi, here⟩ := foldl_max_attained f l (max m (f x))
    · obtain h | h := max_choice m (f x)
      · exact .inl (start.trans h)
      · exact .inr ⟨x, List.mem_cons_self, start.trans h⟩
    · exact .inr ⟨i, List.mem_cons_of_mem _ hi, here⟩

theorem EventKind.number_lt (k : EventKind) : k.number < 16 := by cases k <;> decide

theorem EventKind.exists_number {i : Nat} (h : i < 16) : ∃ k : EventKind, k.number = i := by
  have mem : i ∈ EventKind.byNumber.map EventKind.number := by
    rw [EventKind.map_number_byNumber]
    exact List.mem_range.2 h
  obtain ⟨k, -, hk⟩ := List.mem_map.1 mem
  exact ⟨k, hk⟩

theorem EventKind.number_eq_fifteen {k : EventKind} : k.number = 15 ↔ k = .fault := by cases k <;> decide

/-- The kinds that count for the highest level, by their numbers. -/
theorem NoticeUnit.mem_counted {n : NoticeUnit} {k : EventKind} :
    (k.number ∈ (List.range 16).filter fun i =>
      n.pending.getLsbD i && (n.enable.getLsbD i || decide (i = 15)))
      ↔ n.isPending k = true ∧ (n.enable.getLsbD k.number = true ∨ k = .fault) := by
  simp [NoticeUnit.isPending, k.number_lt, EventKind.number_eq_fifteen]

theorem NoticeUnit.level_le_highestLevel {n : NoticeUnit} {k : EventKind} (pending : n.isPending k = true)
    (counted : n.enable.getLsbD k.number = true ∨ k = .fault) : k.level ≤ n.highestLevel :=
  (le_foldl_max levelOf _ 0).2 k.number (NoticeUnit.mem_counted.2 ⟨pending, counted⟩)

theorem NoticeUnit.highestLevel_attained (n : NoticeUnit) : n.highestLevel = 0 ∨ ∃ k : EventKind,
    k.level = n.highestLevel ∧ n.isPending k = true ∧ (n.enable.getLsbD k.number = true ∨ k = .fault) := by
  obtain zero | ⟨i, hi, here⟩ := foldl_max_attained levelOf ((List.range 16).filter fun i =>
      n.pending.getLsbD i && (n.enable.getLsbD i || decide (i = 15))) 0
  · exact .inl zero
  · obtain ⟨k, rfl⟩ := EventKind.exists_number (List.mem_range.1 (List.mem_filter.1 hi).1)
    exact .inr ⟨k, here.symm, NoticeUnit.mem_counted.1 hi⟩

theorem NoticeUnit.highestLevel_lt (n : NoticeUnit) : n.highestLevel < 256 := by
  obtain zero | ⟨k, here, -⟩ := n.highestLevel_attained
  · omega
  · rw [← here]
    cases k <;> decide

/-! ### The small records -/

theorem noticeRecord_fields (n : NoticeUnit) :
    let f := fieldAt (noticeRecord n)
    f 0 2 = n.pending.toNat ∧ f 2 2 = n.enable.toNat ∧ f 4 1 = n.threshold % 256 ∧ f 5 1 = n.highestLevel
      ∧ ∀ i, 6 ≤ i → i < 32 → f i 1 = 0 := by
  refine ⟨?_, ?_, ?_, ?_, fun i low _ => fieldAt_of_zeros_behind _ (by simpa using low) 1⟩ <;>
    simp (disch := simp) [noticeRecord, fieldAt_append_left, fieldAt_append_right, kinds_toNat_mod,
      Nat.mod_eq_of_lt n.highestLevel_lt]

theorem headUnit_fields {r : Ring} (head : r.head < 32) (tail : r.tail < 32) :
    let f := fieldAt (headUnit r)
    f 0 1 = r.head ∧ f 1 1 = r.tail ∧ f 2 1 = r.state.code ∧ ∀ i, 3 ≤ i → i < 16 → f i 1 = 0 := by
  have head' : r.head % 256 = r.head := Nat.mod_eq_of_lt (by omega)
  have tail' : r.tail % 256 = r.tail := Nat.mod_eq_of_lt (by omega)
  refine ⟨?_, ?_, ?_, fun i low _ => fieldAt_of_zeros_behind _ (by simpa using low) 1⟩ <;>
    simp (disch := simp) [headUnit, fieldAt_append_left, fieldAt_append_right, RingState.code_mod, head', tail']

theorem faultRecord_fields (count : Count) (k : FaultKind) (b : BlockId) (addr : Nat) (frame : Count) (pos : FaultPos) :
    let f := fieldAt (faultRecord count k b addr frame pos)
    f 0 4 = count.toNat ∧ f 4 1 = k.code ∧ f 5 1 = b.code ∧ f 6 1 = pos.code.1 ∧ f 0x14 2 = pos.code.2 % 65536
      ∧ f 7 1 = 0 ∧ f 8 8 = addr % 2 ^ 36 ∧ f 0x10 4 = frame.toNat ∧ ∀ i, 0x16 ≤ i → i < 32 → f i 1 = 0 := by
  have addr' : addr % Config.addressSpace % 2 ^ 64 = addr % 2 ^ 36 :=
    Nat.mod_eq_of_lt (lt_trans (Nat.mod_lt addr (by decide)) (by decide))
  refine ⟨?_, ?_, ?_, ?_, ?_, ?_, ?_, ?_, fun i low _ => fieldAt_of_zeros_behind _ (by simpa using low) 1⟩ <;>
    simp (disch := simp) only [faultRecord, fieldAt_append_left, fieldAt_append_right, List.length_append, b1_length,
      b4_length, b8_length, zeros_length, Nat.reduceAdd, Nat.reduceSub, fieldAt_b1, fieldAt_b2, fieldAt_b4,
      fieldAt_b8, fieldAt_zeros, Count.toNat_mod, FaultKind.code_mod, BlockId.code_mod, FaultPos.code_mod, addr']

theorem headerRecord_fields (g : StoreGeom) (n : Nat) :
    let f := fieldAt (headerRecord g n)
    f 0 4 = 0x20405354 ∧ f 4 2 = g.e % 65536 ∧ f 6 2 = 0 ∧ f 8 4 = g.entrySize % 2 ^ 32 ∧ f 0xC 2 = n % 65536
      ∧ ∀ i, 0xE ≤ i → i < 64 → f i 1 = 0 := by
  refine ⟨?_, ?_, ?_, ?_, ?_, fun i low _ => fieldAt_of_zeros_behind _ (by simpa using low) 1⟩ <;>
    simp (disch := simp) [headerRecord, fieldAt_append_left, fieldAt_append_right, Config.storeMarker]

/-! ### The signature record -/

theorem signatureRecord_fields (m : Monitor) {sig : Signature} (a : Against) (means : sig.means.length = 192) :
    let f := fieldAt (signatureRecord m sig a)
    f 0 4 = m.compares.toNat ∧ f 4 4 = sig.frame.toNat ∧ f 8 1 = sig.slot.getD 0xFF % 256 ∧ f 9 1 = a.code
      ∧ f 0xA 1 = m.lastScore % 256 ∧ f 0xB 1 = m.state.code ∧ f 0xC 1 = m.stable % 256 ∧ f 0xD 1 = 0
      ∧ f 0xE 2 = m.idle % 65536 ∧ (∀ i, 0x10 ≤ i → i < 0x40 → f i 1 = 0)
      ∧ ∀ n, n < 192 → f (0x40 + n) 1 = sig.means.getD n 0 % 256 := by
  refine ⟨?_, ?_, ?_, ?_, ?_, ?_, ?_, ?_, ?_, fun i low high => fieldAt_of_zeros_between _ _ (by simpa using low) ?_,
    fun n small => ?_⟩
  case refine_10 =>
    simp only [List.length_append, b1_length, b2_length, b4_length, zeros_length]
    omega
  case refine_11 =>
    have small' : n < (sig.means.map fun v => BitVec.ofNat 8 v).length := by simpa [means] using small
    rw [signatureRecord, fieldAt_append_right (by simp), fieldAt,
      List.drop_eq_getElem_cons (by simpa [means] using small)]
    simp [leNat, List.getD_eq_getElem?_getD, means, small]
  all_goals
    simp (disch := simp) only [signatureRecord, fieldAt_append_left, fieldAt_append_right, List.length_append, b1_length,
      b4_length, zeros_length, Nat.reduceAdd, Nat.reduceSub, fieldAt_b1, fieldAt_b2, fieldAt_b4, fieldAt_zeros,
      Count.toNat_mod, Against.code_mod, MonState.code_mod]

/-! ### The catalog record -/

theorem catalogRecord_of_free {r : Rec} (free : r.state = .free) (p : Nat) : catalogRecord p r = b2 p ++ zeros 62 :=
  if_pos free

/-- The fields of a record that is not FREE, without its view and the zero bytes behind. -/
def catalogFields (p : Nat) (r : Rec) : List Byte :=
  b2 p ++ b1 r.state.code ++ b1 r.flagCode ++ b4 r.seq ++ b4 r.frame.toNat ++ b2 r.lesson ++ b2 r.page
    ++ b1 r.kind.code ++ zeros 1 ++ b2 r.width ++ b2 r.height

@[simp] theorem catalogFields_length (p : Nat) (r : Rec) : (catalogFields p r).length = 22 := by simp [catalogFields]

theorem catalogRecord_of_not_free {r : Rec} (busy : r.state ≠ .free) (p : Nat) :
    catalogRecord p r = catalogFields p r ++ viewBytes r.view ++ zeros 36 := if_neg busy

@[simp] theorem viewBytes_length (v : Option SavedView) : (viewBytes v).length = 6 := by cases v <;> rfl

theorem viewBytes_fields (v : Option SavedView) :
    (fieldAt (viewBytes v) 0 2, fieldAt (viewBytes v) 2 2, fieldAt (viewBytes v) 4 2)
      = v.elim (0, 0, 0) fun v => (v.zc % 65536, v.cx % 65536, v.cy % 65536) := by
  cases v <;> simp (disch := simp) [viewBytes, fieldAt_append_left, fieldAt_append_right]

theorem catalogRecord_position (p : Nat) (r : Rec) : fieldAt (catalogRecord p r) 0 2 = p % 65536 := by
  by_cases free : r.state = .free
  · simp (disch := simp) [catalogRecord_of_free free, fieldAt_append_left]
  · simp (disch := simp) [catalogRecord_of_not_free free, catalogFields, fieldAt_append_left]

/-- The flags byte: KEPT, AUTO, a view and its flip. -/
theorem Rec.flagCode_mod (r : Rec) : r.flagCode % 256 = (if r.kept then 1 else 0) + (if r.auto then 2 else 0)
    + r.view.elim 0 fun v => if v.flip then 12 else 4 := by
  rw [Rec.flagCode]
  rcases r.view with _ | ⟨_, _, _, _ | _⟩ <;> cases r.kept <;> cases r.auto <;> rfl

theorem catalogRecord_fields {r : Rec} (busy : r.state ≠ .free) (p : Nat) :
    let f := fieldAt (catalogRecord p r)
    f 2 1 = r.state.code
      ∧ f 3 1 = (if r.kept then 1 else 0) + (if r.auto then 2 else 0) + r.view.elim 0 (fun v => if v.flip then 12 else 4)
      ∧ f 4 4 = r.seq % 2 ^ 32 ∧ f 8 4 = r.frame.toNat ∧ f 0xC 2 = r.lesson % 65536 ∧ f 0xE 2 = r.page % 65536
      ∧ f 0x10 1 = r.kind.code ∧ f 0x11 1 = 0 ∧ f 0x12 2 = r.width % 65536 ∧ f 0x14 2 = r.height % 65536
      ∧ (f 0x16 2, f 0x18 2, f 0x1A 2)
        = r.view.elim (0, 0, 0) (fun v => (v.zc % 65536, v.cx % 65536, v.cy % 65536))
      ∧ ∀ i, 0x1C ≤ i → i < 64 → f i 1 = 0 := by
  rw [catalogRecord_of_not_free busy]
  refine ⟨?_, ?_, ?_, ?_, ?_, ?_, ?_, ?_, ?_, ?_, ?_, fun i low _ => fieldAt_of_zeros_behind _ (by simpa using low) 1⟩
  case refine_11 =>
    simp (disch := simp) only [fieldAt_append_left, fieldAt_append_right, catalogFields_length, Nat.reduceSub]
    exact viewBytes_fields r.view
  all_goals
    simp (disch := simp) only [catalogFields, fieldAt_append_left, fieldAt_append_right, List.length_append, b1_length,
      b2_length, b4_length, zeros_length, Nat.reduceAdd, Nat.reduceSub, fieldAt_b1, fieldAt_b2, fieldAt_b4, fieldAt_zeros,
      Count.toNat_mod, RecState.code_mod, FrameKind.code_mod, Rec.flagCode_mod]

/-! ### The status record -/

/-- R188: a sample of the clamped range in two's complement. -/
theorem sampleCode_mod {t : Int} (low : -40 ≤ t) (high : t ≤ 150) :
    ((sampleCode (some t) % 65536 : Nat) : Int) = if t < 0 then 65536 + t else t := by
  rw [sampleCode, BitVec.toNat_ofInt]
  split <;> omega

/-- The fields of the status record before the two output summaries. -/
def statusFields (s : State) : List Byte :=
  b1 (boolCode s.cap.running) ++ b1 s.mon.state.code ++ b1 s.gov.state.code ++ b1 (boolCode s.gov.flag)
    ++ b2 (sampleCode s.gov.sample) ++ b1 s.mon.lastScore ++ b1 s.store.state.code
    ++ b4 s.cap.frameNo.toNat ++ b4 s.slots.drops.toNat ++ b4 s.cap.degradedCount.toNat
    ++ b4 s.notice.faults.toNat ++ b2 s.ring.errors ++ b2 s.store.order.length
    ++ b1 s.store.queue.length ++ b1 s.store.outcome.code ++ zeros 2

theorem statusRecord_eq (s : State) : statusRecord s = statusFields s ++ outputSummary s.outA ++ outputSummary s.outB
    ++ (s.slots.slots.map slotSummary).flatten ++ zeros 96 := rfl

@[simp] theorem statusFields_length (s : State) : (statusFields s).length = 32 := by simp [statusFields]

@[simp] theorem outputSummary_length (e : Engine) : (outputSummary e).length = 16 := by simp [outputSummary]

@[simp] theorem slotSummary_length (sl : Slot) : (slotSummary sl).length = 16 := by simp [slotSummary]

@[simp] theorem slotSummaries_length (l : List Slot) : ((l.map slotSummary).flatten).length = 16 * l.length := by
  induction l with
  | nil => rfl
  | cons sl l ih =>
    rw [List.map_cons, List.flatten_cons, List.length_append, slotSummary_length, ih, List.length_cons]
    omega

theorem statusFields_fields (s : State) :
    let f := fieldAt (statusFields s)
    f 0 1 = (if s.cap.running then 1 else 0) ∧ f 1 1 = s.mon.state.code ∧ f 2 1 = s.gov.state.code
      ∧ f 3 1 = (if s.gov.flag then 1 else 0) ∧ f 4 2 = sampleCode s.gov.sample % 65536 ∧ f 6 1 = s.mon.lastScore % 256
      ∧ f 7 1 = s.store.state.code ∧ f 8 4 = s.cap.frameNo.toNat ∧ f 0xC 4 = s.slots.drops.toNat
      ∧ f 0x10 4 = s.cap.degradedCount.toNat ∧ f 0x14 4 = s.notice.faults.toNat ∧ f 0x18 2 = s.ring.errors % 65536
      ∧ f 0x1A 2 = s.store.order.length % 65536 ∧ f 0x1C 1 = s.store.queue.length % 256
      ∧ f 0x1D 1 = s.store.outcome.code ∧ f 0x1E 2 = 0 := by
  refine ⟨?_, ?_, ?_, ?_, ?_, ?_, ?_, ?_, ?_, ?_, ?_, ?_, ?_, ?_, ?_, ?_⟩ <;>
    simp (disch := simp) only [statusFields, fieldAt_append_left, fieldAt_append_right, List.length_append, b1_length,
      b2_length, b4_length, Nat.reduceAdd, Nat.reduceSub, fieldAt_b1, fieldAt_b2, fieldAt_b4, fieldAt_zeros,
      Count.toNat_mod, boolCode_mod, MonState.code_mod, TempState.code_mod, StoreState.code_mod, Outcome.code_mod]

/-- A field in front of the summaries. -/
theorem fieldAt_statusRecord_front (s : State) {off n : Nat} (h : off + n ≤ 32) :
    fieldAt (statusRecord s) off n = fieldAt (statusFields s) off n := by
  rw [statusRecord_eq, List.append_assoc, List.append_assoc, List.append_assoc, fieldAt_append_left (by simpa using h)]

/-- A field of output `x`'s summary. -/
theorem fieldAt_statusRecord_out (s : State) (x : OutId) {off n : Nat} (h : off + n ≤ 16) :
    fieldAt (statusRecord s) ((if x = .a then 0x20 else 0x30) + off) n
      = fieldAt (outputSummary (s.out x)) off n := by
  rw [statusRecord_eq, List.append_assoc, List.append_assoc, List.append_assoc]
  cases x with
  | a =>
    rw [if_pos rfl, fieldAt_append_right (by rw [statusFields_length]; omega), statusFields_length,
      fieldAt_append_left (by rw [outputSummary_length]; omega), show 0x20 + off - 32 = off by omega]
    rfl
  | b =>
    rw [if_neg (by decide), fieldAt_append_right (by rw [statusFields_length]; omega), statusFields_length,
      fieldAt_append_right (by rw [outputSummary_length]; omega), outputSummary_length,
      fieldAt_append_left (by rw [outputSummary_length]; omega), show 0x30 + off - 32 - 16 = off by omega]
    rfl

/-- A field of slot `k` is that of its summary. -/
theorem fieldAt_slotSummaries {off n : Nat} (inside : off + n ≤ 16) : ∀ {l : List Slot} {k : Nat}, k < l.length →
    fieldAt (l.map slotSummary).flatten (k * 16 + off) n = fieldAt (slotSummary (l.getD k Slot.reset)) off n
  | sl :: l, 0, _ => by
    rw [List.map_cons, List.flatten_cons, Nat.zero_mul, Nat.zero_add, fieldAt_append_left (by simpa using inside)]
    rfl
  | sl :: l, k + 1, h => by
    rw [List.map_cons, List.flatten_cons, fieldAt_append_right (by simp; omega), slotSummary_length,
      show (k + 1) * 16 + off - 16 = k * 16 + off by omega,
      fieldAt_slotSummaries inside (Nat.lt_of_succ_lt_succ h)]
    rfl

theorem fieldAt_statusRecord_slot {s : State} {k off n : Nat} (six : s.slots.slots.length = 6) (h : k < 6)
    (inside : off + n ≤ 16) :
    fieldAt (statusRecord s) (0x40 + k * 16 + off) n = fieldAt (slotSummary (s.slots.slot k)) off n := by
  have before : (statusFields s ++ outputSummary s.outA ++ outputSummary s.outB).length = 64 := by
    simp only [List.length_append, statusFields_length, outputSummary_length]
  rw [statusRecord_eq, fieldAt_append_left (by rw [List.length_append, before, slotSummaries_length, six]; omega),
    fieldAt_append_right (by omega), before]
  rw [show 0x40 + k * 16 + off - 64 = k * 16 + off by omega, fieldAt_slotSummaries inside (by omega)]
  rfl

theorem slotSummary_fields (sl : Slot) :
    let f := fieldAt (slotSummary sl)
    f 0 1 = sl.state.code ∧ f 1 1 = sl.kind.code
      ∧ f 2 1 = (if sl.showA then 1 else 0) + (if sl.showB then 2 else 0) + (if sl.freezeA then 4 else 0)
          + (if sl.freezeB then 8 else 0)
      ∧ f 3 1 = sl.copies % 256 ∧ f 4 4 = sl.frame.toNat ∧ f 8 2 = sl.width % 65536 ∧ f 10 2 = sl.height % 65536
      ∧ f 12 4 = 0 := by
  have tags : sl.tagCode % 256 = (if sl.showA then 1 else 0) + (if sl.showB then 2 else 0)
      + (if sl.freezeA then 4 else 0) + (if sl.freezeB then 8 else 0) := by
    rw [Slot.tagCode]
    cases sl.showA <;> cases sl.showB <;> cases sl.freezeA <;> cases sl.freezeB <;> rfl
  refine ⟨?_, ?_, ?_, ?_, ?_, ?_, ?_, ?_⟩ <;>
    simp (disch := simp) only [slotSummary, fieldAt_append_left, fieldAt_append_right, List.length_append, b1_length,
      b2_length, b4_length, Nat.reduceAdd, Nat.reduceSub, fieldAt_b1, fieldAt_b2, fieldAt_b4, fieldAt_zeros,
      Count.toNat_mod, SlotState.code_mod, FrameKind.code_mod, tags]

theorem outputSummary_fields (e : Engine) :
    let f := fieldAt (outputSummary e)
    f 0 1 = e.state.code ∧ f 1 1 = e.source.code.1 ∧ f 2 2 = e.source.code.2 % 65536 ∧ f 4 2 = e.view.zc % 65536
      ∧ f 6 8 = 0 ∧ f 14 2 = 0 := by
  refine ⟨?_, ?_, ?_, ?_, ?_, ?_⟩ <;>
    simp (disch := simp) only [outputSummary, fieldAt_append_left, fieldAt_append_right, List.length_append, b1_length,
      b2_length, Nat.reduceAdd, Nat.reduceSub, fieldAt_b1, fieldAt_b2, fieldAt_zeros, OutState.code_mod,
      Source.code_mod]

/-- The output summaries where the status record has them. -/
theorem statusRecord_out_fields (s : State) (x : OutId) {o : Nat} (here : o = if x = .a then 0x20 else 0x30) :
    let f := fieldAt (statusRecord s)
    f o 1 = (s.out x).state.code ∧ f (o + 1) 1 = (s.out x).source.code.1
      ∧ f (o + 2) 2 = (s.out x).source.code.2 % 65536 ∧ f (o + 4) 2 = (s.out x).view.zc % 65536
      ∧ f (o + 6) 8 = 0 ∧ f (o + 14) 2 = 0 := by
  intro f
  have summary {off n : Nat} (h : off + n ≤ 16) : f (o + off) n = fieldAt (outputSummary (s.out x)) off n :=
    here ▸ fieldAt_statusRecord_out s x h
  obtain ⟨state, code, which, zoom, zero, zero'⟩ := outputSummary_fields (s.out x)
  exact ⟨(summary (off := 0) (by decide)).trans state, (summary (by decide)).trans code,
    (summary (by decide)).trans which, (summary (by decide)).trans zoom, (summary (by decide)).trans zero,
    (summary (by decide)).trans zero'⟩

/-- The slot summaries where the status record has them. -/
theorem statusRecord_slot_fields {s : State} {k : Nat} (six : s.slots.slots.length = 6) (hk : k < 6) :
    let f := fieldAt (statusRecord s)
    let o := 0x40 + k * 16
    let sl := s.slots.slot k
    f o 1 = sl.state.code ∧ f (o + 1) 1 = sl.kind.code
      ∧ f (o + 2) 1 = (if sl.showA then 1 else 0) + (if sl.showB then 2 else 0) + (if sl.freezeA then 4 else 0)
          + (if sl.freezeB then 8 else 0)
      ∧ f (o + 3) 1 = sl.copies % 256 ∧ f (o + 4) 4 = sl.frame.toNat ∧ f (o + 8) 2 = sl.width % 65536
      ∧ f (o + 10) 2 = sl.height % 65536 ∧ f (o + 12) 4 = 0 := by
  intro f o sl
  have summary {off n : Nat} (h : off + n ≤ 16) : f (o + off) n = fieldAt (slotSummary sl) off n :=
    fieldAt_statusRecord_slot six hk h
  obtain ⟨state, kind, tags, copies, frame, width, height, zero⟩ := slotSummary_fields sl
  exact ⟨(summary (off := 0) (by decide)).trans state, (summary (by decide)).trans kind,
    (summary (by decide)).trans tags, (summary (by decide)).trans copies, (summary (by decide)).trans frame,
    (summary (by decide)).trans width, (summary (by decide)).trans height, (summary (by decide)).trans zero⟩

/-- The bytes behind the summaries. -/
theorem statusRecord_zero_behind {s : State} {i : Nat} (six : s.slots.slots.length = 6) (low : 0xA0 ≤ i) :
    fieldAt (statusRecord s) i 1 = 0 := by
  rw [statusRecord_eq]
  refine fieldAt_of_zeros_behind _ ?_ 1
  simp only [List.length_append, statusFields_length, outputSummary_length, slotSummaries_length, six]
  exact low

theorem statusRecord_length {s : State} (six : s.slots.slots.length = 6) : (statusRecord s).length = 256 := by
  rw [statusRecord_eq]
  simp only [List.length_append, statusFields_length, outputSummary_length, slotSummaries_length, six, zeros_length]

/-! ### The statement on the records -/

/-- Settles O26, record by record, each by its fields. -/
theorem recordsHaveTheirLengths : Obligations.RecordsHaveTheirLengths := by
  refine ⟨fun s n => ?_, ⟨fun s six => ?_, fun n => ?_, fun r => ?_, fun m sig a means => ?_, fun c k b a f p => ?_,
    fun g n => ?_, fun p r => ?_⟩, fun s six => ?_, fun n => ?_, fun r head tail => ?_, fun m sig a means => ?_,
    fun count k b addr frame pos => ?_, headerRecord_fields, fun p r => ?_⟩
  · simp only [recordAddr, Config.faultOffset]
    refine ⟨by omega, rfl, rfl, rfl, rfl, by omega, fun g geom => ?_⟩
    simp [geom, Nat.mul_comm]
  · exact statusRecord_length six
  · simp [noticeRecord]
  · simp [headUnit]
  · simp [signatureRecord, means]
  · simp [faultRecord]
  · simp [headerRecord]
  · by_cases free : r.state = .free
    · simp [catalogRecord_of_free free]
    · simp [catalogRecord_of_not_free free]
  · intro f
    have front {off n : Nat} (h : off + n ≤ 32) : f off n = fieldAt (statusFields s) off n :=
      fieldAt_statusRecord_front s h
    obtain ⟨running, mon, temp, flag, sample, score, store, frameNo, drops, degraded, faults, errors, order, queue,
      outcome, zero⟩ := statusFields_fields s
    refine ⟨(front (by decide)).trans running, ((front (by decide)).trans mon).trans ?_,
      ((front (by decide)).trans temp).trans ?_, (front (by decide)).trans flag, fun none => ?_,
      fun t some low high => ?_, (front (by decide)).trans score, ((front (by decide)).trans store).trans ?_,
      (front (by decide)).trans frameNo, (front (by decide)).trans drops, (front (by decide)).trans degraded,
      (front (by decide)).trans faults, (front (by decide)).trans errors, (front (by decide)).trans order,
      (front (by decide)).trans queue, ((front (by decide)).trans outcome).trans ?_, (front (by decide)).trans zero,
      fun x => ?_, fun k hk => ?_, fun i low _ => statusRecord_zero_behind six low⟩
    · cases s.mon.state <;> rfl
    · cases s.gov.state <;> rfl
    · rw [front (by decide), sample, none]
      rfl
    · rw [front (by decide), sample, some]
      exact sampleCode_mod low high
    · cases s.store.state <;> rfl
    · cases s.store.outcome <;> rfl
    · intro o
      obtain ⟨state, code, which, zoom, zeros⟩ := statusRecord_out_fields s x (o := o) (by cases x <;> rfl)
      refine ⟨state.trans ?_, ?_, zoom, zeros⟩
      · cases (s.out x).state <;> rfl
      · rw [show f (o + 1) 1 = _ from code, show f (o + 2) 2 = _ from which]
        cases (s.out x).source <;> rfl
    · obtain ⟨state, kind, fields⟩ := statusRecord_slot_fields six hk
      refine ⟨state.trans ?_, kind.trans ?_, fields⟩
      · cases (s.slots.slot k).state <;> rfl
      · cases (s.slots.slot k).kind <;> rfl
  · obtain ⟨pending, enable, threshold, level, zero⟩ := noticeRecord_fields n
    exact ⟨pending, enable, threshold, level, zero, fun k => NoticeUnit.level_le_highestLevel,
      n.highestLevel_attained⟩
  · obtain ⟨atHead, atTail, state, zero⟩ := headUnit_fields head tail
    refine ⟨atHead, atTail, state.trans ?_, zero⟩
    cases r.state <;> rfl
  · obtain ⟨compares, frame, slot, against, score, state, stable, zero, idle, zeros, tiles⟩ :=
      signatureRecord_fields m a means
    refine ⟨compares, frame, fun k some => ?_, fun none => ?_, against.trans ?_, score, state.trans ?_, stable, zero, idle,
      zeros, tiles⟩
    · rw [slot, some]
      rfl
    · rw [slot, none]
      rfl
    · cases a <;> rfl
    · cases m.state <;> rfl
  · obtain ⟨atCount, kind, block, posType, position, zero, address, atFrame, zeros⟩ :=
      faultRecord_fields count k b addr frame pos
    refine ⟨atCount, kind.trans ?_, block.trans ?_, ?_, zero, address, atFrame, zeros⟩
    · cases k <;> rfl
    · cases b <;> rfl
    · rw [posType, position]
      cases pos <;> rfl
  · refine ⟨catalogRecord_position p r, fun free i low high => ?_, fun busy => ?_⟩
    · rw [catalogRecord_of_free free]
      exact fieldAt_of_zeros_behind _ (by simpa using low) 1
    · obtain ⟨state, flags, seq, frame, lesson, page, kind, zero, width, height, view, zeros⟩ :=
        catalogRecord_fields busy p
      refine ⟨state.trans ?_, flags.trans ?_, seq, frame, lesson, page, kind.trans ?_, zero, width, height, view.trans ?_,
        zeros⟩
      · cases r.state <;> rfl
      · cases r.view <;> rfl
      · cases r.kind <;> rfl
      · cases r.view <;> rfl

end Sys2Proof.Machine
end

section
/-! The invariants of the slot table (R33 to R39): what its operations do to the slots' states and to the READY list. -/

namespace Sys2Proof.Machine

/-! ### Slot records -/

@[simp] theorem SlotTable.onSlot_ready (k : Nat) (f : Slot → Slot) (t : SlotTable) : (t.onSlot k f).ready = t.ready := rfl

@[simp] theorem SlotTable.onSlot_drops (k : Nat) (f : Slot → Slot) (t : SlotTable) : (t.onSlot k f).drops = t.drops := rfl

@[simp] theorem SlotTable.onSlot_geom (k : Nat) (f : Slot → Slot) (t : SlotTable) : (t.onSlot k f).geom = t.geom := rfl

@[simp] theorem SlotTable.length_onSlot (k : Nat) (f : Slot → Slot) (t : SlotTable) :
    (t.onSlot k f).slots.length = t.slots.length := List.length_modify ..

/-- A slot that is not in the table reads as a reset slot. -/
theorem SlotTable.slot_of_length_le {t : SlotTable} {k : Nat} (h : t.slots.length ≤ k) : t.slot k = Slot.reset := by
  simp [SlotTable.slot, List.getD_eq_getElem?_getD, List.getElem?_eq_none h]

theorem SlotTable.lt_of_state_ne_free {t : SlotTable} {k : Nat} (h : (t.slot k).state ≠ .free) : k < t.slots.length := by
  by_contra outside
  exact h (by rw [SlotTable.slot_of_length_le (Nat.le_of_not_lt outside)]; rfl)

theorem SlotTable.slot_onSlot (j k : Nat) (f : Slot → Slot) (t : SlotTable) :
    (t.onSlot k f).slot j = if j = k ∧ k < t.slots.length then f (t.slot j) else t.slot j := by
  simp only [SlotTable.slot, SlotTable.onSlot, List.getD_eq_getElem?_getD, List.getElem?_modify]
  by_cases same : k = j
  · subst same
    by_cases inside : k < t.slots.length
    · simp [inside]
    · simp [inside]
  · simp [same, Ne.symm same]

theorem SlotTable.slot_onSlot_of_ne {j k : Nat} (h : j ≠ k) (f : Slot → Slot) (t : SlotTable) :
    (t.onSlot k f).slot j = t.slot j := by
  rw [SlotTable.slot_onSlot, if_neg fun both => h both.1]

theorem SlotTable.slot_onSlot_self {k : Nat} {t : SlotTable} (h : k < t.slots.length) (f : Slot → Slot) :
    (t.onSlot k f).slot k = f (t.slot k) := by
  rw [SlotTable.slot_onSlot, if_pos ⟨rfl, h⟩]

/-- A field that an update of a slot record leaves as it is. -/
theorem SlotTable.slot_onSlot_field {α : Type} {field : Slot → α} {f : Slot → Slot}
    (h : ∀ sl, field (f sl) = field sl) (j k : Nat) (t : SlotTable) :
    field ((t.onSlot k f).slot j) = field (t.slot j) := by
  rw [SlotTable.slot_onSlot]
  split
  · exact h _
  · rfl

@[simp] theorem Slot.setShow_state (x : OutId) (v : Bool) (sl : Slot) : (sl.setShow x v).state = sl.state := by
  cases x <;> rfl

@[simp] theorem Slot.setFreeze_state (x : OutId) (v : Bool) (sl : Slot) : (sl.setFreeze x v).state = sl.state := by
  cases x <;> rfl

/-! ### The states of the slots -/

/-- As many slots, in the same states, with the same READY list: all that `SlotTable.Sound` speaks of. -/
def SlotTable.SameStates (t u : SlotTable) : Prop :=
  u.slots.length = t.slots.length ∧ u.ready = t.ready ∧ ∀ k, (u.slot k).state = (t.slot k).state

theorem SlotTable.SameStates.refl (t : SlotTable) : t.SameStates t := ⟨rfl, rfl, fun _ => rfl⟩

theorem SlotTable.SameStates.trans {t u v : SlotTable} (h : t.SameStates u) (h' : u.SameStates v) : t.SameStates v := by
  obtain ⟨length, ready, state⟩ := h
  obtain ⟨length', ready', state'⟩ := h'
  exact ⟨length'.trans length, ready'.trans ready, fun k => (state' k).trans (state k)⟩

theorem SlotTable.SameStates.sound {t u : SlotTable} (h : t.SameStates u) (sound : t.Sound) : u.Sound := by
  obtain ⟨length, ready, state⟩ := h
  simpa only [SlotTable.Sound, length, ready, state] using sound

/-- An update that leaves the slot's state. -/
theorem SlotTable.sameStates_onSlot {f : Slot → Slot} (h : ∀ sl, (f sl).state = sl.state) (k : Nat) (t : SlotTable) :
    t.SameStates (t.onSlot k f) :=
  ⟨t.length_onSlot k f, rfl, fun j => SlotTable.slot_onSlot_field h j k t⟩

theorem SlotTable.sameStates_takeShow (x : OutId) (k : Nat) (t : SlotTable) : t.SameStates (t.takeShow x k) := by
  unfold SlotTable.takeShow
  split
  · exact t.sameStates_onSlot (Slot.setShow_state x true) k
  · exact .refl t

theorem SlotTable.sameStates_dropShow (x : OutId) (k : Nat) (t : SlotTable) : t.SameStates (t.dropShow x k) :=
  t.sameStates_onSlot (Slot.setShow_state x false) k

theorem SlotTable.sameStates_takeFreeze (x : OutId) (k : Nat) (t : SlotTable) : t.SameStates (t.takeFreeze x k) := by
  unfold SlotTable.takeFreeze
  split
  · exact t.sameStates_onSlot (Slot.setFreeze_state x true) k
  · exact .refl t

theorem SlotTable.sameStates_dropFreeze (x : OutId) (k : Nat) (t : SlotTable) : t.SameStates (t.dropFreeze x k) :=
  t.sameStates_onSlot (Slot.setFreeze_state x false) k

theorem SlotTable.sameStates_takeCopy (k : Nat) (t : SlotTable) : t.SameStates (t.takeCopy k) :=
  t.sameStates_onSlot (f := fun sl => { sl with copies := sl.copies + 1 }) (fun _ => rfl) k

theorem SlotTable.sameStates_dropCopy (k : Nat) (t : SlotTable) : t.SameStates (t.dropCopy k) :=
  t.sameStates_onSlot (f := fun sl => { sl with copies := sl.copies - 1 }) (fun _ => rfl) k

theorem SlotTable.sameStates_dropCopies : ∀ (l : List Request) (t : SlotTable),
    t.SameStates (l.foldl (fun t r => t.dropCopy r.slot) t)
  | [], t => .refl t
  | r :: l, t => .trans (t.sameStates_dropCopy r.slot) (SlotTable.sameStates_dropCopies l _)

/-! ### Fills, tears and completions -/

/-- The first slot in a state, when there is one. -/
theorem SlotTable.find_state_iff {t : SlotTable} {st : SlotState} {k : Nat} :
    (List.range t.slots.length).find? (fun k => decide ((t.slot k).state = st)) = some k ↔
      k < t.slots.length ∧ (t.slot k).state = st ∧ ∀ j, j < k → (t.slot j).state ≠ st := by
  rw [List.find?_range_eq_some, List.mem_range]
  simp only [decide_eq_true_eq, Bool.not_eq_true', decide_eq_false_iff_not]
  exact and_left_comm

/-- The FILLING slot, when there is one, is the first. -/
theorem SlotTable.filling_eq_some {t : SlotTable} {k : Nat} : t.filling = some k ↔
    k < t.slots.length ∧ (t.slot k).state = .filling ∧ ∀ j, j < k → (t.slot j).state ≠ .filling :=
  SlotTable.find_state_iff

theorem SlotTable.filling_eq_none {t : SlotTable} : t.filling = none ↔ ∀ k, (t.slot k).state ≠ .filling := by
  refine ⟨fun h k fills => ?_, fun h => SlotTable.find_state_eq_none h _⟩
  have inside : k < t.slots.length := SlotTable.lt_of_state_ne_free (by rw [fills]; nofun)
  exact absurd fills (by simpa using List.find?_eq_none.1 h k (List.mem_range.2 inside))

theorem SlotTable.sameStates_degrade (t : SlotTable) : t.SameStates t.degrade := by
  unfold SlotTable.degrade
  split
  · exact t.sameStates_onSlot (f := fun sl => { sl with kind := .degraded }) (fun _ => rfl) _
  · exact .refl t

theorem SlotTable.slot_cleared (t : SlotTable) (k : Nat) : t.cleared.slot k = Slot.reset :=
  SlotTable.slot_of_reset (n := 6) rfl k

theorem SlotTable.sound_cleared (t : SlotTable) : t.cleared.Sound := by
  refine ⟨rfl, List.nodup_nil, fun k => ?_, fun j k hj => ?_⟩
  · rw [SlotTable.slot_cleared]
    exact ⟨nofun, nofun⟩
  · rw [SlotTable.slot_cleared] at hj
    cases hj

theorem SlotTable.sound_tear {t : SlotTable} (h : t.Sound) : t.tear.Sound := by
  unfold SlotTable.tear
  split
  next k found =>
    obtain ⟨inside, fills, -⟩ := SlotTable.filling_eq_some.1 found
    obtain ⟨six, nodup, ready, one⟩ := h
    have state (j : Nat) : ((t.onSlot k fun sl => { sl with state := .free }).slot j).state
        = if j = k then .free else (t.slot j).state := by
      rw [SlotTable.slot_onSlot]
      by_cases same : j = k
      · simp [same, inside]
      · simp [same]
    refine ⟨(t.length_onSlot k _).trans six, nodup, fun j => (ready j).trans ?_, fun i j hi hj => ?_⟩
    · rw [state]
      by_cases same : j = k
      · simp [same, fills]
      · simp [same]
    · rw [state] at hi hj
      split at hi
      · cases hi
      · split at hj
        · cases hj
        · exact one i j hi hj
  next => exact h

theorem SlotTable.filling_tear {t : SlotTable} (h : t.Sound) (k : Nat) : (t.tear.slot k).state ≠ .filling := by
  obtain ⟨-, -, -, one⟩ := h
  unfold SlotTable.tear
  split
  next j found =>
    obtain ⟨inside, fills, -⟩ := SlotTable.filling_eq_some.1 found
    rw [SlotTable.slot_onSlot]
    split
    · nofun
    next other =>
      intro hk
      exact other ⟨one k j hk fills, inside⟩
  next none => exact SlotTable.filling_eq_none.1 none k

theorem SlotTable.lowestFree_eq_some {t : SlotTable} {k : Nat} : t.lowestFree = some k ↔
    k < t.slots.length ∧ (t.slot k).state = .free ∧ ∀ j, j < k → (t.slot j).state ≠ .free :=
  SlotTable.find_state_iff

/-- R35: the slot chosen is a FREE one, or a READY one without a tag. -/
theorem SlotTable.chooseFill_cases {t : SlotTable} {k : Nat} (h : t.chooseFill = some k) :
    (k < t.slots.length ∧ (t.slot k).state = .free) ∨ (k ∈ t.ready ∧ (t.slot k).isHeld = false) := by
  unfold SlotTable.chooseFill at h
  split at h
  next j found =>
    cases h
    obtain ⟨inside, free, -⟩ := SlotTable.lowestFree_eq_some.1 found
    exact .inl ⟨inside, free⟩
  next =>
    unfold SlotTable.oldestUnheld at h
    exact .inr ⟨List.mem_of_mem_dropLast (List.mem_of_find?_eq_some h), by simpa using List.find?_some h⟩

theorem SlotTable.chooseFill_lt {t : SlotTable} {k : Nat} (sound : t.Sound) (h : t.chooseFill = some k) :
    k < t.slots.length := by
  obtain ⟨-, -, ready, -⟩ := sound
  obtain ⟨inside, -⟩ | ⟨mem, -⟩ := SlotTable.chooseFill_cases h
  · exact inside
  · exact SlotTable.lt_of_state_ne_free (by rw [(ready k).1 mem]; nofun)

/-- R35: filling a slot of a table without a FILLING one. -/
theorem SlotTable.sound_fill {t : SlotTable} {k : Nat} (h : t.Sound) (none : ∀ j, (t.slot j).state ≠ .filling)
    (inside : k < t.slots.length) (frame : Count) (kind : FrameKind) : (t.fill k frame kind).Sound := by
  obtain ⟨six, nodup, ready, -⟩ := h
  have state (j : Nat) : ((t.fill k frame kind).slot j).state = if j = k then .filling else (t.slot j).state := by
    refine (congrArg Slot.state (SlotTable.slot_onSlot j k _ t)).trans ?_
    by_cases same : j = k
    · simp [same, inside]
    · simp [same]
  refine ⟨(t.length_onSlot k _).trans six, nodup.erase k, fun j => ?_, fun i j hi hj => ?_⟩
  · rw [state, SlotTable.fill, nodup.mem_erase_iff, ready]
    by_cases same : j = k
    · simp [same]
    · simp [same]
  · have filled {i : Nat} (hi : ((t.fill k frame kind).slot i).state = .filling) : i = k := by
      rw [state] at hi
      split at hi
      · assumption
      · exact absurd hi (none i)
    rw [filled hi, filled hj]

theorem SlotTable.sound_complete {t : SlotTable} (h : t.Sound) : t.complete.Sound := by
  unfold SlotTable.complete
  split
  next k found =>
    obtain ⟨inside, fills, -⟩ := SlotTable.filling_eq_some.1 found
    obtain ⟨six, nodup, ready, one⟩ := h
    have state (j : Nat) : ((t.onSlot k fun sl => { sl with state := .ready }).slot j).state
        = if j = k then .ready else (t.slot j).state := by
      rw [SlotTable.slot_onSlot]
      by_cases same : j = k
      · simp [same, inside]
      · simp [same]
    have fresh : k ∉ t.ready := fun mem => by
      rw [(ready k).1 mem] at fills
      cases fills
    refine ⟨(t.length_onSlot k _).trans six, ?_, fun j => ?_, fun i j hi hj => ?_⟩
    · exact List.nodup_append.2 ⟨nodup, List.nodup_singleton k, fun a ha b hb same =>
        fresh (by rwa [← List.mem_singleton.1 hb, ← same])⟩
    · refine Iff.trans ?_ (Iff.of_eq (congrArg (· = SlotState.ready) (state j)).symm)
      by_cases same : j = k
      · simp [same]
      · simp [same, ready]
    · have hi := (state i).symm.trans hi
      have hj := (state j).symm.trans hj
      split at hi
      · cases hi
      · split at hj
        · cases hj
        · exact one i j hi hj
  next => exact h

/-- R36: a frame dropped is counted. -/
theorem SlotTable.Sound.counted {t : SlotTable} (h : t.Sound) (n : Count) : { t with drops := n }.Sound := h

end Sys2Proof.Machine
end

section
/-! What an engine's fetching leaves: the fetches of source rows (R125 to R127) change the line caches and the class A reads
waiting, and nothing else of the engine. -/

namespace Sys2Proof.Machine

/-! ### One plane's cache -/

@[simp] theorem Engine.cache_onCache (p : Plane) (f : PlaneCache → PlaneCache) (e : Engine) :
    (e.onCache p f).cache p = f (e.cache p) := by cases p <;> rfl

theorem Engine.cache_onCache_of_ne {p q : Plane} (h : q ≠ p) (f : PlaneCache → PlaneCache) (e : Engine) :
    (e.onCache p f).cache q = e.cache q := by
  cases p <;> cases q
  · exact absurd rfl h
  · rfl
  · rfl
  · exact absurd rfl h

/-! ### Fetching -/

/-- From `e` to `e'` the line caches and the class A reads waiting have changed, and nothing else of the engine. -/
def Engine.FetchesTo (e e' : Engine) : Prop :=
  ∃ luma chroma reads, e' = { e with luma := luma, chroma := chroma, fetchWaiting := reads }

namespace Engine.FetchesTo

theorem refl (e : Engine) : e.FetchesTo e := ⟨_, _, _, rfl⟩

theorem trans {e e' e'' : Engine} (h : e.FetchesTo e') (h' : e'.FetchesTo e'') : e.FetchesTo e'' := by
  obtain ⟨_, _, _, rfl⟩ := h
  obtain ⟨_, _, _, rfl⟩ := h'
  exact ⟨_, _, _, rfl⟩

variable {e e' : Engine}

theorem state (h : e.FetchesTo e') : e'.state = e.state := by obtain ⟨_, _, _, rfl⟩ := h; rfl
theorem geom (h : e.FetchesTo e') : e'.geom = e.geom := by obtain ⟨_, _, _, rfl⟩ := h; rfl
theorem source (h : e.FetchesTo e') : e'.source = e.source := by obtain ⟨_, _, _, rfl⟩ := h; rfl
theorem view (h : e.FetchesTo e') : e'.view = e.view := by obtain ⟨_, _, _, rfl⟩ := h; rfl
theorem latch (h : e.FetchesTo e') : e'.latch = e.latch := by obtain ⟨_, _, _, rfl⟩ := h; rfl
theorem queue (h : e.FetchesTo e') : e'.queue = e.queue := by obtain ⟨_, _, _, rfl⟩ := h; rfl
theorem computed (h : e.FetchesTo e') : e'.computed = e.computed := by obtain ⟨_, _, _, rfl⟩ := h; rfl
theorem damaged (h : e.FetchesTo e') : e'.damaged = e.damaged := by obtain ⟨_, _, _, rfl⟩ := h; rfl
theorem leaving (h : e.FetchesTo e') : e'.leaving = e.leaving := by obtain ⟨_, _, _, rfl⟩ := h; rfl
theorem fetchFlight (h : e.FetchesTo e') : e'.fetchFlight = e.fetchFlight := by obtain ⟨_, _, _, rfl⟩ := h; rfl

theorem planeView? (h : e.FetchesTo e') (p : Plane) : e'.planeView? p = e.planeView? p := by
  simp only [Engine.planeView?, h.latch, h.geom]

theorem needs (h : e.FetchesTo e') (p : Plane) (r : Nat) : e'.needs p r = e.needs p r := by
  simp only [Engine.needs, h.planeView? p]

theorem rowReads (h : e.FetchesTo e') (p : Plane) (j : Nat) : e'.rowReads p j = e.rowReads p j := by
  simp only [Engine.rowReads, h.planeView? p]

theorem nextRow (h : e.FetchesTo e') (p : Plane) (r : Nat) : e'.nextRow p r = e.nextRow p r := by
  simp only [Engine.nextRow, h.geom]

end Engine.FetchesTo

theorem Engine.fetches_onCache (p : Plane) (f : PlaneCache → PlaneCache) (e : Engine) : e.FetchesTo (e.onCache p f) := by
  cases p <;> exact ⟨_, _, _, rfl⟩

theorem Engine.fetches_raiseReads (p : Plane) (j : Nat) (reads : List (Nat × Nat)) (e : Engine) :
    e.FetchesTo (e.raiseReads p j reads) := ⟨_, _, _, rfl⟩

/-- What the engine becomes by a list of fetches in turn. -/
theorem Engine.fetches_foldl {α : Type} {f : Engine → α → Engine} (h : ∀ (e : Engine) (a : α), e.FetchesTo (f e a)) :
    ∀ (l : List α) (e : Engine), e.FetchesTo (l.foldl f e)
  | [], e => .refl e
  | a :: l, e => .trans (h e a) (Engine.fetches_foldl h l _)

theorem Engine.fetches_tryFetch {p : Plane} {j : Nat} {k : FetchKind} {needed : List Nat} {e e' : Engine}
    (h : e.tryFetch p j k needed = some e') : e.FetchesTo e' := by
  unfold Engine.tryFetch at h
  dsimp only at h
  split at h
  · cases h
    exact .trans (e.fetches_onCache p _) (Engine.fetches_raiseReads _ _ _ _)
  · cases h

theorem Engine.fetches_fetchRow (p : Plane) (k : FetchKind) (needed : List Nat) (j : Nat) (e : Engine) :
    e.FetchesTo (e.fetchRow p k needed j) := by
  unfold Engine.fetchRow
  split
  · exact .refl e
  · split
    next e' raised => exact .trans (Engine.fetches_tryFetch raised) (Engine.fetches_onCache _ _ _)
    next => exact Engine.fetches_onCache _ _ _

theorem Engine.fetches_prefetchFor (p : Plane) (r : Nat) (needed : List Nat) (e : Engine) :
    e.FetchesTo (e.prefetchFor p r needed) :=
  Engine.fetches_foldl (fun e j => e.fetches_fetchRow p .prefetch needed j) _ e

theorem Engine.fetches_prefetchAfter (p : Plane) (r : Nat) (e : Engine) : e.FetchesTo (e.prefetchAfter p r) := by
  unfold Engine.prefetchAfter
  split
  · exact e.fetches_prefetchFor _ _ _
  · exact .refl e

theorem Engine.fetches_refetch (p : Plane) (pl : CachePlace) (e : Engine) : e.FetchesTo (e.refetch p pl) :=
  .trans (e.fetches_onCache p _) (Engine.fetches_raiseReads _ _ _ _)

theorem Engine.fetches_demandRow (p : Plane) (needed : List Nat) (j : Nat) (e : Engine) :
    e.FetchesTo (e.demandRow p needed j) := by
  unfold Engine.demandRow
  split
  · exact e.fetches_fetchRow _ _ _ _
  · split
    · exact e.fetches_refetch _ _
    · exact .refl e

theorem Engine.fetches_demandFor (p : Plane) (r : Nat) (e : Engine) : e.FetchesTo (e.demandFor p r) :=
  Engine.fetches_foldl (fun e j => e.fetches_demandRow p _ j) _ e

theorem Engine.fetches_retryWaiting (p : Plane) (e : Engine) : e.FetchesTo (e.retryWaiting p) :=
  .trans (e.fetches_onCache p _) (Engine.fetches_foldl (fun e (w : Nat × FetchKind) => e.fetches_fetchRow p w.2 _ w.1) _ _)

theorem Engine.fetches_fetchReturned (f : RowFetch) (r : Resp) (data : List Byte) (e : Engine) :
    e.FetchesTo (e.fetchReturned f r data) := by
  unfold Engine.fetchReturned
  dsimp only
  split
  · exact .refl e
  · split
    · split
      · exact .trans (e.fetches_onCache _ _) (Engine.fetches_refetch _ _ _)
      · exact .trans (e.fetches_onCache _ _) (.trans (Engine.fetches_onCache _ _ _) (Engine.fetches_retryWaiting _ _))
    · exact e.fetches_onCache _ _

/-! ### Engines that end -/

@[simp] theorem Engine.emptied_view (e : Engine) : e.emptied.view = e.view := rfl
@[simp] theorem Engine.cleared_view (e : Engine) : e.cleared.view = e.view := rfl
@[simp] theorem Engine.halt_view (e : Engine) : e.halt.view = e.view := rfl

end Sys2Proof.Machine
end

section
/-! What every operation keeps of the invariants of Safety. `State.Keeps s t`: each invariant that held in `s` holds in `t`,
but for the two that tie the monitor to capture, which come by themselves behind. -/

namespace Sys2Proof.Machine

/-! ### The invariants, block by block -/

/-- The Directive Unit's indexes and its error count (02 section 2.2). -/
def Ring.InRange (r : Ring) : Prop := r.head < 32 ∧ r.tail < 32 ∧ r.errors ≤ 65535

/-- The threshold and the fault ring place (09 section 9.1). -/
def NoticeUnit.InRange (n : NoticeUnit) : Prop := n.threshold ≤ 7 ∧ n.place < 8

/-- The sample (R165). -/
def Governor.InRange (g : Governor) : Prop := ∀ t, g.sample = some t → -40 ≤ t ∧ t ≤ 150

theorem State.countsInRange_iff (s : State) : s.CountsInRange ↔ s.path.lossCount ≤ 32 ∧ s.ring.InRange
    ∧ s.store.queue.length ≤ 4 ∧ s.notice.InRange ∧ s.gov.InRange := by
  simp only [State.CountsInRange, Ring.InRange, NoticeUnit.InRange, Governor.InRange, and_assoc]

theorem State.ZoomInRange.view {s : State} (h : s.ZoomInRange) (x : OutId) : (s.out x).view.InRange := by
  obtain ⟨outA, outB, -⟩ := h
  cases x
  · exact outA
  · exact outB

/-- Each invariant of Safety that holds in `s` holds in `t`. -/
structure State.Keeps (s t : State) : Prop where
  slots : s.slots.Sound → t.slots.Sound
  loss : s.path.lossCount ≤ 32 → t.path.lossCount ≤ 32
  ring : s.ring.InRange → t.ring.InRange
  queue : s.store.queue.length ≤ 4 → t.store.queue.length ≤ 4
  notice : s.notice.InRange → t.notice.InRange
  gov : s.gov.InRange → t.gov.InRange
  zoom : s.ZoomInRange → t.ZoomInRange
  legal : s.cap.Legal → t.cap.Legal
  fwd : s.cap.Legal → s.path.QueueInRange → t.path.QueueInRange
  inbox : s.mon.InboxSound → t.mon.InboxSound

namespace State.Keeps

@[simp] theorem refl (s : State) : s.Keeps s := ⟨id, id, id, id, id, id, id, id, fun _ => id, id⟩

theorem trans {s t u : State} (h : s.Keeps t) (h' : t.Keeps u) : s.Keeps u where
  slots hs := h'.slots (h.slots hs)
  loss hs := h'.loss (h.loss hs)
  ring hs := h'.ring (h.ring hs)
  queue hs := h'.queue (h.queue hs)
  notice hs := h'.notice (h.notice hs)
  gov hs := h'.gov (h.gov hs)
  zoom hs := h'.zoom (h.zoom hs)
  legal hs := h'.legal (h.legal hs)
  fwd legal hs := h'.fwd (h.legal legal) (h.fwd legal hs)
  inbox hs := h'.inbox (h.inbox hs)

/-! ### One update of one block -/

section
variable {s u : State}

@[simp] theorem onRecs {f : RecordWriter → RecordWriter} (h : s.Keeps u) : s.Keeps (u.onRecs f) := { h with }

theorem onNotice {f : NoticeUnit → NoticeUnit} (h : s.Keeps u) (hf : ∀ n : NoticeUnit, n.InRange → (f n).InRange) :
    s.Keeps (u.onNotice f) := { h with notice := fun hs => hf _ (h.notice hs) }

theorem onRing {f : Ring → Ring} (h : s.Keeps u) (hf : ∀ r : Ring, r.InRange → (f r).InRange) : s.Keeps (u.onRing f) :=
  { h with ring := fun hs => hf _ (h.ring hs) }

theorem onGov {f : Governor → Governor} (h : s.Keeps u) (hf : ∀ g : Governor, g.InRange → (f g).InRange) :
    s.Keeps (u.onGov f) :=
  { h with gov := fun hs => hf _ (h.gov hs) }

theorem onSlots {f : SlotTable → SlotTable} (h : s.Keeps u) (hf : u.slots.Sound → (f u.slots).Sound) : s.Keeps (u.onSlots f) :=
  { h with slots := fun hs => hf (h.slots hs) }

theorem onCap {f : Capture → Capture} (h : s.Keeps u) (hf : u.cap.Legal → (f u.cap).Legal) : s.Keeps (u.onCap f) :=
  { h with legal := fun hs => hf (h.legal hs) }

theorem onMon {f : Monitor → Monitor} (h : s.Keeps u) (hf : ∀ m : Monitor, m.InboxSound → (f m).InboxSound) :
    s.Keeps (u.onMon f) :=
  { h with inbox := fun hs => hf _ (h.inbox hs) }

/-- An update of an engine that leaves a view in range. -/
theorem onView {f : Engine → Engine} {x : OutId} (h : s.Keeps u)
    (hf : s.ZoomInRange → (f (u.out x)).view.InRange) : s.Keeps (u.onOut x f) := by
  cases x
  · exact { h with zoom := fun hs => ⟨hf hs, (h.zoom hs).2⟩ }
  · exact { h with zoom := fun hs => ⟨(h.zoom hs).1, hf hs, (h.zoom hs).2.2⟩ }

theorem onOut {f : Engine → Engine} {x : OutId} (h : s.Keeps u)
    (hf : (u.out x).view.InRange → (f (u.out x)).view.InRange) : s.Keeps (u.onOut x f) :=
  h.onView fun hs => hf (State.ZoomInRange.view (h.zoom hs) x)

theorem onStore {f : Store → Store} (h : s.Keeps u) (hq : (f u.store).queue.length ≤ u.store.queue.length)
    (hr : ∀ r ∈ (f u.store).queue, r ∈ u.store.queue)
    (hc : u.ZoomInRange → ∀ r ∈ (f u.store).catalog, savedInRange r.view) : s.Keeps (u.onStore f) :=
  { h with
    queue := fun hs => hq.trans (h.queue hs)
    zoom := fun hs => by
      obtain ⟨outA, outB, queue, -⟩ := h.zoom hs
      exact ⟨outA, outB, fun r hr' => queue r (hr r hr'), hc (h.zoom hs)⟩ }

/-- An update of the store that leaves the queue. -/
theorem onCatalog {f : Store → Store} (h : s.Keeps u) (hq : (f u.store).queue = u.store.queue)
    (hc : u.ZoomInRange → ∀ r ∈ (f u.store).catalog, savedInRange r.view) : s.Keeps (u.onStore f) :=
  h.onStore (by rw [hq]) (by simp [hq]) hc

/-- An update of the store that leaves the queue and the catalog. -/
theorem onStore_of_eq {f : Store → Store} (h : s.Keeps u) (hq : (f u.store).queue = u.store.queue)
    (hc : (f u.store).catalog = u.store.catalog) : s.Keeps (u.onStore f) :=
  h.onStore (by rw [hq]) (by simp [hq]) fun ⟨_, _, _, catalog⟩ => by rwa [hc]

theorem onPath {f : PathUnit → PathUnit} (h : s.Keeps u) (hl : (f u.path).lossCount ≤ max u.path.lossCount 32)
    (hf : ∀ d, ((f u.path).fwd.filter fun e => decide (e.dir = d)).length
      ≤ (u.path.fwd.filter fun e => decide (e.dir = d)).length) : s.Keeps (u.onPath f) :=
  { h with
    loss := fun hs => hl.trans (max_le (h.loss hs) (le_refl _))
    fwd := fun legal hs d => (hf d).trans (h.fwd legal hs d) }

/-- An update of the Path Unit that leaves the loss count and the forwarding queue. -/
theorem onPath_of_eq {f : PathUnit → PathUnit} (h : s.Keeps u) (hl : (f u.path).lossCount = u.path.lossCount)
    (hf : (f u.path).fwd = u.path.fwd) : s.Keeps (u.onPath f) :=
  h.onPath (hl ▸ le_max_left _ _) fun _ => by rw [hf]

end
end State.Keeps
end Sys2Proof.Machine
end

section
/-! What the operations the blocks share, the monitor, the copy engine, the governor and the Directive Unit keep of the
invariants. -/

namespace Sys2Proof.Machine

/-! ### Lists of records -/

/-- Every record of a catalog with one record changed is one of the catalog or the changed one. -/
theorem mem_modify_cases {α : Type} {l : List α} {n : Nat} {f : α → α} {a : α} (h : a ∈ l.modify n f) :
    a ∈ l ∨ ∃ b ∈ l, a = f b := by
  obtain ⟨i, hi, rfl⟩ := List.mem_iff_getElem.1 h
  rw [List.length_modify] at hi
  rw [List.getElem_modify]
  split
  · exact .inr ⟨_, List.getElem_mem hi, rfl⟩
  · exact .inl (List.getElem_mem hi)

/-- The saved views of a catalog with one record changed. -/
theorem savedInRange_modify {l : List Rec} {f : Rec → Rec} (p : Nat) (h : ∀ r ∈ l, savedInRange r.view)
    (hf : ∀ r, savedInRange r.view → savedInRange (f r).view) : ∀ r ∈ l.modify p f, savedInRange r.view := by
  intro r hr
  obtain hr | ⟨r', hr', rfl⟩ := mem_modify_cases hr
  · exact h r hr
  · exact hf r' (h r' hr')

theorem savedInRange_none : savedInRange none := nofun

@[simp] theorem Rec.setRecall_view (x : OutId) (v : Bool) (r : Rec) : (r.setRecall x v).view = r.view := by
  cases x <;> rfl

/-! ### The monitor's inbox -/

theorem Monitor.inboxSound_of_eq {m m' : Monitor} (h : m.InboxSound) (e : m'.inbox = m.inbox) : m'.InboxSound := by
  simpa only [Monitor.InboxSound, e] using h

@[simp] theorem Monitor.setHold_inbox (x : OutId) (v : Bool) (m : Monitor) : (m.setHold x v).inbox = m.inbox := by
  cases x <;> rfl

theorem Monitor.inboxSound_hearLeading : ∀ (l : List MonNotice) (m : Monitor), (Monitor.hearLeading l m).InboxSound
  | [], _ => nofun
  | n :: l, m => by
    unfold Monitor.hearLeading
    split
    next answer =>
      intro _ hn
      cases hn
      exact answer
    next => exact Monitor.inboxSound_hearLeading l _

@[simp] theorem MonNotice.makeStale_isAnswer (n : MonNotice) : n.makeStale.isAnswer = n.isAnswer := by cases n <;> rfl

namespace State.Keeps

section
variable {s u : State}

/-- An update of the monitor that leaves its inbox. -/
theorem onMon_of_eq {f : Monitor → Monitor} (h : s.Keeps u) (hf : ∀ m : Monitor, (f m).inbox = m.inbox) : s.Keeps (u.onMon f) :=
  h.onMon fun m hm => Monitor.inboxSound_of_eq hm (hf m)

/-- An update of an engine that leaves its view. -/
theorem onOut_of_eq {f : Engine → Engine} {x : OutId} (h : s.Keeps u) (hf : (f (u.out x)).view = (u.out x).view) :
    s.Keeps (u.onOut x f) := h.onOut fun inRange => by rwa [hf]

/-! ### Shared operations -/

@[simp] theorem request {t : Target} (h : s.Keeps u) : s.Keeps (u.request t) := h.onRecs

@[simp] theorem requestStatus (h : s.Keeps u) : s.Keeps u.requestStatus := h.onRecs

@[simp] theorem raise {k : EventKind} (h : s.Keeps u) : s.Keeps (u.raise k) := by
  unfold State.raise
  split
  · exact h
  · exact request (onNotice h fun _ hn => hn)

@[simp] theorem logFault {k : FaultKind} {b : BlockId} {addr : Nat} {frame : Count} {pos : FaultPos} (h : s.Keeps u) :
    s.Keeps (u.logFault k b addr frame pos) :=
  requestStatus (raise (onRecs (onNotice h fun _ ⟨threshold, _⟩ => ⟨threshold, Nat.mod_lt _ (by decide)⟩)))

@[simp] theorem respond {r : UpResponse} (h : s.Keeps u) : s.Keeps (u.respond r) := h.onPath_of_eq rfl rfl

@[simp] theorem answerRecord {i : Nat} {rec : List Byte} {st : Status} (h : s.Keeps u) : s.Keeps (u.answerRecord i rec st) :=
  onRecs (onRing h fun _ hr => hr)

@[simp] theorem answer {c : Instr} {st : Status} (h : s.Keeps u) : s.Keeps (u.answer c st) := by
  obtain ⟨i, rec, -, -, eq⟩ | eq := State.answer_cases c st u
  · rw [eq]
    exact answerRecord (onRing h fun _ hr => hr)
  · rw [eq]
    exact h.onRing fun _ hr => hr

@[simp] theorem accept {c : Instr} (h : s.Keeps u) : s.Keeps (u.accept c) := by
  unfold State.accept
  repeat' split
  · exact h.onRing fun _ hr => hr
  · exact h
  · exact h

@[simp] theorem answerAccepted {ty : Nat} {st : Status} (h : s.Keeps u) : s.Keeps (u.answerAccepted ty st) := by
  unfold State.answerAccepted
  dsimp only
  repeat' split
  · exact answerRecord (onRing h fun _ hr => hr)
  · exact h.onRing fun _ hr => hr
  · exact h.onRing fun _ hr => hr

@[simp] theorem enterHalted (h : s.Keeps u) : s.Keeps u.enterHalted := { h with }

/-! ### The monitor -/

@[simp] theorem writeSignature {sig : Signature} {a : Against} (h : s.Keeps u) : s.Keeps (u.writeSignature sig a) := h.onRecs

@[simp] theorem holdOutput {x : OutId} (h : s.Keeps u) : s.Keeps (u.holdOutput x) := by
  unfold State.holdOutput
  repeat' split
  · exact onMon_of_eq (onSlots (onOut_of_eq h rfl) (SlotTable.sameStates_takeFreeze x _ _).sound) fun _ => by simp
  · exact onMon_of_eq (onOut_of_eq h rfl) fun _ => by simp
  · exact h

@[simp] theorem unholdOutput {x : OutId} (h : s.Keeps u) : s.Keeps (u.unholdOutput x) := by
  unfold State.unholdOutput
  split
  · refine .onMon_of_eq ?_ fun _ => by simp
    split
    · exact onSlots (onOut_of_eq h rfl) (SlotTable.sameStates_dropFreeze x _ _).sound
    · exact h.onOut_of_eq rfl
    · exact h
  · exact h

@[simp] theorem unholdAll (h : s.Keeps u) : s.Keeps u.unholdAll := unholdOutput (unholdOutput h)

@[simp] theorem wakeActive (h : s.Keeps u) : s.Keeps u.wakeActive :=
  requestStatus (unholdAll (raise (onMon_of_eq h fun _ => rfl)))

@[simp] theorem touch (h : s.Keeps u) : s.Keeps u.touch := by
  unfold State.touch
  split
  · exact h.wakeActive
  · exact h.onMon_of_eq fun _ => rfl

@[simp] theorem requestAuto {sig : Signature} (h : s.Keeps u) : s.Keeps (u.requestAuto sig) := h.onMon_of_eq fun _ => rfl

@[simp] theorem autoTest {sig : Signature} (h : s.Keeps u) : s.Keeps (u.autoTest sig) := by
  unfold State.autoTest
  dsimp only
  repeat' split
  · exact h.requestAuto
  · exact requestAuto (writeSignature (onMon_of_eq h fun _ => rfl))
  · exact writeSignature (onMon_of_eq h fun _ => rfl)
  · exact h

@[simp] theorem motionFrame {sig : Signature} (h : s.Keeps u) : s.Keeps (u.motionFrame sig) := by
  unfold State.motionFrame
  split
  · exact h.onMon_of_eq fun _ => rfl
  · extract_lets sc stable s1
    have scored : s.Keeps s1 := h.onMon_of_eq fun _ => rfl
    split
    · exact requestStatus (autoTest (raise (writeSignature (onMon_of_eq scored fun _ => rfl))))
    · exact scored.writeSignature

@[simp] theorem enterStandby (h : s.Keeps u) : s.Keeps u.enterStandby :=
  requestStatus (holdOutput (holdOutput (raise (onMon_of_eq h fun _ => rfl))))

@[simp] theorem activeFrame {sig : Signature} (h : s.Keeps u) : s.Keeps (u.activeFrame sig) := by
  unfold State.activeFrame
  dsimp only
  repeat' split
  · exact h
  · exact requestStatus (raise (writeSignature (onMon_of_eq (onMon_of_eq h fun _ => rfl) fun _ => rfl)))
  · exact writeSignature (enterStandby (onMon_of_eq (onMon_of_eq h fun _ => rfl) fun _ => rfl))
  · exact writeSignature (onMon_of_eq (onMon_of_eq h fun _ => rfl) fun _ => rfl)

@[simp] theorem wakeMotion {sig : Signature} (h : s.Keeps u) : s.Keeps (u.wakeMotion sig) :=
  requestStatus (unholdAll (raise (onMon_of_eq h fun _ => rfl)))

@[simp] theorem standbyFrame {sig : Signature} (h : s.Keeps u) : s.Keeps (u.standbyFrame sig) := by
  unfold State.standbyFrame
  dsimp only
  repeat' split
  · exact h.onMon_of_eq fun _ => rfl
  · exact writeSignature (wakeMotion (onMon_of_eq h fun _ => rfl))
  · exact writeSignature (raise (onMon_of_eq (onMon_of_eq h fun _ => rfl) fun _ => rfl))
  · exact writeSignature (onMon_of_eq (onMon_of_eq h fun _ => rfl) fun _ => rfl)
  · exact h.onMon_of_eq fun _ => rfl

@[simp] theorem receiveSignature {sig : Signature} (h : s.Keeps u) : s.Keeps (u.receiveSignature sig) := by
  unfold State.receiveSignature
  dsimp only
  split
  · exact h
  · exact motionFrame (onMon_of_eq h fun _ => rfl)
  · exact activeFrame (onMon_of_eq h fun _ => rfl)
  · exact standbyFrame (onMon_of_eq h fun _ => rfl)

@[simp] theorem monitorStart (h : s.Keeps u) : s.Keeps u.monitorStart := requestStatus (onMon_of_eq h fun _ => rfl)

@[simp] theorem monitorStop (h : s.Keeps u) : s.Keeps u.monitorStop := by
  unfold State.monitorStop
  dsimp only
  split
  · exact h.unholdAll.onMon_of_eq fun _ => rfl
  · exact requestStatus (onMon_of_eq (unholdAll h) fun _ => rfl)

@[simp] theorem monitorRestart (h : s.Keeps u) : s.Keeps u.monitorRestart := by
  have restarted : s.Keeps (u.onMon Monitor.restart) := h.onMon fun m hm n hn => by
    cases inbox : m.inbox with
    | nil => simp [Monitor.restart, inbox] at hn
    | cons k rest =>
      simp only [Monitor.restart, inbox, List.map_cons, List.head?_cons, Option.some.injEq] at hn
      rw [← hn, MonNotice.makeStale_isAnswer]
      exact hm k (by rw [inbox]; rfl)
  unfold State.monitorRestart
  dsimp only
  split
  · exact restarted
  · exact restarted.requestStatus

@[simp] theorem tellMonitor {n : MonNotice} (h : s.Keeps u) : s.Keeps (u.tellMonitor n) :=
  h.onMon fun _ _ => Monitor.inboxSound_hearLeading _ _

@[simp] theorem takeMonitorSettings {n : MonSettings} (h : s.Keeps u) : s.Keeps (u.takeMonitorSettings n) := by
  unfold State.takeMonitorSettings
  dsimp only
  split
  · exact requestStatus (unholdAll (raise (onMon_of_eq (onMon_of_eq h fun _ => rfl) fun _ => rfl)))
  · exact h.onMon_of_eq fun _ => rfl

/-! ### The copy engine -/

/-- An update of the copy engine. -/
@[simp] theorem onEngine {f : CopyEngine → CopyEngine} (h : s.Keeps u) : s.Keeps (u.onStore (·.onEngine f)) :=
  h.onStore_of_eq rfl rfl

/-- An update of a record that leaves its view in range. -/
theorem onRec {f : Rec → Rec} {p : Nat} (h : s.Keeps u) (hf : ∀ r, savedInRange r.view → savedInRange (f r).view) :
    s.Keeps (u.onStore (·.onRec p f)) :=
  h.onCatalog rfl fun ⟨_, _, _, catalog⟩ => savedInRange_modify p catalog hf

/-- An update of a record that leaves its view. -/
theorem onRec_of_eq {f : Rec → Rec} {p : Nat} (h : s.Keeps u) (hf : ∀ r, (f r).view = r.view) :
    s.Keeps (u.onStore (·.onRec p f)) :=
  h.onRec fun r hr => by rwa [hf]

@[simp] theorem freeRec {p : Nat} (h : s.Keeps u) : s.Keeps (u.onStore (·.freeRec p)) :=
  h.onCatalog rfl fun ⟨_, _, _, catalog⟩ =>
    savedInRange_modify p catalog fun _ _ => savedInRange_none

@[simp] theorem raiseChunk {p : Nat} (h : s.Keeps u) : s.Keeps (u.raiseChunk p) := by
  unfold State.raiseChunk
  split
  · exact h
  · exact h.onEngine

@[simp] theorem raiseOrPause {p : Nat} (h : s.Keeps u) : s.Keeps (u.raiseOrPause p) := by
  unfold State.raiseOrPause
  split
  · exact h.raiseChunk
  · exact h.onEngine

@[simp] theorem copyResume (h : s.Keeps u) : s.Keeps u.copyResume := by
  unfold State.copyResume
  split
  · exact h.raiseChunk
  · exact h

@[simp] theorem startCopy {p : Nat} (h : s.Keeps u) : s.Keeps (u.startCopy p) := by
  unfold State.startCopy
  dsimp only
  split
  next r rest n queue _ =>
    refine raiseOrPause ?_
    have started : s.Keeps (u.onStore fun st => { st.onRec p fun _ => r.copyingRec n with
        order := st.order.erase p ++ [p], nextSeq := seqAfter n, engine := { st.engine with chunk := 0 } }) :=
      h.onCatalog rfl fun ⟨_, _, views, catalog⟩ =>
        savedInRange_modify p catalog fun _ _ => views r (queue ▸ List.mem_cons_self)
    split
    · exact started.request
    · exact requestStatus (started.request)
  next => exact h

@[simp] theorem popHead {o : Outcome} {k : EventKind} (h : s.Keeps u) : s.Keeps (u.popHead o k) := by
  unfold State.popHead
  split
  · exact h
  next r rest queue =>
    refine requestStatus (raise (onSlots (onStore h ?_ ?_ fun ⟨_, _, _, catalog⟩ => catalog)
      (SlotTable.sameStates_dropCopy _ _).sound))
    · simp [queue]
    · exact fun r' hr' => queue ▸ List.mem_cons_of_mem r hr'

@[simp] theorem copyIdle (h : s.Keeps u) : s.Keeps u.copyIdle := h.onEngine

theorem serveQueue : ∀ (n : Nat) {u : State}, s.Keeps u → s.Keeps (u.serveQueue n)
  | 0, _, h => h.copyIdle
  | n + 1, u, h => by
    unfold State.serveQueue
    repeat' split
    · exact h.copyIdle
    · exact h.startCopy
    · exact h.onCatalog rfl fun ⟨_, _, _, catalog⟩ =>
        savedInRange_modify _ catalog fun _ hr => hr
    · exact serveQueue n (h.popHead)

@[simp] theorem nextRequest (h : s.Keeps u) : s.Keeps u.nextRequest := serveQueue _ h

@[simp] theorem copyComplete {p : Nat} (h : s.Keeps u) : s.Keeps (u.copyComplete p) :=
  nextRequest (popHead (request (onRec_of_eq h fun _ => rfl)))

@[simp] theorem copyFailed {p : Nat} {k : FaultKind} {addr : Nat} (h : s.Keeps u) : s.Keeps (u.copyFailed p k addr) :=
  nextRequest (popHead (logFault (request (freeRec h))))

@[simp] theorem handover {p : Nat} (h : s.Keeps u) : s.Keeps (u.handover p) := by
  unfold State.handover
  dsimp only
  split
  · exact h.startCopy
  · exact h

theorem unmark {f : Rec → Rec} {p : Nat} (h : s.Keeps u) (hf : ∀ r, (f r).view = r.view) : s.Keeps (u.unmark p f) :=
  handover (onRec_of_eq h hf)

@[simp] theorem copyFrameEnd (h : s.Keeps u) : s.Keeps u.copyFrameEnd := by
  unfold State.copyFrameEnd
  split
  · exact h.onStore_of_eq rfl rfl
  · exact h

@[simp] theorem finishRestart (h : s.Keeps u) : s.Keeps u.finishRestart := by
  unfold State.finishRestart
  split
  · exact answerAccepted (onRing h fun _ hr => hr)
  · exact h

@[simp] theorem readsReturned {p : Nat} (h : s.Keeps u) : s.Keeps (u.readsReturned p) := by
  unfold State.readsReturned
  split
  · exact h.copyFailed
  · exact h.onEngine

@[simp] theorem writesReturned {p : Nat} (h : s.Keeps u) : s.Keeps (u.writesReturned p) := by
  unfold State.writesReturned
  split
  · exact h.copyFailed
  · extract_lets total s1
    have counted : s.Keeps s1 := h.onEngine
    split
    · exact counted.copyComplete
    · exact counted.raiseOrPause

@[simp] theorem chunkReturned {t : ChunkTxn} {r : Resp} {data : List Byte} (h : s.Keeps u) :
    s.Keeps (u.chunkReturned t r data) := by
  unfold State.chunkReturned
  dsimp only
  repeat' split
  all_goals simp [h]

@[simp] theorem chunkResponse {d : Dir} {addr : Nat} {r : Resp} {data : List Byte} (h : s.Keeps u) :
    s.Keeps (u.chunkResponse d addr r data) := by
  unfold State.chunkResponse
  split
  · exact h
  · extract_lets s1
    have taken : s.Keeps s1 := h.onEngine
    split
    · exact taken.finishRestart
    · exact taken.chunkReturned.finishRestart

/-! ### The governor -/

@[simp] theorem thermalChange {before after : TempState} (h : s.Keeps u) : s.Keeps (u.thermalChange before after) := by
  unfold State.thermalChange
  extract_lets s1 s2
  have flagged : s.Keeps s1 := by
    unfold s1
    split
    · exact h
    · exact h.onGov fun _ hg => hg
  refine requestStatus ?_
  unfold s2
  repeat' split
  · exact flagged.raise
  · exact flagged.raise.copyResume
  · exact flagged

@[simp] theorem sampleDie {reading : Int} (h : s.Keeps u) : s.Keeps (u.sampleDie reading) := by
  have sampled (st : TempState) : s.Keeps (u.onGov fun g => { g with sample := some (clampSample reading), state := st }) :=
    h.onGov fun _ _ t ht => by
      cases ht
      unfold clampSample
      constructor <;> split <;> omega
  unfold State.sampleDie
  dsimp only
  split
  · exact sampled _
  · exact thermalChange (sampled _)

@[simp] theorem statusReadSeen (h : s.Keeps u) : s.Keeps u.statusReadSeen := by
  unfold State.statusReadSeen
  split
  · exact requestStatus (onGov h fun _ hg => hg)
  · exact h

/-! ### The Notice Unit and the Directive Unit -/

@[simp] theorem acknowledge {v : BitVec 32} (h : s.Keeps u) : s.Keeps (u.acknowledge v) := by
  unfold State.acknowledge
  dsimp only
  split
  · exact h
  · exact request (onNotice h fun _ hn => hn)

@[simp] theorem noticeReadSeen (h : s.Keeps u) : s.Keeps u.noticeReadSeen := by
  unfold State.noticeReadSeen
  split
  · exact h
  · exact h.onNotice fun _ hn => hn

@[simp] theorem raiseFetch (h : s.Keeps u) : s.Keeps u.raiseFetch := onRecs (onRing h fun _ hr => hr)

@[simp] theorem refuseSubmit (h : s.Keeps u) : s.Keeps u.refuseSubmit :=
  requestStatus (onRing h fun _ ⟨head, tail, _⟩ => ⟨head, tail, min_le_right _ _⟩)

theorem onTail {v : Nat} (h : s.Keeps u) (hv : v < 32) : s.Keeps (u.onRing fun r => { r with tail := v }) :=
  h.onRing fun _ ⟨head, _, errors⟩ => ⟨head, hv, errors⟩

@[simp] theorem takeSubmit {v : Nat} (h : s.Keeps u) : s.Keeps (u.takeSubmit v) := by
  unfold State.takeSubmit
  dsimp only
  split
  · exact h.refuseSubmit
  next small =>
    have hv : v < 32 := Nat.lt_of_not_le small
    repeat' split
    · exact h.onTail hv
    · exact raiseFetch (onTail h hv)
    · exact h.refuseSubmit
    · exact h.onTail hv
    · exact request (onRing (onTail h hv) fun _ hr => hr)
    · exact raiseFetch (onTail h hv)

@[simp] theorem fetchFailed {addr : Nat} (h : s.Keeps u) : s.Keeps (u.fetchFailed addr) :=
  request (onRing (logFault h) fun _ hr => hr)

@[simp] theorem dispatch {data : List Byte} (h : s.Keeps u) : s.Keeps (u.dispatch data) := h.onRing fun _ hr => hr

@[simp] theorem retire {i : Nat} {rec : List Byte} (h : s.Keeps u) : s.Keeps (u.retire i rec) := by
  have advanced : s.Keeps (u.onRing fun r => { r with head := (i + 1) % Config.ringRecords, flight := none }) :=
    h.onRing fun _ ⟨_, tail, errors⟩ => ⟨Nat.mod_lt _ (by decide), tail, errors⟩
  unfold State.retire
  dsimp only
  repeat' split
  · exact onRing (raise (advanced.request)) fun _ hr => hr
  · exact onRing (advanced.request) fun _ hr => hr
  · exact raiseFetch (raise advanced.request)
  · exact raiseFetch advanced.request

@[simp] theorem statusWriteReturned {i : Nat} (h : s.Keeps u) : s.Keeps (u.statusWriteReturned i) := by
  unfold State.statusWriteReturned
  repeat' split
  · exact h.retire
  · exact h
  · exact h

@[simp] theorem latched {k : LatchId} {addr : Nat} {r : Resp} (h : s.Keeps u) : s.Keeps (u.latched k addr r) := by
  unfold State.latched
  repeat' split
  · exact h.onNotice fun _ hn => hn
  · exact h
  · exact logFault (onNotice h fun _ hn => hn)

@[simp] theorem writeReturned {t : Target} {addr : Nat} {r : Resp} (h : s.Keeps u) : s.Keeps (u.writeReturned t addr r) := by
  unfold State.writeReturned
  dsimp only
  repeat' split
  all_goals simp [h]

@[simp] theorem recordResponse {which : RecFlight → Bool} {r : Resp} (h : s.Keeps u) : s.Keeps (u.recordResponse which r) := by
  unfold State.recordResponse
  split
  · exact writeReturned (onRecs h)
  · exact h

@[simp] theorem hand {o : Obs} (h : s.Keeps u) : s.Keeps (u.hand o) := by
  cases o with
  | submit v => exact h.takeSubmit
  | acknowledge v => exact h.acknowledge
  | noticeRead => exact h.noticeReadSeen
  | statusRead => exact h.statusReadSeen

theorem handEach : ∀ (l : List Obs) {u : State}, s.Keeps u → s.Keeps (State.handEach l u)
  | [], _, h => h
  | _ :: l, _, h => handEach l h.hand

@[simp] theorem handAll {obs : List Obs} (h : s.Keeps u) : s.Keeps (u.handAll obs) := handEach obs (h.onPath_of_eq rfl rfl)

end
end State.Keeps
end Sys2Proof.Machine
end

section
/-! What the line buffer's operations leave (R65 to R69): they change the places, the next line to emit and the class C writes
waiting, and nothing else of the Capture Enhancer. -/

namespace Sys2Proof.Machine

/-- From `c` to `c'` the line buffer has changed, and nothing else of the Capture Enhancer. -/
def Capture.BuffersTo (c c' : Capture) : Prop :=
  ∃ places next waiting, c' = { c with places := places, nextEmit := next, lumaWaiting := waiting }

namespace Capture.BuffersTo

theorem refl (c : Capture) : c.BuffersTo c := ⟨_, _, _, rfl⟩

theorem trans {c c' c'' : Capture} (h : c.BuffersTo c') (h' : c'.BuffersTo c'') : c.BuffersTo c'' := by
  obtain ⟨_, _, _, rfl⟩ := h
  obtain ⟨_, _, _, rfl⟩ := h'
  exact ⟨_, _, _, rfl⟩

/-- Nothing but the buffer has changed: with the buffer of `c'` the two are the same. -/
theorem eq {c c' : Capture} (h : c.BuffersTo c') :
    c' = { c with places := c'.places, nextEmit := c'.nextEmit, lumaWaiting := c'.lumaWaiting } := by
  obtain ⟨_, _, _, rfl⟩ := h
  rfl

theorem dropped {c c' : Capture} (h : c.BuffersTo c') : c'.dropped = c.dropped := by
  obtain ⟨_, _, _, rfl⟩ := h
  rfl

theorem foldl {α : Type} {f : Capture → α → Capture} (h : ∀ (c : Capture) (a : α), c.BuffersTo (f c a)) :
    ∀ (l : List α) (c : Capture), c.BuffersTo (l.foldl f c)
  | [], c => .refl c
  | a :: l, c => .trans (h c a) (foldl h l _)

end Capture.BuffersTo

theorem Capture.setPlace_buffers (k : Nat) (p : Option Place) (c : Capture) : c.BuffersTo (c.setPlace k p) :=
  ⟨_, _, _, rfl⟩

theorem Capture.raiseWrites_buffers (k addr : Nat) (bytes : List Byte) (p : Place) (c : Capture) :
    c.BuffersTo (c.raiseWrites k addr bytes p) := ⟨_, _, _, rfl⟩

theorem Capture.freeNeighbour_buffers (y : Nat) (c : Capture) : c.BuffersTo (c.freeNeighbour y) := by
  unfold Capture.freeNeighbour
  repeat' split
  · exact .refl c
  · exact c.setPlace_buffers _ _
  · exact .refl c
  · exact .refl c

theorem Capture.emit_buffers (g : CapGeom) (base y : Nat) (c : Capture) : c.BuffersTo (c.emit g base y) := by
  unfold Capture.emit
  repeat' split
  · exact .refl c
  · exact .refl c
  · exact .trans (c.raiseWrites_buffers _ _ _ _) (.trans (Capture.freeNeighbour_buffers _ _) ⟨_, _, _, rfl⟩)

theorem Capture.emitAll_buffers (g : CapGeom) (base : Nat) : ∀ (n : Nat) (c : Capture),
    c.BuffersTo (c.emitAll g base n)
  | 0, c => .refl c
  | n + 1, c => by
    unfold Capture.emitAll
    split
    · exact .trans (c.emit_buffers _ _ _) (Capture.emitAll_buffers g base n _)
    · exact .refl c

theorem Capture.addToLine_buffers (w y : Nat) (bytes : List Byte) (c : Capture) : c.BuffersTo (c.addToLine w y bytes) := by
  unfold Capture.addToLine
  repeat' split
  · exact c.setPlace_buffers _ _
  · exact .refl c
  · exact c.setPlace_buffers _ _
  · exact .refl c

theorem Capture.acceptLuma_buffers (g : CapGeom) (base : Nat) : ∀ (n off : Nat) (data : List Byte) (c : Capture),
    c.BuffersTo (c.acceptLuma g base n off data)
  | 0, _, _, c => .refl c
  | n + 1, off, data, c => by
    unfold Capture.acceptLuma
    split
    · exact .refl c
    · exact .trans (c.addToLine_buffers _ _ _) (.trans (Capture.emitAll_buffers _ _ _ _)
        (Capture.acceptLuma_buffers g base n _ _ _))

theorem Capture.flushLine_buffers (w base y : Nat) (c : Capture) : c.BuffersTo (c.flushLine w base y) := by
  unfold Capture.flushLine
  repeat' split
  · exact .refl c
  · exact .refl c
  · exact c.raiseWrites_buffers _ _ _ _
  · exact .refl c

theorem Capture.flush_buffers (w base : Nat) (c : Capture) : c.BuffersTo (c.flush w base) :=
  .trans ⟨_, _, _, rfl⟩ (Capture.BuffersTo.foldl (fun c y => c.flushLine_buffers w base y) _ _)

theorem Capture.addUnit_buffers (w base off : Nat) (bytes : List Byte) (c : Capture) :
    c.BuffersTo (c.addUnit w base off bytes) := by
  unfold Capture.addUnit
  repeat' split
  · exact .refl c
  · exact ⟨_, _, _, rfl⟩
  · exact .refl c

theorem Capture.storeLuma_buffers (g : CapGeom) (base off : Nat) (luma : List Byte) (c : Capture) :
    c.BuffersTo (c.storeLuma g base off luma) := by
  unfold Capture.storeLuma
  split
  · exact c.addUnit_buffers _ _ _ _
  · exact c.acceptLuma_buffers _ _ _ _ _

theorem Capture.lumaGranted_buffers (k : Nat) (c : Capture) : c.BuffersTo (c.lumaGranted k) := by
  unfold Capture.lumaGranted
  repeat' split
  · exact .refl c
  · exact c.setPlace_buffers _ _
  · exact c.setPlace_buffers _ _
  · exact c.setPlace_buffers _ _

end Sys2Proof.Machine
end

section
/-! What the operations of the path, the capture side, the outputs and the store keep of the invariants. -/

namespace Sys2Proof.Machine

/-! ### The forwarding queue (R2) -/

theorem length_filter_erase_le {α : Type} [DecidableEq α] (p : α → Bool) (l : List α) (a : α) :
    ((l.erase a).filter p).length ≤ (l.filter p).length :=
  ((List.erase_sublist).filter p).length_le

@[simp] theorem filter_dir_setResponse (d : Dir) (old : FwdEntry) (r : Resp) (data : List Byte) :
    ∀ l : List FwdEntry, ((setResponse old r data l).filter fun e => decide (e.dir = d)).length
      = (l.filter fun e => decide (e.dir = d)).length
  | [] => rfl
  | e :: l => by
    unfold setResponse
    split
    · simp only [List.filter_cons]
      split <;> rfl
    · simp only [List.filter_cons]
      split
      · simp [filter_dir_setResponse d old r data l]
      · exact filter_dir_setResponse d old r data l

theorem filter_dir_grantFirst (d : Dir) : ∀ l : List FwdEntry,
    ((grantFirst l).filter fun e => decide (e.dir = d)).length = (l.filter fun e => decide (e.dir = d)).length
  | [] => rfl
  | e :: l => by
    unfold grantFirst
    split
    · simp only [List.filter_cons]
      split
      · simp [filter_dir_grantFirst d l]
      · exact filter_dir_grantFirst d l
    · simp only [List.filter_cons]
      split <;> rfl

/-- An entry joins a queue with room for it. -/
theorem PathUnit.queueInRange_append {p p' : PathUnit} {e : FwdEntry} (h : p.QueueInRange) (fwd : p'.fwd = p.fwd ++ [e])
    (room : (p.fwd.filter fun x => decide (x.dir = e.dir)).length < 16) : p'.QueueInRange := by
  intro d
  have old := h d
  rw [fwd, List.filter_append, List.length_append]
  by_cases same : e.dir = d
  · subst same
    simpa using room
  · simpa [same] using old

/-! ### The capture settings -/

theorem Settings.inRange_default : Settings.default.InRange := by simp [Settings.InRange, Settings.default]

theorem Capture.legal_of_buffers {c c' : Capture} (h : c.BuffersTo c') (legal : c.Legal) : c'.Legal := by
  obtain ⟨_, _, _, rfl⟩ := h
  exact legal

/-- A write is too short to reach the chroma of a frame from its start. -/
theorem CapGeom.chromaPart_of_legal {g : CapGeom} {data : List Byte} (legal : g.Legal) (short : data.length ≤ 256) :
    g.chromaPart 0 data = [] := by
  obtain ⟨wide, -, -, high, -⟩ := legal
  refine List.drop_eq_nil_of_le (short.trans ?_)
  calc 256 ≤ 640 * 480 := by decide
    _ ≤ g.w * g.h := Nat.mul_le_mul wide high

theorem Txn.length_le_of_legal {t : Txn} (legal : t.legal = true) : t.data.length ≤ 256 := by
  simp only [Txn.legal, Bool.and_eq_true, decide_eq_true_eq, Config.maxTransfer] at legal
  obtain ⟨⟨⟨⟨⟨⟨-, short⟩, -⟩, -⟩, -⟩, -⟩, data⟩ := legal
  rw [data]
  split
  · exact Nat.zero_le _
  · exact of_decide_eq_true short

@[simp] theorem State.hasRoom_leaveUntaken (d : Dir) (t : Txn) (s : State) :
    (s.leaveUntaken t).hasRoom d = s.hasRoom d := by
  unfold State.leaveUntaken State.setUntaken
  split <;> rfl

namespace State.Keeps

section
variable {s u : State}

/-! ### The path -/

@[simp] theorem setUntaken {d : Dir} {l : List Txn} (h : s.Keeps u) : s.Keeps (u.setUntaken d l) := by
  unfold State.setUntaken
  split
  · exact h.onPath_of_eq rfl rfl
  · exact h.onPath_of_eq rfl rfl

@[simp] theorem leaveUntaken {t : Txn} (h : s.Keeps u) : s.Keeps (u.leaveUntaken t) := h.setUntaken

@[simp] theorem holdUntaken {t : Txn} (h : s.Keeps u) : s.Keeps (u.holdUntaken t) := by
  unfold State.holdUntaken
  split
  · exact h
  · exact h.setUntaken

theorem present {t : Txn} {accepts : Bool} {take : State → State} (h : s.Keeps u)
    (taken : accepts = true → s.Keeps (take (u.leaveUntaken t))) : s.Keeps (u.present t accepts take) := by
  unfold State.present
  split
  next both => exact taken (Bool.and_eq_true_iff.1 both).2
  next => exact h.holdUntaken

/-- A transaction joins a forwarding queue that has room for it. -/
theorem joinFwd {f : PathUnit → PathUnit} {e : FwdEntry} (h : s.Keeps u) (loss : (f u.path).lossCount = u.path.lossCount)
    (fwd : (f u.path).fwd = u.path.fwd ++ [e]) (room : s.cap.Legal → u.hasRoom e.dir = true) : s.Keeps (u.onPath f) :=
  { h with
    loss := fun hs => loss ▸ h.loss hs
    fwd := fun legal hs => PathUnit.queueInRange_append (h.fwd legal hs) fwd
      (of_decide_eq_true (room legal)) }

theorem enqueue {t : Txn} {addr : Nat} (h : s.Keeps u) (room : u.hasRoom t.dir = true) : s.Keeps (u.enqueue t addr) :=
  h.joinFwd rfl rfl fun _ => room

@[simp] theorem otherwise {t : Txn} (h : s.Keeps u) : s.Keeps (u.otherwise t) := by
  unfold State.otherwise
  split
  · exact h.present fun room => enqueue h.leaveUntaken (by rwa [State.hasRoom_leaveUntaken])
  · exact h.holdUntaken

@[simp] theorem relayOne {e : FwdEntry} {r : Resp} {data : List Byte} (h : s.Keeps u) : s.Keeps (u.relayOne e r data) :=
  h.onPath (le_max_left _ _) fun _ => length_filter_erase_le _ _ _

theorem relay {d : Dir} : ∀ (n : Nat) {u : State}, s.Keeps u → s.Keeps (u.relay d n)
  | 0, _, h => h
  | n + 1, _, h => by
    unfold State.relay
    repeat' split
    · exact h
    · exact h
    · exact h
    · exact relay n h.relayOne

@[simp] theorem responded {e : FwdEntry} {r : Resp} {data : List Byte} (h : s.Keeps u) :
    s.Keeps (u.responded e r data) :=
  relay _ (h.onPath (le_max_left _ _) fun _ => (filter_dir_setResponse _ _ _ _ _).le)

@[simp] theorem chromaError {e : FwdEntry} (h : s.Keeps u) : s.Keeps (u.chromaError e) := by
  unfold State.chromaError
  split
  · exact h
  · exact h.logFault

@[simp] theorem relayObserved {d : Dir} {o : Obs} (h : s.Keeps u) : s.Keeps (u.relayObserved d o) := by
  unfold State.relayObserved
  split
  · exact h
  · extract_lets s1
    refine relay _ ?_
    split
    · exact h.relayOne
    · exact handAll h.relayOne

@[simp] theorem grant {k : GrantClass} (h : s.Keeps u) : s.Keeps (u.grant k) := by
  have issued : s.Keeps (u.issue k) := by
    unfold State.issue
    split
    · exact onPath_of_eq (onOut_of_eq h rfl) rfl rfl
    · exact h.onPath (le_max_left _ _) fun d => (filter_dir_grantFirst d _).le
    · refine h.onCap ?_
      unfold Capture.grantLuma
      split
      · exact id
      next w rest _ =>
        exact fun legal => Capture.legal_of_buffers
          (Capture.lumaGranted_buffers w.place { u.cap with lumaWaiting := rest, lumaFlight := u.cap.lumaFlight ++ [w] })
          legal
    · unfold State.grantRecord
      split
      · exact h
      · exact h.onRecs
    · exact h.onEngine
  refine issued.onPath ?_ fun _ => le_refl _
  dsimp only
  split
  · exact le_max_left _ _
  · unfold State.lossAfter
    repeat' split
    · exact Nat.zero_le _
    · exact (min_le_right _ _).trans (le_max_right _ _)
    · exact Nat.zero_le _

/-! ### The capture side -/

@[simp] theorem fillRequest (h : s.Keeps u) : s.Keeps u.fillRequest := by
  unfold State.fillRequest
  dsimp only
  split
  next k chosen =>
    refine onCap (onSlots h fun sound => ?_) id
    exact SlotTable.sound_fill (SlotTable.sound_tear sound) (SlotTable.filling_tear sound)
      (SlotTable.chooseFill_lt (SlotTable.sound_tear sound) chosen) _ _
  next => exact onCap (raise (onSlots h fun sound => SlotTable.sound_tear sound)) id

@[simp] theorem captureFrameEnd {die : Int} (h : s.Keeps u) : s.Keeps (u.captureFrameEnd die) :=
  h.sampleDie.copyFrameEnd.requestStatus

@[simp] theorem updateWhiteMap (h : s.Keeps u) : s.Keeps u.updateWhiteMap := by
  unfold State.updateWhiteMap
  split
  · exact h
  · exact h.onCap id

@[simp] theorem giveSignature (h : s.Keeps u) : s.Keeps u.giveSignature := by
  unfold State.giveSignature
  split
  · exact h
  · exact h.receiveSignature

@[simp] theorem frameEnded {die : Int} (h : s.Keeps u) : s.Keeps (u.frameEnded die) :=
  onCap h.updateWhiteMap.giveSignature.captureFrameEnd id

@[simp] theorem degradeFrame (h : s.Keeps u) : s.Keeps u.degradeFrame := by
  unfold State.degradeFrame
  split
  · exact h
  · exact onSlots (raise (onCap h id)) (SlotTable.sameStates_degrade _).sound

@[simp] theorem tearFrame (h : s.Keeps u) : s.Keeps u.tearFrame := onCap (onSlots h SlotTable.sound_tear) id

@[simp] theorem tearEnded {die : Int} (h : s.Keeps u) : s.Keeps (u.tearEnded die) := captureFrameEnd (onCap h id)

@[simp] theorem finishStop (h : s.Keeps u) : s.Keeps u.finishStop :=
  answerAccepted (requestStatus (monitorStop (onCap h fun ⟨geom, staged, _⟩ => ⟨geom, staged, staged⟩)))

@[simp] theorem finishStopping (h : s.Keeps u) : s.Keeps u.finishStopping := by
  unfold State.finishStopping
  split
  · exact h.finishStop
  · exact h

@[simp] theorem breakOrder {g : CapGeom} (h : s.Keeps u) : s.Keeps (u.breakOrder g) := by
  unfold State.breakOrder
  extract_lets s1
  have broken : s.Keeps s1 := degradeFrame (onCap h id)
  repeat' split
  · exact h
  · exact broken
  · exact broken.onCap (Capture.legal_of_buffers (Capture.flush_buffers _ _ _))

/-- The chroma of a write is redirected only when the forwarding queue has room for it. -/
theorem answerWrite {t : Txn} {g : CapGeom} {off : Nat} (h : s.Keeps u)
    (room : s.cap.Legal → u.cap.dropped = true ∨ g.chromaPart off t.data = [] ∨ u.hasRoom .write = true) :
    s.Keeps (u.answerWrite t g off) := by
  unfold State.answerWrite
  dsimp only
  split
  · exact h.respond
  next redirects =>
    refine h.joinFwd rfl rfl fun legal => ?_
    simp only [Bool.or_eq_true, List.isEmpty_iff, not_or] at redirects
    obtain dropped | none | room := room legal
    · exact absurd dropped redirects.1
    · exact absurd none redirects.2
    · exact room

@[simp] theorem receiptEnd {g : CapGeom} {endOff : Nat} {die : Int} (h : s.Keeps u) :
    s.Keeps (u.receiptEnd g endOff die) := by
  unfold State.receiptEnd
  repeat' split
  · exact h.frameEnded
  · exact h.onCap id
  · exact h

end
end State.Keeps
end Sys2Proof.Machine
end

section
/-! What the frames, the outputs and the store keep of the invariants, operation by operation. -/

namespace Sys2Proof.Machine

/-! ### What a frame's writes leave -/

@[simp] theorem State.degradeFrame_dropped (s : State) : s.degradeFrame.cap.dropped = s.cap.dropped := by
  unfold State.degradeFrame
  split
  · rfl
  · simp

@[simp] theorem State.breakOrder_dropped (g : CapGeom) (s : State) : (s.breakOrder g).cap.dropped = s.cap.dropped := by
  unfold State.breakOrder
  extract_lets s1
  have degraded : s1.cap.dropped = s.cap.dropped := State.degradeFrame_dropped _
  repeat' split
  · rfl
  · exact degraded
  · rw [State.onCap_cap, (Capture.flush_buffers g.w s.frameBase s1.cap).dropped, degraded]

/-- The capture side of a write: the tiles are fed and the buffer holds the luma (R59, R76). -/
def Capture.written (g : CapGeom) (base off len : Nat) (luma : List Byte) (c : Capture) : Capture :=
  let c1 := c.feedTiles g off luma
  { (if c1.dropped then c1 else c1.storeLuma g base off luma) with expected := off + len }

theorem State.frameWrite_eq (t : Txn) (g : CapGeom) (off : Nat) (die : Int) (s : State) :
    s.frameWrite t g off die = (((if off = s.cap.expected then s else s.breakOrder g).onCap
      (Capture.written g s.frameBase off t.len (g.lumaPart off t.data))).answerWrite t g off).receiptEnd g (off + t.len)
        die := rfl

/-- Feeding the tiles changes the two accumulators. -/
theorem Capture.feedTiles_eq (g : CapGeom) (off : Nat) (luma : List Byte) (c : Capture) :
    ∃ sums whites, c.feedTiles g off luma = { c with sums := sums, whites := whites } := by
  unfold Capture.feedTiles
  split
  · exact ⟨_, _, rfl⟩
  · exact ⟨_, _, rfl⟩

/-- A write changes the accumulators, the buffer and the position, and nothing else of the Capture Enhancer. -/
theorem Capture.written_eq (g : CapGeom) (base off len : Nat) (luma : List Byte) (c : Capture) :
    ∃ sums whites places next waiting, c.written g base off len luma = { c with
      sums := sums, whites := whites, places := places, nextEmit := next, lumaWaiting := waiting
      expected := off + len } := by
  obtain ⟨sums, whites, fed⟩ := c.feedTiles_eq g off luma
  unfold Capture.written
  dsimp only
  rw [fed]
  split
  · exact ⟨_, _, _, _, _, rfl⟩
  · obtain ⟨_, _, _, stored⟩ := Capture.storeLuma_buffers g base off luma { c with sums := sums, whites := whites }
    exact ⟨sums, whites, _, _, _, by rw [stored]⟩

/-! ### The zoom -/

theorem zoomStep_inRange {zt zc ramp : Nat} (lowT : 256 ≤ zt) (highT : zt ≤ 2048) (low : 256 ≤ zc) (high : zc ≤ 2048) :
    256 ≤ zoomStep zt zc ramp ∧ zoomStep zt zc ramp ≤ 2048 := by
  unfold zoomStep
  repeat' split
  all_goals omega

theorem View.inRange_applySaved {v : View} {sv : SavedView} (h : v.InRange) (saved : savedInRange (some sv)) :
    (v.applySaved sv).InRange := by
  obtain ⟨-, -, low, high, ramp⟩ := h
  obtain ⟨lowT, highT⟩ := saved sv rfl
  exact ⟨lowT, highT, low, high, ramp⟩

theorem View.inRange_recalled {v : View} {useView : BitVec 8} {r : Rec} (h : v.InRange) (saved : savedInRange r.view) :
    (v.recalled useView r).InRange := by
  unfold View.recalled
  split
  next sv eq =>
    split
    · exact h
    · exact View.inRange_applySaved h (eq ▸ saved)
  next => exact h

theorem Store.savedInRange_recAt {st : Store} (h : ∀ r ∈ st.catalog, savedInRange r.view) (p : Nat) :
    savedInRange (st.recAt p).view := by
  unfold Store.recAt
  rw [List.getD_eq_getElem?_getD]
  cases found : st.catalog[p]? with
  | none => exact savedInRange_none
  | some r => exact h r (List.mem_of_getElem? found)

theorem State.savedInRange_viewOfA {s : State} (h : s.outA.view.InRange) : savedInRange s.viewOfA := by
  obtain ⟨-, -, low, high, -⟩ := h
  unfold State.viewOfA
  split
  · intro w hw
    cases hw
    exact ⟨low, high⟩
  · exact savedInRange_none

/-! ### The catalog a resume rebuilds -/

theorem savedInRange_savedFrom (b : List Byte) : savedInRange (savedFrom b).view := by
  unfold savedFrom
  dsimp only
  split
  · intro w hw
    cases hw
    rw [clamp_eq_max_min (by decide)]
    exact ⟨le_max_left _ _, max_le (by decide) (min_le_left _ _)⟩
  · exact savedInRange_none

theorem savedInRange_rebuiltCatalog (e : Nat) (bytes : List Byte) :
    ∀ r ∈ rebuiltCatalog e bytes, savedInRange r.view := by
  intro r hr
  obtain ⟨p, -, rfl⟩ := List.mem_map.1 hr
  split
  · exact savedInRange_savedFrom _
  · exact savedInRange_none

namespace State.Keeps

section
variable {s u : State}

/-! ### Frames -/

theorem frameWrite {t : Txn} {g : CapGeom} {off : Nat} {die : Int} (h : s.Keeps u)
    (room : s.cap.Legal → u.cap.dropped = true ∨ g.chromaPart off t.data = [] ∨ u.hasRoom .write = true) :
    s.Keeps (u.frameWrite t g off die) := by
  have ordered : s.Keeps (if off = u.cap.expected then u else u.breakOrder g) := by
    split
    · exact h
    · exact h.breakOrder
  have path : (if off = u.cap.expected then u else u.breakOrder g).path = u.path := by
    split
    · rfl
    · exact State.breakOrder_path g u
  have dropped : (if off = u.cap.expected then u else u.breakOrder g).cap.dropped = u.cap.dropped := by
    split
    · rfl
    · exact State.breakOrder_dropped g u
  rw [State.frameWrite_eq]
  obtain ⟨sums, whites, places, next, waiting, written⟩ := Capture.written_eq g u.frameBase off t.len
    (g.lumaPart off t.data) (if off = u.cap.expected then u else u.breakOrder g).cap
  refine receiptEnd (answerWrite (ordered.onCap fun legal => written ▸ legal) fun legal => ?_)
  rw [State.onCap_cap, written]
  simpa only [State.hasRoom, State.onCap_path, path, dropped] using room legal

@[simp] theorem strayWrite {t : Txn} (h : s.Keeps u) : s.Keeps (u.strayWrite t) := h.respond.raise

@[simp] theorem startFrame (h : s.Keeps u) : s.Keeps u.startFrame := by
  unfold State.startFrame
  extract_lets s1
  have fixed : s.Keeps s1 := h.onCap fun ⟨geom, staged, _⟩ => ⟨geom, staged, staged⟩
  exact fixed.fillRequest.onCap id

/-- The start write of a frame is too short to have chroma. -/
theorem startWrite {t : Txn} {g : CapGeom} {die : Int} (h : s.Keeps u) (geom : s.cap.geom = some g)
    (short : t.data.length ≤ 256) : s.Keeps (u.startFrame.frameWrite t g 0 die) :=
  h.startFrame.frameWrite fun legal => .inr (.inl (CapGeom.chromaPart_of_legal (legal.1 g geom) short))

@[simp] theorem captureWrite {t : Txn} {g : CapGeom} {off : Nat} {die : Int} (h : s.Keeps u) :
    s.Keeps (u.captureWrite t g off die) := by
  unfold State.captureWrite
  repeat' split
  · exact h.holdUntaken
  · refine h.present fun accepts => frameWrite h.leaveUntaken fun _ => ?_
    simp only [State.acceptsWrite, Bool.or_eq_true, Bool.and_eq_true, List.isEmpty_iff] at accepts
    rw [State.leaveUntaken_cap, State.hasRoom_leaveUntaken]
    exact accepts.imp_right And.right
  · exact h.present fun _ => h.leaveUntaken.strayWrite
  · exact h.present fun _ => h.leaveUntaken.strayWrite

theorem frameStart {t : Txn} {g : CapGeom} {die : Int} (h : s.Keeps u) (geom : s.cap.geom = some g)
    (short : t.data.length ≤ 256) : s.Keeps (u.frameStart t g die) := by
  unfold State.frameStart
  dsimp only
  repeat' split
  · exact h.holdUntaken
  · exact h.present fun _ => h.leaveUntaken.startWrite geom short
  · exact h.holdUntaken
  · exact startWrite (leaveUntaken (tearEnded h.tearFrame)) geom short
  · exact h.tearFrame.holdUntaken
  · exact h.holdUntaken

@[simp] theorem lumaError {addr : Nat} (h : s.Keeps u) : s.Keeps (u.lumaError addr) := by
  unfold State.lumaError
  split
  · exact h
  · exact h.logFault.degradeFrame

theorem takeConfigure {g : CapGeom} {base : Nat} (h : s.Keeps u) (legal : g.Legal) : s.Keeps (u.takeConfigure g base) :=
  onSlots (onCap h fun ⟨_, staged, live⟩ => ⟨fun _ eq => Option.some.inj eq ▸ legal, staged, live⟩)
    fun _ => SlotTable.sound_cleared u.slots

@[simp] theorem takeStop {die : Int} (h : s.Keeps u) : s.Keeps (u.takeStop die) := by
  unfold State.takeStop
  dsimp only
  repeat' split
  · exact h.onCap id
  · exact h.finishStop
  · exact h.onCap id
  · exact h.tearFrame.tearEnded.finishStop
  · exact h.tearFrame.onCap id

@[simp] theorem captureRestart {die : Int} (h : s.Keeps u) : s.Keeps (u.captureRestart die) := by
  unfold State.captureRestart
  extract_lets active s1 s2
  have restarted : s.Keeps s1 :=
    onCap (onSlots h fun sound => by split; exacts [SlotTable.sound_tear sound, sound])
      fun ⟨geom, _⟩ => ⟨geom, Settings.inRange_default, Settings.inRange_default⟩
  have written : s.Keeps s2 := by
    unfold s2
    split
    · exact restarted.requestStatus
    · exact restarted
  split
  · exact written.tearEnded
  · exact written

/-! ### The outputs -/

/-- The fetches of an engine leave its view. -/
theorem fetches {x : OutId} {f : Engine → Engine} (h : s.Keeps u) (hf : (u.out x).FetchesTo (f (u.out x))) :
    s.Keeps (u.onOut x f) := h.onOut_of_eq hf.view

@[simp] theorem noteDamaged {x : OutId} {addr : Nat} (h : s.Keeps u) : s.Keeps (u.noteDamaged x addr) := by
  unfold State.noteDamaged
  dsimp only
  split
  · exact h
  · exact raise (logFault (onOut_of_eq h rfl))

@[simp] theorem rowComputed {x : OutId} {p : Plane} {r : Nat} {bytes : List Byte} (h : s.Keeps u) :
    s.Keeps (u.rowComputed x p r bytes) := by
  refine h.onOut_of_eq ((Engine.fetches_prefetchAfter p r _).view.trans ?_)
  exact (Engine.fetches_onCache p _ (u.out x)).view

@[simp] theorem demandFor {x : OutId} {p : Plane} {r : Nat} (h : s.Keeps u) : s.Keeps (u.onOut x (·.demandFor p r)) :=
  h.fetches (Engine.fetches_demandFor p r _)

theorem ensureRows {x : OutId} {rows : List (Plane × Nat)} {v : State} {o : Option (List (Plane × Nat × List Byte))}
    (h : s.Keeps u) (eq : u.ensureRows x rows = (v, o)) : s.Keeps v :=
  State.ensureRows_keeps (Q := s.Keeps) (by simp +contextual) (by simp +contextual) (by simp +contextual) rows u v o h eq

@[simp] theorem dropFreeze {x : OutId} (h : s.Keeps u) : s.Keeps (u.dropFreeze x) := by
  unfold State.dropFreeze
  split
  · exact h.onSlots (SlotTable.sameStates_dropFreeze x _ _).sound
  · exact h

@[simp] theorem dropShow {x : OutId} (h : s.Keeps u) : s.Keeps (u.dropShow x) := by
  unfold State.dropShow
  split
  · exact h.onSlots (SlotTable.sameStates_dropShow x _ _).sound
  · exact h

@[simp] theorem takeShow {x : OutId} {w : Option Latched} (h : s.Keeps u) : s.Keeps (u.takeShow x w) := by
  unfold State.takeShow
  split
  · exact h.onSlots (SlotTable.sameStates_takeShow x _ _).sound
  · exact h

theorem dropRecalls {x : OutId} : ∀ (l : List Nat) {u : State}, s.Keeps u → s.Keeps (u.dropRecalls x l)
  | [], _, h => h
  | p :: l, u, h => by
    unfold State.dropRecalls
    refine dropRecalls l ?_
    split
    · exact h.unmark (Rec.setRecall_view x false)
    · exact h

@[simp] theorem leaveOutput {x : OutId} (h : s.Keeps u) : s.Keeps (u.leaveOutput x) :=
  onOut_of_eq (dropRecalls _ h.dropShow.dropFreeze) rfl

@[simp] theorem finishLeaving {x : OutId} (h : s.Keeps u) : s.Keeps (u.finishLeaving x) := by
  unfold State.finishLeaving
  repeat' split
  · exact h.leaveOutput.finishRestart
  · exact h.leaveOutput.answerAccepted
  · exact h

@[simp] theorem outputFrameStart {x : OutId} {die : Int} (h : s.Keeps u) : s.Keeps (u.outputFrameStart x die) :=
  fetches (sampleDie (onOut (dropRecalls _ h.dropShow.takeShow) fun ⟨lowT, highT, low, high, ramp⟩ => by
      obtain ⟨low', high'⟩ := zoomStep_inRange (ramp := (State.out _ x).view.ramp) lowT highT low high
      exact ⟨lowT, highT, low', high', ramp⟩))
    (Engine.fetches_prefetchFor _ _ _ _)

@[simp] theorem outputRestart {x : OutId} (h : s.Keeps u) : s.Keeps (u.outputRestart x) := by
  unfold State.outputRestart
  dsimp only
  repeat' split
  · exact leaveOutput (onOut_of_eq h rfl)
  · exact onOut_of_eq h rfl
  · exact dropRecalls _ (onOut_of_eq h.dropFreeze rfl)

/-! ### The store -/

theorem requestRecords : ∀ (l : List Nat) {u : State}, s.Keeps u → s.Keeps (u.requestRecords l)
  | [], _, h => h
  | _ :: l, _, h => requestRecords l h.request

@[simp] theorem openEmpty {g : StoreGeom} (h : s.Keeps u) : s.Keeps (u.openEmpty g) :=
  requestStatus (onCatalog h rfl fun _ r hr => by
    rw [List.eq_of_mem_replicate hr]
    exact savedInRange_none)

@[simp] theorem writeNewStore {g : StoreGeom} (h : s.Keeps u) : s.Keeps (u.writeNewStore g) :=
  requestRecords _ h.request

@[simp] theorem raiseResume {g : StoreGeom} {n : Nat} (h : s.Keeps u) : s.Keeps (u.raiseResume g n) := h.onRecs

@[simp] theorem beginResume {g : StoreGeom} {clamped : Bool} (h : s.Keeps u) : s.Keeps (u.beginResume g clamped) :=
  raiseResume (requestStatus (onCatalog h rfl fun _ _ hr => absurd hr List.not_mem_nil))

@[simp] theorem resumeClosed {st : Status} (h : s.Keeps u) : s.Keeps (u.resumeClosed st) := by
  unfold State.resumeClosed
  exact answerAccepted (requestStatus (onCatalog h rfl fun _ _ hr => absurd hr List.not_mem_nil))

@[simp] theorem resumeOpened {g : StoreGeom} {bytes : List Byte} {clamped : Bool} (h : s.Keeps u) :
    s.Keeps (u.resumeOpened g bytes clamped) := by
  unfold State.resumeOpened
  exact answerAccepted (requestRecords _ (requestStatus (onCatalog h rfl fun _ =>
    savedInRange_rebuiltCatalog g.e bytes)))

@[simp] theorem resumeReturned {addr : Nat} {r : Resp} {data : List Byte} (h : s.Keeps u) :
    s.Keeps (u.resumeReturned addr r data) := by
  unfold State.resumeReturned
  dsimp only
  repeat' split
  · exact h.logFault.resumeClosed
  · exact h.resumeClosed
  · exact raiseResume (onStore_of_eq h rfl rfl)
  · exact h.resumeOpened
  · exact h

theorem takeRequest {k : Nat} {auto keep : Bool} (h : s.Keeps u) (room : u.store.queue.length < 4) :
    s.Keeps (u.takeRequest k auto keep) := by
  have joined : s.Keeps ((((u.onStore fun st => { st with page := if st.lesson.isSome then st.nextPage else st.page
      }).onStore fun st => { st with queue := st.queue ++ [u.buildRequest k auto keep] }).onSlots
      (·.takeCopy (u.buildRequest k auto keep).slot)).requestStatus) :=
    { h with
      slots := fun hs => (SlotTable.sameStates_takeCopy _ _).sound (h.slots hs)
      queue := fun _ => by
        simp only [State.requestStatus_store, State.onSlots_store, State.onStore_store, List.length_append,
          List.length_singleton]
        omega
      zoom := fun hs => by
        obtain ⟨outA, outB, queue, catalog⟩ := h.zoom hs
        refine ⟨outA, outB, fun r hr => ?_, catalog⟩
        obtain hr | hr := List.mem_append.1 hr
        · exact queue r hr
        · rw [List.mem_singleton.1 hr]
          exact State.savedInRange_viewOfA outA }
  unfold State.takeRequest State.joinQueue
  dsimp only
  split
  · exact joined.nextRequest
  · exact joined

@[simp] theorem endWaitBy {p : Nat} (h : s.Keeps u) : s.Keeps (u.endWaitBy p) := by
  unfold State.endWaitBy
  split
  · exact nextRequest (onRec_of_eq h fun _ => rfl)
  · exact h

end
end State.Keeps

/-! ### RESTART -/

theorem savedInRange_freeRecs : ∀ (l : List Nat) (st : Store), (∀ r ∈ st.catalog, savedInRange r.view) →
    ∀ r ∈ (l.foldl (fun st p => st.freeRec p) st).catalog, savedInRange r.view
  | [], _, h => h
  | p :: l, st, h => savedInRange_freeRecs l (st.freeRec p) (savedInRange_modify p h fun _ _ => savedInRange_none)

namespace State.Keeps

section
variable {s u : State}

@[simp] theorem storeRestart (h : s.Keeps u) : s.Keeps u.storeRestart := by
  unfold State.storeRestart
  extract_lets copying s1 s2 s3
  split
  · have emptied : s.Keeps s1 := h.onStore (Nat.zero_le _) nofun fun ⟨_, _, _, catalog⟩ r hr => by
      obtain ⟨r', hr', rfl⟩ := List.mem_map.1 hr
      exact savedInRange_freeRecs copying u.store catalog r' hr'
    have released : s.Keeps s2 := emptied.onSlots (SlotTable.sameStates_dropCopies _ _).sound
    have written : s.Keeps s3 := requestRecords _ (released.onPath (Nat.zero_le _) fun _ => le_refl _)
    split
    · exact written
    · exact written.requestStatus
  · exact h

@[simp] theorem restartOwners {die : Int} (h : s.Keeps u) : s.Keeps (u.restartOwners die) :=
  outputRestart (outputRestart (storeRestart (monitorRestart (captureRestart (onSlots h fun _ =>
    SlotTable.sound_cleared _)))))

end
end State.Keeps
end Sys2Proof.Machine
end

section
/-! What every command keeps of the invariants, but for those that tie the monitor to capture. -/

namespace Sys2Proof.Machine

/-! ### Geometries and clamps -/

/-- A geometry CONFIGURE_CAPTURE does not refuse is legal (R53). -/
theorem CapGeom.legal_of_not_rangeBad {g : CapGeom} {region : Region} {s : State}
    (h : s.captureRangeBad g region = false) : g.Legal := by
  simp only [State.captureRangeBad, Bool.or_eq_false_iff, decide_eq_false_iff_not, not_or, Nat.not_lt, not_not] at h
  obtain ⟨⟨⟨⟨⟨⟨⟨⟨⟨⟨⟨⟨⟨⟨⟨⟨w, w', wmod⟩, high, high', hmod⟩, base⟩, -⟩, -⟩, -⟩, -⟩, -⟩, -⟩, -⟩, -⟩, -⟩, -⟩, -⟩, -⟩, -⟩ := h
  exact ⟨w, w', wmod, high, high', hmod, base⟩

theorem clamp_inRange {a b : Nat} (h : a ≤ b) (v : Nat) : a ≤ clamp a b v ∧ clamp a b v ≤ b := by
  rw [clamp_eq_max_min h]
  exact ⟨le_max_left _ _, max_le h (min_le_left _ _)⟩

/-- Nothing is refused: each condition named is false. -/
theorem firstRefusal_eq_none {l : List (Bool × Status)} : firstRefusal l = none ↔ ∀ c ∈ l, c.1 = false := by
  induction l with
  | nil => simp [firstRefusal]
  | cons c l ih =>
    obtain ⟨bad, st⟩ := c
    cases bad <;> simp [firstRefusal, ih]

namespace State.Keeps

variable {s : State}

/-! ### The rows of the upstream port -/

theorem straddle {t : Txn} : s.Keeps (s.present t (s.hasRoom t.dir) fun s => (s.forward t).raise .strayAccess) :=
  present (refl s) fun room => raise (enqueue (refl s).leaveUntaken (by rwa [State.hasRoom_leaveUntaken]))

theorem refuse {t : Txn} :
    s.Keeps (s.present t true fun s => (s.respond ⟨t.id, .write, .error, []⟩).raise .strayAccess) :=
  present (refl s) fun _ => raise (respond (refl s).leaveUntaken)

theorem joinEngine {t : Txn} {x : OutId} {q : QueuedRead} :
    s.Keeps (s.present t true fun s => s.onOut x fun e => { e with queue := e.queue ++ [q] }) :=
  present (refl s) fun _ => onOut_of_eq (refl s).leaveUntaken rfl

theorem redirect {t : Txn} {off : Nat} (dir : t.dir = .read) :
    s.Keeps (s.present t (s.hasRoom .read) fun s => s.enqueue t (s.redirected t off)) :=
  present (refl s) fun room => enqueue (refl s).leaveUntaken (by rwa [State.hasRoom_leaveUntaken, dir])

end State.Keeps

/-! ### The commands -/

/-- A row of the upstream port goes on only with a transaction of its own form. -/
theorem ends_if_next {P : State → Prop} {b : Bool} {t : State} {r : Refusal} (h : b = true → P t) :
    Ends P (if b then .next t else .refused r) := by
  split
  next legal => exact (ends_next _).2 (h legal)
  next => exact ends_refused _

theorem exec_keeps (c : Instr) (s : State) (noReset : ∀ n, c ≠ .resetN n) : Ends s.Keeps (exec c s) := by
  have same := State.Keeps.refl s
  cases c with
  | resetN n => exact absurd rfl (noReset n)
  | forwardedTransaction t => exact ends_if_next fun _ => same.otherwise
  | straddlingAccess t =>
    refine ends_if_next fun _ => ?_
    split
    · exact State.Keeps.straddle
    · exact same.otherwise
  | outputWindowWrite t =>
    refine ends_if_next fun _ => ?_
    split
    · exact State.Keeps.refuse
    · exact same.otherwise
  | outputWindowRead t =>
    refine ends_if_next fun _ => ?_
    split
    · exact State.Keeps.joinEngine
    · exact same.otherwise
  | captureWindowRead t =>
    refine ends_if_next fun legal => ?_
    split
    · exact State.Keeps.redirect (of_decide_eq_true (Bool.and_eq_true_iff.1 legal).2)
    · exact same.otherwise
  | captureWrite t die =>
    refine ends_if_next fun _ => ?_
    repeat' split
    · exact same.holdUntaken
    · exact same.captureWrite
    · exact same.otherwise
  | frameStart t die =>
    refine ends_if_next fun legal => ?_
    split
    next geom =>
      split
      · exact same.frameStart geom (Txn.length_le_of_legal (Bool.and_eq_true_iff.1 legal).1)
      · exact same.holdUntaken
    next => exact same.otherwise
  | classBResponse _ _ _ _ | chromaWriteResponse _ _ | submitWord _ | acknowledgeWord _ | noticeRecordRead
  | statusRecordRead | downstreamGrant =>
    simp only [exec, execClassBResponse, execChromaWriteResponse, execSubmitWord, execAcknowledgeWord,
      execNoticeRecordRead, execStatusRecordRead, execDownstreamGrant]
    repeat' split
    all_goals simp
  | sourceRowFetchResponse x _ _ _ =>
    simp only [exec, execSourceRowFetchResponse]
    repeat' split
    · simp
    · simp
    · exact (ends_unlessHalted _ _).2 ⟨fun _ => same, fun _ => same.onOut_of_eq rfl⟩
    · exact (ends_unlessHalted _ _).2 ⟨fun _ => same, fun _ => same.onOut_of_eq (Engine.fetches_fetchReturned _ _ _ _).view⟩
  | directiveFetchResponse _ _ | resumeReadResponse _ _ | chunkReadResponse _ _ _ | unknownDirectiveType _ =>
    simp only [exec, execDirectiveFetchResponse, execResumeReadResponse, execChunkReadResponse,
      execUnknownDirectiveType]
    repeat' split
    all_goals first | exact ends_refused _ | exact (ends_next _).2 same |
      refine (ends_unlessHalted _ _).2 ⟨fun _ => same, fun _ => ?_⟩
    all_goals simp
  | outputReadServed x =>
    simp only [exec, execOutputReadServed]
    refine (ends_unlessHalted _ _).2 ⟨fun _ => same, fun _ => ?_⟩
    repeat' split
    · exact same
    · exact same.ensureRows (by assumption)
    · exact .finishLeaving (.respond (.onOut_of_eq (same.ensureRows (by assumption)) rfl))
    · exact same
  | setEnhance gain coring levelling darkFloor =>
    simp only [exec, execSetEnhance]
    refine (ends_unlessHalted _ _).2 ⟨fun _ => same, fun _ => ?_⟩
    split
    · exact same.answer
    · refine .answer (same.onCap fun ⟨geom, _, live⟩ => ?_)
      have taken : Settings.InRange { gain := clamp 0 64 gain.toNat, coring := clamp 0 31 coring.toNat
                                      levelling := levellingOf levelling, darkFloor := clamp 32 128 darkFloor.toNat } :=
        ⟨(clamp_inRange (Nat.zero_le 64) _).2, (clamp_inRange (Nat.zero_le 31) _).2,
          clamp_inRange (a := 32) (b := 128) (by decide) _⟩
      refine ⟨geom, taken, ?_⟩
      dsimp only
      split
      · exact live
      · exact taken
  | setView sel flip zt ramp cx cy =>
    simp only [exec, execSetView]
    refine (ends_unlessHalted _ _).2 ⟨fun _ => same, fun _ => ?_⟩
    repeat' split
    · exact same.touch.answer
    · exact same.touch.answer
    · refine .answer (same.touch.onOut fun ⟨_, _, low, high, _⟩ => ?_)
      obtain ⟨lowT, highT⟩ := clamp_inRange (a := 256) (b := 2048) (by decide) zt.toNat
      exact ⟨lowT, highT, low, high, (clamp_inRange (Nat.zero_le 1792) _).2⟩
  | configureOutput _ _ _ _ =>
    simp only [exec, execConfigureOutput]
    refine (ends_unlessHalted _ _).2 ⟨fun _ => same, fun _ => ?_⟩
    repeat' split
    · exact same.answer
    · exact same.answer
    · exact .answer (same.onOut_of_eq rfl)
  | enableOutput _ =>
    simp only [exec, execEnableOutput]
    refine (ends_unlessHalted _ _).2 ⟨fun _ => same, fun _ => ?_⟩
    repeat' split
    · exact same.touch.answer
    · exact .answer (same.touch.onOut_of_eq rfl)
    · exact same.touch.answer
  | disableOutput _ =>
    simp only [exec, execDisableOutput]
    refine (ends_unlessHalted _ _).2 ⟨fun _ => same, fun _ => ?_⟩
    repeat' split
    · exact same.answer
    · exact .finishLeaving (same.accept.onOut_of_eq rfl)
    · exact same.answer
  | live _ =>
    simp only [exec, execLive]
    refine (ends_unlessHalted _ _).2 ⟨fun _ => same, fun _ => ?_⟩
    split
    · exact same.touch.answer
    · exact .answer (same.touch.dropFreeze.onOut_of_eq rfl)
  | freeze _ =>
    simp only [exec, execFreeze]
    refine (ends_unlessHalted _ _).2 ⟨fun _ => same, fun _ => ?_⟩
    repeat' split
    · exact same.touch.answer
    · exact .answer (.onOut_of_eq (same.touch.onSlots (SlotTable.sameStates_takeFreeze _ _ _).sound) rfl)
    · exact same.touch.answer
    · exact same.touch.answer
  | blank _ =>
    simp only [exec, execBlank]
    refine (ends_unlessHalted _ _).2 ⟨fun _ => same, fun _ => ?_⟩
    split
    · exact same.answer
    · exact .answer (.onMon_of_eq (same.dropFreeze.onOut_of_eq rfl) fun _ => Monitor.setHold_inbox _ _ _)
  | recallEntry _ _ pos =>
    simp only [exec, execRecall]
    refine (ends_unlessHalted _ _).2 ⟨fun _ => same, fun _ => ?_⟩
    repeat' split
    · exact same.touch.answer
    · exact same.touch.answer
    next x _ _ _ =>
      have marked : s.Keeps ((s.touch.dropFreeze x).onStore (·.onRec pos.toNat (Rec.setRecall x true))) :=
        same.touch.dropFreeze.onRec_of_eq (Rec.setRecall_view x true)
      refine .answer (marked.onView fun hs => ?_)
      obtain ⟨-, -, -, catalog⟩ := same.touch.zoom hs
      exact View.inRange_recalled ((marked.zoom hs).view x) (Store.savedInRange_recAt catalog _)
  | configureCapture w h window region =>
    simp only [exec, execConfigureCapture]
    refine (ends_unlessHalted _ _).2 ⟨fun _ => same, fun _ => ?_⟩
    split
    · exact same.answer
    next none =>
      have fits := firstRefusal_eq_none.1 none
      exact .answer (same.takeConfigure (CapGeom.legal_of_not_rangeBad (fits _ (List.mem_cons_of_mem _ List.mem_cons_self))))
  | startCapture =>
    simp only [exec, execStartCapture]
    refine (ends_unlessHalted _ _).2 ⟨fun _ => same, fun _ => ?_⟩
    split
    · exact same.answer
    · exact .answer (.requestStatus (.monitorStart (same.onCap id)))
  | lumaWriteResponse _ _ =>
    simp only [exec, execLumaWriteResponse]
    refine (ends_unlessHalted _ _).2 ⟨fun _ => same, fun _ => ?_⟩
    repeat' split
    · exact same
    · exact .lumaError (same.onCap id)
    · exact same.onCap id
  | frameCompletion _ =>
    simp only [exec, execFrameCompletion]
    refine (ends_unlessHalted _ _).2 ⟨fun _ => same, fun _ => ?_⟩
    split
    · exact .finishStopping (.frameEnded (same.onSlots SlotTable.sound_complete))
    · exact same
  | tearFinished _ =>
    simp only [exec, execTearFinished]
    refine (ends_unlessHalted _ _).2 ⟨fun _ => same, fun _ => ?_⟩
    split
    · exact same.tearEnded.finishStopping.finishRestart
    · exact same
  | waitLimitTimeout =>
    simp only [exec, execWaitLimitTimeout]
    refine (ends_unlessHalted _ _).2 ⟨fun _ => same, fun _ => ?_⟩
    repeat' split
    · exact .nextRequest (.popHead (same.onRec_of_eq fun _ => rfl))
    · exact same
    · exact same
  | autoRequest =>
    simp only [exec, execAutoRequest]
    refine (ends_unlessHalted _ _).2 ⟨fun _ => same, fun _ => ?_⟩
    have taken (rest : List AutoRequest) : s.Keeps (s.onMon fun m => { m with autoRequests := rest }) :=
      same.onMon_of_eq fun _ => rfl
    repeat' split
    · exact same
    · exact (taken _).tellMonitor
    next room =>
      simp only [State.autoRefused, Bool.or_eq_true, decide_eq_true_eq, not_or, Config.snapshotDepth] at room
      exact .tellMonitor ((taken _).takeRequest (Nat.lt_of_not_le fun full => room.2 (decide_eq_true full)))
  | autoAnswer =>
    simp only [exec, execAutoAnswer]
    refine (ends_unlessHalted _ _).2 ⟨fun _ => same, fun _ => ?_⟩
    have heard (n : MonNotice) (rest : List MonNotice) :
        s.Keeps (s.onMon fun m => Monitor.hearLeading rest (m.hear n)) :=
      same.onMon fun _ _ => Monitor.inboxSound_hearLeading _ _
    repeat' split
    · exact same
    · exact (heard _ _).raise
    · exact heard _ _
  | openStore _ _ _ _ _ =>
    simp only [exec, execOpenStore]
    refine (ends_unlessHalted _ _).2 ⟨fun _ => same, fun _ => ?_⟩
    repeat' split
    · exact same.answer
    · exact .writeNewStore (.answer (.openEmpty (same.onStore_of_eq rfl rfl)))
    · exact .onStore_of_eq same.accept.beginResume rfl rfl
  | closeStore =>
    simp only [exec, execCloseStore]
    refine (ends_unlessHalted _ _).2 ⟨fun _ => same, fun _ => ?_⟩
    split
    · exact same.answer
    · exact .answer (.requestStatus (.onCatalog same.onRecs rfl fun _ _ hr => absurd hr List.not_mem_nil))
  | beginLesson =>
    simp only [exec, execBeginLesson]
    refine (ends_unlessHalted _ _).2 ⟨fun _ => same, fun _ => ?_⟩
    split
    · exact same.answer
    · exact .answer (.tellMonitor (.request (same.onStore_of_eq rfl rfl)))
  | endLesson =>
    simp only [exec, execEndLesson]
    refine (ends_unlessHalted _ _).2 ⟨fun _ => same, fun _ => ?_⟩
    split
    · exact same.answer
    · exact .answer (same.onStore_of_eq rfl rfl)
  | snapshot source keep =>
    simp only [exec, execSnapshot]
    refine (ends_unlessHalted _ _).2 ⟨fun _ => same, fun _ => ?_⟩
    split
    · exact same.touch.answer
    next none =>
      have room := firstRefusal_eq_none.1 none (decide (Config.snapshotDepth ≤ s.touch.store.queue.length), .refusedFull)
        (by simp)
      have joined (k : Nat) := same.touch.takeRequest (k := k) (auto := false) (keep := decide (keep = 1))
        (Nat.lt_of_not_le (of_decide_eq_false room))
      split
      · exact .answer (.tellMonitor (joined _))
      · exact .answer (joined _)
  | claim _ =>
    simp only [exec, execClaim]
    refine (ends_unlessHalted _ _).2 ⟨fun _ => same, fun _ => ?_⟩
    split
    · exact same.answer
    · exact .answer (same.onRec_of_eq fun _ => rfl)
  | release _ =>
    simp only [exec, execRelease]
    refine (ends_unlessHalted _ _).2 ⟨fun _ => same, fun _ => ?_⟩
    repeat' split
    · exact same.answer
    · exact .answer (same.unmark fun _ => rfl)
    · exact same.answer
  | keep _ =>
    simp only [exec, execKeep]
    refine (ends_unlessHalted _ _).2 ⟨fun _ => same, fun _ => ?_⟩
    split
    · exact same.answer
    · exact .answer (.endWaitBy (.request (same.onRec_of_eq fun _ => rfl)))
  | unkeep _ =>
    simp only [exec, execUnkeep]
    refine (ends_unlessHalted _ _).2 ⟨fun _ => same, fun _ => ?_⟩
    split
    · exact same.answer
    · exact .answer (.request (same.onRec_of_eq fun _ => rfl))
  | delete _ =>
    simp only [exec, execDelete]
    refine (ends_unlessHalted _ _).2 ⟨fun _ => same, fun _ => ?_⟩
    split
    · exact same.answer
    · exact same.freeRec.request.requestStatus.answer
  | setNotice threshold _ _ =>
    simp only [exec, execSetNotice]
    refine (ends_unlessHalted _ _).2 ⟨fun _ => same, fun _ => ?_⟩
    exact .answer (.request (same.onNotice fun _ ⟨_, place⟩ => ⟨(clamp_inRange (Nat.zero_le 7) _).2, place⟩))
  | restart _ =>
    simp only [exec, execRestart]
    exact (ends_unlessHalted _ _).2 ⟨fun _ => same,
      fun _ => .finishRestart (.restartOwners (same.accept.onRing fun _ hr => hr))⟩
  | _ =>
    simp only [exec, execOutputFrameStart, execLossCountGrant, execDirectiveStatusWriteResponse,
      execRecordWriteResponse, execChunkWriteResponse, execStopCapture, execSetMonitor, execWake]
    refine (ends_unlessHalted _ _).2 ⟨fun _ => same, fun _ => ?_⟩
    repeat' split
    all_goals simp

end Sys2Proof.Machine
end

section
/-! The monitor's state and its hold list (R87, R97, R98): what the standby hold, the wake and a stop make of them, and the two
invariants that tie the monitor to capture. -/

namespace Sys2Proof.Machine

/-! ### The hold list -/

@[simp] theorem Monitor.setHold_state (x : OutId) (v : Bool) (m : Monitor) : (m.setHold x v).state = m.state := by
  cases x <;> rfl

theorem Monitor.onHold_setHold (x y : OutId) (v : Bool) (m : Monitor) :
    (m.setHold x v).onHold y = if y = x then v else m.onHold y := by cases x <;> cases y <;> rfl

theorem Monitor.setHold_of_eq {x : OutId} {v : Bool} {m : Monitor} (h : m.onHold x = v) : m.setHold x v = m := by
  cases x <;> cases h <;> rfl

/-- The monitor with an empty hold list. -/
def Monitor.unheld (m : Monitor) : Monitor := { m with holdA := false, holdB := false }

@[simp] theorem Monitor.onHold_unheld (x : OutId) (m : Monitor) : m.unheld.onHold x = false := by cases x <;> rfl

@[simp] theorem State.unholdOutput_mon (x : OutId) (s : State) : (s.unholdOutput x).mon = s.mon.setHold x false := by
  unfold State.unholdOutput
  split
  · extract_lets s1
    have same : s1.mon = s.mon := by
      unfold s1
      split <;> simp
    rw [State.onMon_mon, same]
  next free => exact (Monitor.setHold_of_eq (by simpa using free)).symm

@[simp] theorem State.unholdAll_mon (s : State) : s.unholdAll.mon = s.mon.unheld := by
  simp [State.unholdAll, Monitor.setHold, Monitor.unheld]

@[simp] theorem State.wakeActive_mon (s : State) : s.wakeActive.mon =
    { s.mon with state := .active, idle := 0, scan := 0, presence := 0, holdA := false, holdB := false } := by
  simp [State.wakeActive, Monitor.unheld]

theorem State.touch_of_standby {s : State} (h : s.mon.state = .standby) : s.touch = s.wakeActive := if_pos h

theorem State.touch_of_not_standby {s : State} (h : s.mon.state ≠ .standby) :
    s.touch = s.onMon fun m => { m with idle := 0 } := if_neg h

@[simp] theorem State.wakeMotion_mon (sig : Signature) (s : State) : (s.wakeMotion sig).mon =
    { s.mon with state := .motion, previous := some sig.means, stable := 0, idle := 0, scan := 0, presence := 0
                 holdA := false, holdB := false } := by
  simp [State.wakeMotion, Monitor.unheld]

@[simp] theorem State.monitorStop_mon (s : State) : s.monitorStop.mon =
    { s.mon with state := .off, previous := none, stable := 0, scan := 0, presence := 0, holdA := false, holdB := false } := by
  unfold State.monitorStop
  dsimp only
  split <;> simp [Monitor.unheld]

@[simp] theorem State.monitorRestart_mon (s : State) : s.monitorRestart.mon = s.mon.restart := by
  unfold State.monitorRestart
  dsimp only
  split <;> simp

/-! ### The monitor follows capture -/

/-- What the two invariants speak of: whether capture runs, the monitor's state, its hold list. -/
def State.monView (s : State) : Bool × MonState × Bool × Bool :=
  (s.cap.running, s.mon.state, s.mon.holdA, s.mon.holdB)

theorem Monitor.holdsOnlyInStandby_iff (m : Monitor) : m.HoldsOnlyInStandby ↔
    (m.holdA = true → m.state = .standby) ∧ (m.holdB = true → m.state = .standby) :=
  ⟨fun h => ⟨h .a, h .b⟩, fun ⟨a, b⟩ x => by cases x; exacts [a, b]⟩

/-- R87 and R98 hold in `t` when they hold in `s`. -/
structure State.KeepsMonitor (s t : State) : Prop where
  follows : s.MonitorFollowsCapture → t.MonitorFollowsCapture
  holds : s.MonitorFollowsCapture → s.mon.HoldsOnlyInStandby → t.mon.HoldsOnlyInStandby

namespace State.KeepsMonitor

variable {s t u : State}

@[simp] theorem refl (s : State) : s.KeepsMonitor s := ⟨id, fun _ => id⟩

theorem of_view (h : s.KeepsMonitor u) (same : t.monView = u.monView) : s.KeepsMonitor t := by
  simp only [State.monView, Prod.mk.injEq] at same
  obtain ⟨running, state, holdA, holdB⟩ := same
  constructor
  · intro hs
    simpa only [State.MonitorFollowsCapture, running, state] using h.follows hs
  · intro hs hold
    simpa only [Monitor.holdsOnlyInStandby_iff, state, holdA, holdB] using h.holds hs hold

/-- Between two states but OFF nothing is held outside STANDBY. -/
theorem of_state (h : s.KeepsMonitor u) (running : t.cap.running = u.cap.running)
    (off : t.mon.state = .off ↔ u.mon.state = .off) (holds : u.mon.HoldsOnlyInStandby → t.mon.HoldsOnlyInStandby) :
    s.KeepsMonitor t :=
  ⟨fun hs => by simpa only [State.MonitorFollowsCapture, running, ne_eq, off] using h.follows hs,
    fun hs hold => holds (h.holds hs hold)⟩

end State.KeepsMonitor

theorem Monitor.holdsOnlyInStandby_of_none {m : Monitor} (a : m.holdA = false) (b : m.holdB = false) :
    m.HoldsOnlyInStandby := (m.holdsOnlyInStandby_iff).2 ⟨by simp [a], by simp [b]⟩

/-- Outside STANDBY nothing is held. -/
theorem Monitor.HoldsOnlyInStandby.none {m : Monitor} (h : m.HoldsOnlyInStandby) (other : m.state ≠ .standby) :
    m.holdA = false ∧ m.holdB = false := by
  obtain ⟨a, b⟩ := (m.holdsOnlyInStandby_iff).1 h
  exact ⟨by simpa using mt a other, by simpa using mt b other⟩

/-! ### Evaluated frames -/

@[simp] theorem State.holdOutput_state (x : OutId) (s : State) : (s.holdOutput x).mon.state = s.mon.state := by
  unfold State.holdOutput
  repeat' split
  all_goals simp

@[simp] theorem State.enterStandby_state (s : State) : s.enterStandby.mon.state = .standby := by
  simp [State.enterStandby]

/-- The auto-snapshot test touches neither the state nor the hold list. -/
theorem State.autoTest_monView (sig : Signature) (s : State) : (s.autoTest sig).monView = s.monView := by
  unfold State.autoTest
  dsimp only
  repeat' split
  all_goals simp [State.monView, State.requestAuto, Monitor.tookScore]

namespace State.KeepsMonitor

variable {s t u : State}

/-- The monitor moves between two states that are not OFF: nothing stays held outside STANDBY. -/
theorem moves (h : s.KeepsMonitor u) (running : t.cap.running = u.cap.running) (fromOff : u.mon.state ≠ .off)
    (toOff : t.mon.state ≠ .off) (holds : t.mon.state = .standby ∨ (t.mon.holdA = false ∧ t.mon.holdB = false)
      ∨ (u.mon.state ≠ .standby ∧ t.mon.holdA = u.mon.holdA ∧ t.mon.holdB = u.mon.holdB)) : s.KeepsMonitor t := by
  refine h.of_state running (by simp [fromOff, toOff]) fun old => ?_
  obtain standby | ⟨holdA, holdB⟩ | ⟨awake, holdA, holdB⟩ := holds
  · exact fun _ _ => standby
  · exact Monitor.holdsOnlyInStandby_of_none holdA holdB
  · obtain ⟨a, b⟩ := old.none awake
    exact Monitor.holdsOnlyInStandby_of_none (holdA.trans a) (holdB.trans b)

theorem motionFrame {sig : Signature} (h : s.KeepsMonitor u) (motion : u.mon.state = .motion) :
    s.KeepsMonitor (u.motionFrame sig) := by
  have settles (v : State) (view : v.monView = u.monView) : s.KeepsMonitor
      ((((v.onMon fun m => { m with reference := some sig.means, state := .active, idle := 0 }).writeSignature sig
        .previous).raise .pageSettled).autoTest sig).requestStatus := by
    have view' := State.autoTest_monView sig (((v.onMon fun m =>
      { m with reference := some sig.means, state := .active, idle := 0 }).writeSignature sig .previous).raise .pageSettled)
    simp only [State.monView, State.raise_cap, State.raise_mon, State.writeSignature_cap, State.writeSignature_mon,
      State.onMon_cap, State.onMon_mon, Prod.mk.injEq] at view' view
    obtain ⟨running, -, holdA, holdB⟩ := view
    obtain ⟨running', state', holdA', holdB'⟩ := view'
    refine h.moves (running'.trans running) (by simp [motion]) (by simp [state']) (.inr (.inr ?_))
    exact ⟨by simp [motion], holdA'.trans holdA, holdB'.trans holdB⟩
  unfold State.motionFrame
  split
  · exact h.of_view rfl
  · extract_lets sc stable s1
    split
    · exact settles s1 rfl
    · exact h.of_view rfl

theorem activeFrame {sig : Signature} (h : s.KeepsMonitor u) (active : u.mon.state = .active) :
    s.KeepsMonitor (u.activeFrame sig) := by
  unfold State.activeFrame
  split
  · exact h
  · extract_lets sc s1 idle s2
    split
    · refine h.moves (by simp [s1]) (by simp [active]) (by simp) (.inr (.inr ?_))
      simp [active, s1, Monitor.tookScore]
    · split
      · exact h.moves (by simp [s2, s1]) (by simp [active]) (by simp) (.inl (by simp))
      · exact h.of_view rfl

theorem standbyFrame {sig : Signature} (h : s.KeepsMonitor u) (standby : u.mon.state = .standby) :
    s.KeepsMonitor (u.standbyFrame sig) := by
  unfold State.standbyFrame
  extract_lets scan
  split
  · split
    · exact h.of_view rfl
    · extract_lets sc s1
      split
      · exact h.moves (by simp [s1]) (by simp [standby]) (by simp) (.inr (.inl (by simp)))
      · split
        · exact h.of_view (by simp [State.monView, s1, Monitor.tookScore])
        · exact h.of_view rfl
  · exact h.of_view rfl

@[simp] theorem receiveSignature {sig : Signature} (h : s.KeepsMonitor u) : s.KeepsMonitor (u.receiveSignature sig) := by
  have last : s.KeepsMonitor (u.onMon fun m => { m with last := some sig }) := h.of_view rfl
  unfold State.receiveSignature
  extract_lets s1
  split
  · exact h
  next motion => exact last.motionFrame motion
  next active => exact last.activeFrame active
  next standby => exact last.standbyFrame standby

/-! ### Wakes, stops and starts -/

theorem wakeActive (h : s.KeepsMonitor u) (standby : u.mon.state = .standby) : s.KeepsMonitor u.wakeActive :=
  h.moves (by simp) (by simp [standby]) (by simp) (.inr (.inl (by simp)))

@[simp] theorem touch (h : s.KeepsMonitor u) : s.KeepsMonitor u.touch := by
  unfold State.touch
  split
  next standby => exact h.wakeActive standby
  next => exact h.of_view rfl

/-- Capture is STOPPED and the monitor OFF with nothing held. -/
theorem stopped (running : t.cap.running = false) (off : t.mon.state = .off) (holdA : t.mon.holdA = false)
    (holdB : t.mon.holdB = false) : s.KeepsMonitor t :=
  ⟨fun _ => by simp [State.MonitorFollowsCapture, running, off], fun _ _ =>
    Monitor.holdsOnlyInStandby_of_none holdA holdB⟩

theorem finishStop : s.KeepsMonitor u.finishStop :=
  stopped (by simp [State.finishStop]) (by simp [State.finishStop]) (by simp [State.finishStop])
    (by simp [State.finishStop])

@[simp] theorem finishStopping (h : s.KeepsMonitor u) : s.KeepsMonitor u.finishStopping := by
  unfold State.finishStopping
  split
  · exact finishStop
  · exact h

@[simp] theorem giveSignature (h : s.KeepsMonitor u) : s.KeepsMonitor u.giveSignature := by
  unfold State.giveSignature
  split
  · exact h
  · exact h.receiveSignature

@[simp] theorem updateWhiteMap (h : s.KeepsMonitor u) : s.KeepsMonitor u.updateWhiteMap := by
  unfold State.updateWhiteMap
  split
  · exact h
  · exact h.of_view rfl

@[simp] theorem frameEnded {die : Int} (h : s.KeepsMonitor u) : s.KeepsMonitor (u.frameEnded die) :=
  h.updateWhiteMap.giveSignature.of_view (by simp [State.frameEnded, State.monView])

@[simp] theorem receiptEnd {g : CapGeom} {endOff : Nat} {die : Int} (h : s.KeepsMonitor u) :
    s.KeepsMonitor (u.receiptEnd g endOff die) := by
  unfold State.receiptEnd
  repeat' split
  · exact h.frameEnded
  · exact h.of_view rfl
  · exact h

@[simp] theorem takeMonitorSettings {n : MonSettings} (h : s.KeepsMonitor u) :
    s.KeepsMonitor (u.takeMonitorSettings n) := by
  unfold State.takeMonitorSettings
  extract_lets s1
  split
  next leaves =>
    exact h.moves (by simp [s1]) (by simp [leaves.1]) (by simp [Monitor.unheld]) (.inr (.inl (by simp [Monitor.unheld])))
  next => exact h.of_view rfl

end State.KeepsMonitor

end Sys2Proof.Machine
end

section
/-! Every command keeps the monitor tied to capture (R87) and its hold list empty outside STANDBY (R98); with what the commands
keep of the other invariants, every step keeps them all. -/

namespace Sys2Proof.Machine

/-! ### What the frames and the capture directives leave of capture and the monitor -/

@[simp] theorem State.degradeFrame_monView (s : State) : s.degradeFrame.monView = s.monView := by
  unfold State.degradeFrame
  split
  · rfl
  · simp [State.monView]

theorem Capture.BuffersTo.running {c c' : Capture} (h : c.BuffersTo c') : c'.running = c.running := by
  obtain ⟨_, _, _, rfl⟩ := h
  rfl

@[simp] theorem State.breakOrder_monView (g : CapGeom) (s : State) : (s.breakOrder g).monView = s.monView := by
  unfold State.breakOrder
  extract_lets s1
  have degraded : s1.monView = s.monView := State.degradeFrame_monView _
  repeat' split
  · rfl
  · exact degraded
  · rw [← degraded]
    simp [State.monView, (Capture.flush_buffers g.w s.frameBase s1.cap).running]

@[simp] theorem State.fillRequest_monView (s : State) : s.fillRequest.monView = s.monView := by
  unfold State.fillRequest
  dsimp only
  split
  · rfl
  · simp [State.monView]

@[simp] theorem State.startFrame_monView (s : State) : s.startFrame.monView = s.monView :=
  State.fillRequest_monView _

@[simp] theorem State.tearEnded_monView (die : Int) (s : State) : (s.tearEnded die).monView = s.monView := by
  simp [State.tearEnded, State.captureFrameEnd, State.monView]

@[simp] theorem State.lumaError_monView (addr : Nat) (s : State) : (s.lumaError addr).monView = s.monView := by
  unfold State.lumaError
  split
  · rfl
  · rw [State.degradeFrame_monView]
    simp [State.monView]

@[simp] theorem State.captureRestart_running (die : Int) (s : State) : (s.captureRestart die).cap.running = false := by
  unfold State.captureRestart
  extract_lets active s1 s2
  have written : s2.cap.running = false := by
    unfold s2
    split
    · simp [s1, Capture.restart, Capture.reset]
    · simp [s1, Capture.restart, Capture.reset]
  split
  · exact (congrArg Prod.fst (State.tearEnded_monView die s2)).trans written
  · exact written

/-- A notice acts on the saved signature alone (R90, R100). -/
theorem Monitor.hear_eq (n : MonNotice) (m : Monitor) : ∃ saved, m.hear n = { m with saved := saved } := by
  unfold Monitor.hear
  repeat' split
  all_goals exact ⟨_, rfl⟩

/-- Notices heard leave the monitor but for its saved signature and its inbox. -/
theorem Monitor.hearLeading_eq : ∀ (l : List MonNotice) (m : Monitor),
    ∃ saved inbox, Monitor.hearLeading l m = { m with saved := saved, inbox := inbox }
  | [], m => ⟨_, _, rfl⟩
  | n :: l, m => by
    unfold Monitor.hearLeading
    split
    · exact ⟨_, _, rfl⟩
    · obtain ⟨_, heard⟩ := Monitor.hear_eq n m
      obtain ⟨_, _, rest⟩ := Monitor.hearLeading_eq l (m.hear n)
      exact ⟨_, _, rest.trans (by rw [heard])⟩

theorem State.hearLeading_monView (l : List MonNotice) (s : State) :
    (s.onMon (Monitor.hearLeading l)).monView = s.monView := by
  obtain ⟨_, _, heard⟩ := Monitor.hearLeading_eq l s.mon
  simp [State.monView, heard]

@[simp] theorem State.tellMonitor_monView (n : MonNotice) (s : State) : (s.tellMonitor n).monView = s.monView :=
  State.hearLeading_monView _ s

@[simp] theorem State.chromaError_monView (e : FwdEntry) (s : State) : (s.chromaError e).monView = s.monView := by
  unfold State.chromaError
  split
  · rfl
  · simp [State.monView]

@[simp] theorem State.grant_monView (k : GrantClass) (s : State) : (s.grant k).monView = s.monView := by
  unfold State.grant State.issue
  cases k
  · simp [State.monView]
  · rfl
  · simp only [State.monView, State.onPath_cap, State.onPath_mon, State.onCap_cap, State.onCap_mon]
    unfold Capture.grantLuma
    split
    · rfl
    next w rest _ =>
      rw [(Capture.lumaGranted_buffers w.place
        { s.cap with lumaWaiting := rest, lumaFlight := s.cap.lumaFlight ++ [w] }).running]
  · simp [State.monView]
  · rfl

@[simp] theorem State.recordResponse_monView (which : RecFlight → Bool) (r : Resp) (s : State) :
    (s.recordResponse which r).monView = s.monView := by
  have latched (k : LatchId) (addr : Nat) (u : State) : (u.latched k addr r).monView = u.monView := by
    unfold State.latched
    repeat' split
    all_goals simp [State.monView]
  have retired (i : Nat) (u : State) : (u.statusWriteReturned i).monView = u.monView := by simp [State.monView]
  unfold State.recordResponse State.writeReturned
  dsimp only
  repeat' split
  · rfl
  · rfl
  · rw [retired, latched]
    rfl
  · exact latched _ _ _
  · rfl

namespace State.KeepsMonitor

variable {s u : State}

theorem present {t : Txn} {accepts : Bool} {take : State → State} (h : s.KeepsMonitor u)
    (taken : s.KeepsMonitor (take (u.leaveUntaken t))) : s.KeepsMonitor (u.present t accepts take) := by
  unfold State.present
  split
  · exact taken
  · exact h.of_view (by simp [State.monView])

theorem holdUntaken {t : Txn} (h : s.KeepsMonitor u) : s.KeepsMonitor (u.holdUntaken t) :=
  h.of_view (by simp [State.monView])

theorem leaveUntaken {t : Txn} (h : s.KeepsMonitor u) : s.KeepsMonitor (u.leaveUntaken t) :=
  h.of_view (by simp [State.monView])

theorem otherwise {t : Txn} (h : s.KeepsMonitor u) : s.KeepsMonitor (u.otherwise t) :=
  h.of_view (by simp [State.monView])

theorem answer {c : Instr} {st : Status} (h : s.KeepsMonitor u) : s.KeepsMonitor (u.answer c st) :=
  h.of_view (by simp [State.monView])

theorem frameWrite {t : Txn} {g : CapGeom} {off : Nat} {die : Int} (h : s.KeepsMonitor u) :
    s.KeepsMonitor (u.frameWrite t g off die) := by
  rw [State.frameWrite_eq]
  have ordered : s.KeepsMonitor (if off = u.cap.expected then u else u.breakOrder g) := by
    split
    · exact h
    · exact h.of_view (State.breakOrder_monView g u)
  obtain ⟨sums, whites, places, next, waiting, written⟩ := Capture.written_eq g u.frameBase off t.len
    (g.lumaPart off t.data) (if off = u.cap.expected then u else u.breakOrder g).cap
  refine receiptEnd (ordered.of_view ?_)
  simp [State.monView, written]

theorem captureWrite {t : Txn} {g : CapGeom} {off : Nat} {die : Int} (h : s.KeepsMonitor u) :
    s.KeepsMonitor (u.captureWrite t g off die) := by
  unfold State.captureWrite
  repeat' split
  · exact h.holdUntaken
  · exact h.present h.leaveUntaken.frameWrite
  · exact h.present (h.of_view (by simp [State.monView, State.strayWrite]))
  · exact h.present (h.of_view (by simp [State.monView, State.strayWrite]))

theorem frameStart {t : Txn} {g : CapGeom} {die : Int} (h : s.KeepsMonitor u) :
    s.KeepsMonitor (u.frameStart t g die) := by
  have torn : s.KeepsMonitor u.tearFrame := h.of_view rfl
  have start {v : State} (hv : s.KeepsMonitor v) : s.KeepsMonitor (v.startFrame.frameWrite t g 0 die) :=
    (hv.of_view (State.startFrame_monView v)).frameWrite
  unfold State.frameStart
  dsimp only
  repeat' split
  · exact h.holdUntaken
  · exact h.present (start h.leaveUntaken)
  · exact h.holdUntaken
  · exact start (torn.of_view (State.tearEnded_monView die _)).leaveUntaken
  · exact torn.holdUntaken
  · exact h.holdUntaken

theorem takeStop {die : Int} (h : s.KeepsMonitor u) : s.KeepsMonitor (u.takeStop die) := by
  unfold State.takeStop
  dsimp only
  repeat' split
  · exact h.of_view rfl
  · exact finishStop
  · exact h.of_view rfl
  · exact finishStop
  · exact h.of_view rfl

theorem monitorStart (h : s.KeepsMonitor u) (stopped : u.cap.running = false) :
    s.KeepsMonitor (State.monitorStart (u.onCap fun c => { c with running := true, tracker := .none })) := by
  refine ⟨fun _ => by simp [State.MonitorFollowsCapture, State.monitorStart], fun hs hold => ?_⟩
  have off : u.mon.state = .off := by
    by_contra other
    exact absurd ((h.follows hs).2 other) (by simp [stopped])
  obtain ⟨holdA, holdB⟩ := (h.holds hs hold).none (by simp [off])
  exact Monitor.holdsOnlyInStandby_of_none (by simp [State.monitorStart, holdA]) (by simp [State.monitorStart, holdB])

theorem setHold_false {x : OutId} (h : s.KeepsMonitor u) : s.KeepsMonitor (u.onMon (Monitor.setHold x false)) := by
  refine h.of_state rfl (by simp) fun hold y held => ?_
  rw [State.onMon_mon, Monitor.onHold_setHold] at held
  rw [State.onMon_mon, Monitor.setHold_state]
  split at held
  · exact absurd held Bool.false_ne_true
  · exact hold y held

theorem ensureRows {x : OutId} {rows : List (Plane × Nat)} {v : State} {o : Option (List (Plane × Nat × List Byte))}
    (h : s.KeepsMonitor u) (eq : u.ensureRows x rows = (v, o)) : s.KeepsMonitor v :=
  State.ensureRows_keeps (Q := s.KeepsMonitor) (fun _ _ _ _ h => h.of_view (by simp [State.monView]))
    (fun _ _ h => h.of_view (by simp [State.monView])) (fun _ _ _ h => h.of_view (by simp [State.monView]))
    rows u v o h eq

end State.KeepsMonitor

/-! ### The commands -/

theorem exec_keepsMonitor (c : Instr) (s : State) (noReset : ∀ n, c ≠ .resetN n) : Ends s.KeepsMonitor (exec c s) := by
  have same := State.KeepsMonitor.refl s
  cases c with
  | resetN n => exact absurd rfl (noReset n)
  | forwardedTransaction t => exact ends_if_next fun _ => same.otherwise
  | straddlingAccess t | outputWindowWrite t | outputWindowRead t | captureWindowRead t =>
    refine ends_if_next fun _ => ?_
    split
    · exact same.present (same.of_view (by simp [State.monView]))
    · exact same.otherwise
  | captureWrite t die =>
    refine ends_if_next fun _ => ?_
    repeat' split
    · exact same.holdUntaken
    · exact same.captureWrite
    · exact same.otherwise
  | frameStart t die =>
    refine ends_if_next fun _ => ?_
    repeat' split
    · exact same.frameStart
    · exact same.holdUntaken
    · exact same.otherwise
  | setMonitor delta k hold scan standby idle presence auto =>
    simp only [exec, execSetMonitor]
    refine (ends_unlessHalted _ _).2 ⟨fun _ => same, fun _ => ?_⟩
    split
    · exact same.answer
    · exact same.takeMonitorSettings.answer
  | wake =>
    simp only [exec, execWake]
    exact (ends_unlessHalted _ _).2 ⟨fun _ => same, fun _ => same.touch.answer⟩
  | startCapture =>
    simp only [exec, execStartCapture]
    refine (ends_unlessHalted _ _).2 ⟨fun _ => same, fun _ => ?_⟩
    split
    · exact same.answer
    next none =>
      have idle := firstRefusal_eq_none.1 none _ List.mem_cons_self
      simp only [Bool.or_eq_false_iff] at idle
      exact (same.monitorStart idle.2).of_view (by simp [State.monView])
  | stopCapture die =>
    simp only [exec, execStopCapture]
    refine (ends_unlessHalted _ _).2 ⟨fun _ => same, fun _ => ?_⟩
    split
    · exact same.answer
    · exact .takeStop (same.of_view (by simp [State.monView]))
  | tearFinished die =>
    simp only [exec, execTearFinished]
    refine (ends_unlessHalted _ _).2 ⟨fun _ => same, fun _ => ?_⟩
    split
    · exact (same.of_view (State.tearEnded_monView die s)).finishStopping.of_view (by simp [State.monView])
    · exact same
  | frameCompletion die =>
    simp only [exec, execFrameCompletion]
    refine (ends_unlessHalted _ _).2 ⟨fun _ => same, fun _ => ?_⟩
    split
    · exact .finishStopping (.frameEnded (same.of_view rfl))
    · exact same
  | restart die =>
    simp only [exec, execRestart]
    refine (ends_unlessHalted _ _).2 ⟨fun _ => same, fun _ => .stopped ?_ ?_ ?_ ?_⟩
    all_goals simp [State.restartOwners, Monitor.restart]
  | lumaWriteResponse addr r =>
    simp only [exec, execLumaWriteResponse]
    refine (ends_unlessHalted _ _).2 ⟨fun _ => same, fun _ => ?_⟩
    repeat' split
    · exact same
    · exact same.of_view (State.lumaError_monView addr _)
    · exact same.of_view rfl
  | downstreamGrant =>
    simp only [exec, execDownstreamGrant]
    refine (ends_next _).2 ?_
    split
    · exact same.of_view (State.grant_monView _ s)
    · exact same
  | lossCountGrant =>
    simp only [exec, execLossCountGrant]
    refine (ends_unlessHalted _ _).2 ⟨fun _ => same, fun _ => ?_⟩
    split
    · exact same.of_view (State.grant_monView _ s)
    · exact same
  | outputReadServed x =>
    simp only [exec, execOutputReadServed]
    refine (ends_unlessHalted _ _).2 ⟨fun _ => same, fun _ => ?_⟩
    repeat' split
    · exact same
    · exact same.ensureRows (by assumption)
    · exact (same.ensureRows (by assumption)).of_view (by simp [State.monView])
    · exact same
  | blank sel =>
    simp only [exec, execBlank]
    refine (ends_unlessHalted _ _).2 ⟨fun _ => same, fun _ => ?_⟩
    split
    · exact same.answer
    · exact .answer (.setHold_false (same.of_view (by simp [State.monView])))
  | snapshot source keep =>
    simp only [exec, execSnapshot]
    refine (ends_unlessHalted _ _).2 ⟨fun _ => same, fun _ => ?_⟩
    have joined (k : Nat) (keep : Bool) : s.KeepsMonitor (s.touch.takeRequest k false keep) :=
      same.touch.of_view (by simp [State.monView])
    repeat' split
    · exact same.touch.answer
    · exact ((joined _ _).of_view (State.tellMonitor_monView _ _)).answer
    · exact (joined _ _).answer
  | beginLesson =>
    simp only [exec, execBeginLesson]
    refine (ends_unlessHalted _ _).2 ⟨fun _ => same, fun _ => ?_⟩
    split
    · exact same.answer
    · exact .answer ((same.of_view (by simp [State.monView])).of_view (State.tellMonitor_monView _ _))
  | autoRequest =>
    simp only [exec, execAutoRequest]
    refine (ends_unlessHalted _ _).2 ⟨fun _ => same, fun _ => ?_⟩
    repeat' split
    · exact same
    · exact same.of_view (State.tellMonitor_monView _ _)
    · exact (same.of_view (by simp [State.monView])).of_view (State.tellMonitor_monView _ _)
  | autoAnswer =>
    simp only [exec, execAutoAnswer]
    refine (ends_unlessHalted _ _).2 ⟨fun _ => same, fun _ => ?_⟩
    have heard (n : MonNotice) (rest : List MonNotice) :
        s.KeepsMonitor (s.onMon fun m => Monitor.hearLeading rest (m.hear n)) := by
      obtain ⟨_, first⟩ := Monitor.hear_eq n s.mon
      refine (same.of_view (by simp [State.monView, first]) : s.KeepsMonitor (s.onMon (Monitor.hear n))).of_view ?_
      exact State.hearLeading_monView rest (s.onMon (Monitor.hear n))
    split
    · exact same
    next n rest _ =>
      split
      · exact (heard n rest).of_view (by simp [State.monView])
      · exact heard n rest
  | classBResponse d id r data =>
    simp only [exec, execClassBResponse]
    repeat' split
    · exact (ends_next _).2 same
    · exact ends_refused _
    · exact (ends_next _).2 (same.of_view (by simp [State.monView]))
    · exact (ends_next _).2 (same.of_view (by simp [State.monView]))
  | chromaWriteResponse id r =>
    simp only [exec, execChromaWriteResponse]
    split
    · exact (ends_next _).2 same
    next e _ =>
      refine (ends_next _).2 ?_
      split
      · exact (same.of_view (State.chromaError_monView e s)).of_view (by simp [State.monView])
      · exact same.of_view (by simp [State.monView])
  | setView _ _ _ _ _ _ | enableOutput _ | live _ | freeze _ | recallEntry _ _ _ =>
    simp only [exec, execSetView, execEnableOutput, execLive, execFreeze, execRecall]
    refine (ends_unlessHalted _ _).2 ⟨fun _ => same, fun _ => ?_⟩
    repeat' split
    all_goals exact same.touch.of_view (by simp [State.monView])
  | directiveFetchResponse _ _ | resumeReadResponse _ _ | chunkReadResponse _ _ _ | unknownDirectiveType _
  | sourceRowFetchResponse _ _ _ _ =>
    simp only [exec, execDirectiveFetchResponse, execResumeReadResponse, execChunkReadResponse,
      execUnknownDirectiveType, execSourceRowFetchResponse]
    repeat' split
    all_goals first | exact ends_refused _ | exact (ends_next _).2 same |
      refine (ends_unlessHalted _ _).2 ⟨fun _ => same, fun _ => ?_⟩
    all_goals exact same.of_view (by simp [State.monView])
  | submitWord v | acknowledgeWord v | noticeRecordRead | statusRecordRead =>
    simp only [exec, execSubmitWord, execAcknowledgeWord, execNoticeRecordRead, execStatusRecordRead]
    exact (ends_next _).2 (same.of_view (by simp [State.monView]))
  | directiveStatusWriteResponse r | recordWriteResponse addr r =>
    simp only [exec, execDirectiveStatusWriteResponse, execRecordWriteResponse]
    exact (ends_unlessHalted _ _).2 ⟨fun _ => same, fun _ => same.of_view (State.recordResponse_monView _ _ s)⟩
  | _ =>
    simp only [exec, execOutputFrameStart,
      execChunkWriteResponse, execWaitLimitTimeout, execConfigureCapture, execSetEnhance, execConfigureOutput,
      execDisableOutput, execOpenStore, execCloseStore, execEndLesson, execClaim, execRelease, execKeep, execUnkeep,
      execDelete, execSetNotice]
    refine (ends_unlessHalted _ _).2 ⟨fun _ => same, fun _ => ?_⟩
    repeat' split
    all_goals exact same.of_view (by simp [State.monView, State.takeConfigure])

/-! ### A step -/

/-- Part of R17: after RESET_N every invariant holds. -/
theorem State.keeps_reset (s : State) : s.Keeps State.reset := by
  obtain ⟨slots, counts, zoom, legal, fwd, inbox, -⟩ := invariantsHoldAtReset
  obtain ⟨loss, ring, queue, notice, gov⟩ := (State.countsInRange_iff _).1 counts
  exact ⟨fun _ => slots, fun _ => loss, fun _ => ring, fun _ => queue, fun _ => notice, fun _ => gov, fun _ => zoom,
    fun _ => legal, fun _ _ => fwd, fun _ => inbox⟩

/-- The value of CPBASE and the commands that wait are outside the invariants. -/
theorem State.keeps_resetWith (n : BitVec 4) (l : List Instr) (s : State) :
    s.Keeps { State.resetWith n with pending := l } :=
  have based : s.Keeps (State.reset.onPath fun p => { p with cpBase := (PathUnit.reset n).cpBase }) :=
    (State.keeps_reset s).onPath_of_eq rfl rfl
  { based with }

theorem State.keepsMonitor_resetWith (n : BitVec 4) (l : List Instr) (s : State) :
    s.KeepsMonitor { State.resetWith n with pending := l } := .stopped rfl rfl rfl rfl

/-- A step is a command on the queue's rest, or idle. -/
theorem step_keeps {s t : State} (h : step s = .next t) : s.Keeps t ∧ s.KeepsMonitor t := by
  unfold step at h
  split at h
  · cases h
    exact ⟨.refl s, .refl s⟩
  next c rest _ =>
    have front : s.Keeps { s with pending := rest } := { State.Keeps.refl s with }
    by_cases reset : ∃ n, c = .resetN n
    · obtain ⟨n, rfl⟩ := reset
      rw [← Host.Outcome.next.inj ((exec_resetN n _).symm.trans h)]
      exact ⟨State.keeps_resetWith n rest s, State.keepsMonitor_resetWith n rest s⟩
    · have noReset (n : BitVec 4) : c ≠ .resetN n := fun eq => reset ⟨n, eq⟩
      obtain ⟨follows, holds⟩ := exec_keepsMonitor c { s with pending := rest } noReset t h
      exact ⟨front.trans (exec_keeps c _ noReset t h), follows, holds⟩

/-- Settles O58: what every command keeps, read off the two relations. -/
theorem everyStepKeepsTheInvariants : Obligations.EveryStepKeepsTheInvariants := by
  intro s t h
  obtain ⟨keeps, mon⟩ := step_keeps h
  refine ⟨keeps.slots, fun counts => ?_, keeps.zoom, keeps.legal, keeps.fwd, keeps.inbox, mon.follows, mon.holds⟩
  obtain ⟨loss, ring, queue, notice, gov⟩ := (State.countsInRange_iff s).1 counts
  exact (State.countsInRange_iff t).2
    ⟨keeps.loss loss, keeps.ring ring, keeps.queue queue, keeps.notice notice, keeps.gov gov⟩

end Sys2Proof.Machine
end

section
/-! The catalog's invariants (R141, R150, R152): what the store's small updates and the copy engine's operations keep of
them. The engine serves the head request again from a catalog in which no record is COPYING or WANTED. -/

namespace Sys2Proof.Machine

/-! ### Records of the catalog -/

@[simp] theorem Store.onRec_order (p : Nat) (f : Rec → Rec) (st : Store) : (st.onRec p f).order = st.order := rfl

@[simp] theorem Store.onRec_queue (p : Nat) (f : Rec → Rec) (st : Store) : (st.onRec p f).queue = st.queue := rfl

@[simp] theorem Store.onRec_nextSeq (p : Nat) (f : Rec → Rec) (st : Store) : (st.onRec p f).nextSeq = st.nextSeq := rfl

@[simp] theorem Store.onRec_state (p : Nat) (f : Rec → Rec) (st : Store) : (st.onRec p f).state = st.state := rfl

@[simp] theorem Store.onRec_resume (p : Nat) (f : Rec → Rec) (st : Store) : (st.onRec p f).resume = st.resume := rfl

@[simp] theorem Store.onRec_engine (p : Nat) (f : Rec → Rec) (st : Store) : (st.onRec p f).engine = st.engine := rfl

@[simp] theorem Store.length_onRec (p : Nat) (f : Rec → Rec) (st : Store) :
    (st.onRec p f).catalog.length = st.catalog.length := List.length_modify ..

theorem Store.recAt_of_length_le {st : Store} {p : Nat} (h : st.catalog.length ≤ p) : st.recAt p = Rec.blank := by
  simp [Store.recAt, List.getD_eq_getElem?_getD, List.getElem?_eq_none h]

theorem Store.lt_of_state_ne_free {st : Store} {p : Nat} (h : (st.recAt p).state ≠ .free) : p < st.catalog.length := by
  by_contra outside
  exact h (by rw [Store.recAt_of_length_le (Nat.le_of_not_lt outside)]; rfl)

theorem Store.recAt_onRec (q p : Nat) (f : Rec → Rec) (st : Store) :
    (st.onRec p f).recAt q = if q = p ∧ p < st.catalog.length then f (st.recAt q) else st.recAt q := by
  simp only [Store.recAt, Store.onRec, List.getD_eq_getElem?_getD, List.getElem?_modify]
  by_cases same : p = q
  · subst same
    by_cases inside : p < st.catalog.length
    · simp [inside]
    · simp [inside]
  · simp [same, Ne.symm same]

theorem Store.recAt_onRec_of_ne {q p : Nat} (h : q ≠ p) (f : Rec → Rec) (st : Store) :
    (st.onRec p f).recAt q = st.recAt q := by
  rw [Store.recAt_onRec, if_neg fun both => h both.1]

theorem Store.recAt_onRec_self {p : Nat} {st : Store} (h : p < st.catalog.length) (f : Rec → Rec) :
    (st.onRec p f).recAt p = f (st.recAt p) := by
  rw [Store.recAt_onRec, if_pos ⟨rfl, h⟩]

/-- A field that an update of a record leaves as it is. -/
theorem Store.recAt_onRec_field {α : Type} {field : Rec → α} {f : Rec → Rec} (h : ∀ r, field (f r) = field r)
    (q p : Nat) (st : Store) : field ((st.onRec p f).recAt q) = field (st.recAt q) := by
  rw [Store.recAt_onRec]
  split
  · exact h _
  · rfl

@[simp] theorem Rec.setRecall_state (x : OutId) (v : Bool) (r : Rec) : (r.setRecall x v).state = r.state := by
  cases x <;> rfl

@[simp] theorem Rec.setRecall_seq (x : OutId) (v : Bool) (r : Rec) : (r.setRecall x v).seq = r.seq := by cases x <;> rfl

@[simp] theorem Rec.setRecall_wanted (x : OutId) (v : Bool) (r : Rec) : (r.setRecall x v).wanted = r.wanted := by
  cases x <;> rfl

/-! ### The invariants in two parts -/

/-- R141: the ordered catalog holds the records that are not FREE, by sequence; a store that is not OPEN holds nothing. -/
structure Store.CatalogSound (st : Store) : Prop where
  nodup : st.order.Nodup
  mem : ∀ p, p ∈ st.order ↔ (st.recAt p).state ≠ .free
  sorted : (st.order.map fun p => (st.recAt p).seq).Pairwise (· < ·)
  below : ∀ n, st.nextSeq = some n → ∀ p ∈ st.order, (st.recAt p).seq < n
  closed : st.state ≠ .opened → st.queue = [] ∧ st.order = [] ∧ st.catalog = []
  resume : st.resume ≠ none → st.state = .opening

/-- R150, R152: the copy engine's state tells which record is COPYING, which is WANTED and whether requests wait. -/
structure Store.EngineSound (st : Store) : Prop where
  copying : ∀ p, (st.recAt p).state = .copying ↔ st.engine.state = .copying p ∨ st.engine.state = .paused p
  wanted : ∀ p, (st.recAt p).wanted = true ↔ st.engine.state = .waiting p
  saved : ∀ p, (st.recAt p).wanted = true → (st.recAt p).state = .saved
  idle : st.engine.state = .idle ↔ st.queue = []

theorem Store.sound_iff {st : Store} : st.Sound ↔ st.CatalogSound ∧ st.EngineSound := by
  constructor
  · intro ⟨nodup, mem, sorted, below, copying, wanted, saved, idle, closed, resume⟩
    exact ⟨⟨nodup, mem, sorted, below, closed, resume⟩, ⟨copying, wanted, saved, idle⟩⟩
  · intro ⟨⟨nodup, mem, sorted, below, closed, resume⟩, ⟨copying, wanted, saved, idle⟩⟩
    exact ⟨nodup, mem, sorted, below, copying, wanted, saved, idle, closed, resume⟩

/-- The record serves no request. -/
def Rec.Spare (r : Rec) : Prop := r.state ≠ .copying ∧ r.wanted = false

/-- No record serves a request. -/
def Store.Unserved (st : Store) : Prop := ∀ p, (st.recAt p).Spare

theorem Rec.spare_blank : Rec.blank.Spare := ⟨nofun, rfl⟩

theorem Store.EngineSound.spare {st : Store} (h : st.EngineSound) {p : Nat} (copying : st.engine.state ≠ .copying p)
    (paused : st.engine.state ≠ .paused p) (waiting : st.engine.state ≠ .waiting p) : (st.recAt p).Spare :=
  ⟨fun serves => ((h.copying p).1 serves).elim copying paused,
    Bool.eq_false_iff.2 fun serves => waiting ((h.wanted p).1 serves)⟩

theorem Store.EngineSound.unserved {st : Store} (h : st.EngineSound) (idle : st.engine.state = .idle) : st.Unserved :=
  fun _ => h.spare (by simp [idle]) (by simp [idle]) (by simp [idle])

/-- An engine that is IDLE while nothing is served. -/
theorem Store.Unserved.engineSound {st : Store} (h : st.Unserved) (idle : st.engine.state = .idle) (queue : st.queue = []) :
    st.EngineSound where
  copying p := by simp [idle, (h p).1]
  wanted p := by simp [idle, (h p).2]
  saved p wanted := absurd ((h p).2.symm.trans wanted) Bool.false_ne_true
  idle := by simp [idle, queue]

/-! ### What the invariants speak of -/

/-- The parts of the store the invariants speak of, with the records as they stand. -/
def Store.indexView (st : Store) : StoreState × List Rec × List Nat × Option Nat × List Request × CopyState × Option Resume :=
  (st.state, st.catalog, st.order, st.nextSeq, st.queue, st.engine.state, st.resume)

theorem Store.Sound.of_view {st st' : Store} (h : st.Sound) (same : st'.indexView = st.indexView) : st'.Sound := by
  simp only [Store.indexView, Prod.mk.injEq] at same
  obtain ⟨state, catalog, order, nextSeq, queue, engine, resume⟩ := same
  simpa only [Store.Sound, Store.recAt, state, catalog, order, nextSeq, queue, engine, resume] using h

/-- An update of a record that leaves its sequence, and whether it is FREE. -/
theorem Store.CatalogSound.onRec {st : Store} {p : Nat} {f : Rec → Rec} (h : st.CatalogSound)
    (used : (f (st.recAt p)).state = .free ↔ (st.recAt p).state = .free) (seq : ∀ r, (f r).seq = r.seq) :
    (st.onRec p f).CatalogSound where
  nodup := h.nodup
  mem q := by
    refine (h.mem q).trans (not_congr ?_)
    rw [Store.recAt_onRec]
    split
    next both => exact both.1 ▸ used.symm
    next => rfl
  sorted := by
    have seqs : ((st.onRec p f).order.map fun q => ((st.onRec p f).recAt q).seq)
        = st.order.map fun q => (st.recAt q).seq := List.map_congr_left fun q _ => Store.recAt_onRec_field seq q p st
    exact seqs ▸ h.sorted
  below n next q hq := by rw [Store.recAt_onRec_field seq]; exact h.below n next q hq
  closed other := by
    obtain ⟨queue, order, catalog⟩ := h.closed other
    exact ⟨queue, order, by simp [Store.onRec, catalog]⟩
  resume := h.resume

/-- An update of a record that leaves its state and its sequence. -/
theorem Store.CatalogSound.onRec_of_eq {st : Store} {p : Nat} {f : Rec → Rec} (h : st.CatalogSound)
    (state : ∀ r, (f r).state = r.state) (seq : ∀ r, (f r).seq = r.seq) : (st.onRec p f).CatalogSound :=
  h.onRec (by rw [state]) seq

/-- An update of a record that leaves its state and its WANTED mark. -/
theorem Store.EngineSound.onRec_of_eq {st : Store} {p : Nat} {f : Rec → Rec} (h : st.EngineSound)
    (state : ∀ r, (f r).state = r.state) (wanted : ∀ r, (f r).wanted = r.wanted) : (st.onRec p f).EngineSound where
  copying q := by rw [Store.recAt_onRec_field state]; exact h.copying q
  wanted q := by rw [Store.recAt_onRec_field wanted]; exact h.wanted q
  saved q hq := by
    rw [Store.recAt_onRec_field wanted] at hq
    rw [Store.recAt_onRec_field state]
    exact h.saved q hq
  idle := h.idle

/-- The marks of a record are outside the invariants. -/
theorem Store.Sound.onRec_of_eq {st : Store} {p : Nat} {f : Rec → Rec} (h : st.Sound)
    (state : ∀ r, (f r).state = r.state) (seq : ∀ r, (f r).seq = r.seq) (wanted : ∀ r, (f r).wanted = r.wanted) :
    (st.onRec p f).Sound := by
  obtain ⟨catalog, engine⟩ := Store.sound_iff.1 h
  exact Store.sound_iff.2 ⟨catalog.onRec_of_eq state seq, engine.onRec_of_eq state wanted⟩

/-! ### A record becomes FREE -/

theorem Store.recAt_freeRec {st : Store} (q p : Nat) :
    (st.freeRec p).recAt q = if q = p then Rec.blank else st.recAt q := by
  refine (Store.recAt_onRec q p _ st).trans ?_
  by_cases same : q = p
  · subst same
    by_cases inside : q < st.catalog.length
    · simp [inside]
    · simp [inside, Store.recAt_of_length_le (Nat.le_of_not_lt inside)]
  · simp [same]

theorem Store.CatalogSound.freeRec {st : Store} (h : st.CatalogSound) (p : Nat) : (st.freeRec p).CatalogSound where
  nodup := h.nodup.erase p
  mem q := by
    rw [Store.recAt_freeRec]
    refine (h.nodup.mem_erase_iff).trans ?_
    by_cases same : q = p
    · simp [same, Rec.blank]
    · simp [same, h.mem q]
  sorted := by
    have seqs : ((st.freeRec p).order.map fun q => ((st.freeRec p).recAt q).seq)
        = (st.order.erase p).map fun q => (st.recAt q).seq := List.map_congr_left fun q hq => by
      rw [Store.recAt_freeRec, if_neg ((h.nodup.mem_erase_iff).1 hq).1]
    rw [seqs]
    exact h.sorted.sublist ((List.erase_sublist).map _)
  below n next q hq := by
    obtain ⟨other, mem⟩ := (h.nodup.mem_erase_iff).1 hq
    rw [Store.recAt_freeRec, if_neg other]
    exact h.below n next q mem
  closed other := by
    obtain ⟨queue, order, catalog⟩ := h.closed other
    exact ⟨queue, by simp [Store.freeRec, order], by simp [Store.freeRec, Store.onRec, catalog]⟩
  resume := h.resume

/-! ### The queue -/

/-- Requests leave a queue, or join the queue of an OPEN store. -/
theorem Store.CatalogSound.withQueue {st : Store} (h : st.CatalogSound) {l : List Request} (o : Outcome)
    (closed : st.state ≠ .opened → l = []) : { st with queue := l, outcome := o }.CatalogSound :=
  { h with closed := fun other => ⟨closed other, (h.closed other).2⟩ }

theorem Store.CatalogSound.opened {st : Store} (h : st.CatalogSound) (queue : st.queue ≠ []) : st.state = .opened := by
  by_contra other
  exact queue (h.closed other).1

theorem Store.CatalogSound.opened_of_order {st : Store} (h : st.CatalogSound) {p : Nat} (hp : p < st.catalog.length) :
    st.state = .opened := by
  by_contra other
  rw [(h.closed other).2.2] at hp
  exact absurd hp (Nat.not_lt_zero p)

/-! ### A copy starts -/

/-- R155 step 1: record `p` becomes the COPYING record of request `r`, the newest of the ordered catalog. -/
def Store.started (p : Nat) (r : Request) (n : Nat) (st : Store) : Store :=
  { st.onRec p fun _ => r.copyingRec n with
    order := st.order.erase p ++ [p], nextSeq := seqAfter n, engine := { st.engine with chunk := 0 } }

theorem Store.recAt_started {st : Store} {p : Nat} (inside : p < st.catalog.length) (r : Request) (n q : Nat) :
    (st.started p r n).recAt q = if q = p then r.copyingRec n else st.recAt q := by
  refine (Store.recAt_onRec q p _ st).trans ?_
  simp [inside]

theorem Store.CatalogSound.started {st : Store} (h : st.CatalogSound) {p n : Nat} {r : Request}
    (inside : p < st.catalog.length) (next : st.nextSeq = some n) : (st.started p r n).CatalogSound where
  nodup := List.nodup_append.2 ⟨h.nodup.erase p, List.nodup_singleton p, fun q hq q' hq' same =>
    ((h.nodup.mem_erase_iff).1 hq).1 (same.trans (List.mem_singleton.1 hq'))⟩
  mem q := by
    rw [Store.recAt_started inside]
    refine (List.mem_append.trans (or_congr (h.nodup.mem_erase_iff) List.mem_singleton)).trans ?_
    by_cases same : q = p
    · simp [same, Request.copyingRec]
    · simp [same, h.mem q]
  sorted := by
    have seqs : ((st.started p r n).order.map fun q => ((st.started p r n).recAt q).seq)
        = ((st.order.erase p).map fun q => (st.recAt q).seq) ++ [n] := by
      refine (List.map_append ..).trans (congrArg₂ _ (List.map_congr_left fun q hq => ?_) ?_)
      · rw [Store.recAt_started inside, if_neg ((h.nodup.mem_erase_iff).1 hq).1]
      · simp [Store.recAt_started inside, Request.copyingRec]
    rw [seqs, List.pairwise_append]
    refine ⟨h.sorted.sublist ((List.erase_sublist).map _), List.pairwise_singleton _ _, fun a ha b hb => ?_⟩
    obtain ⟨q, hq, rfl⟩ := List.mem_map.1 ha
    rw [List.mem_singleton.1 hb]
    exact h.below n next q (List.mem_of_mem_erase hq)
  below m hm q hq := by
    have after : m = n + 1 := by
      simp only [Store.started, seqAfter] at hm
      split at hm
      · cases hm
      · exact (Option.some.inj hm).symm
    rw [Store.recAt_started inside]
    split
    · simp [Request.copyingRec, after]
    next other =>
      obtain mem | mem := List.mem_append.1 hq
      · exact after ▸ Nat.lt_succ_of_lt (h.below n next q (List.mem_of_mem_erase mem))
      · exact absurd (List.mem_singleton.1 mem) other
  closed other := absurd (h.opened_of_order inside) other
  resume := h.resume

/-- R155, R170: one record is COPYING, whichever of its two states the engine copies in. -/
theorem Store.engineSound_of_copying {st : Store} {p : Nat} (copies : (st.recAt p).state = .copying)
    (unwanted : (st.recAt p).wanted = false) (others : ∀ q, q ≠ p → (st.recAt q).Spare) (queue : st.queue ≠ [])
    (runs : st.engine.state = .copying p ∨ st.engine.state = .paused p) : st.EngineSound where
  copying q := by
    by_cases same : q = p
    · subst same
      simpa [copies] using runs
    · have apart : p ≠ q := Ne.symm same
      obtain runs | runs := runs
      · simp [runs, (others q same).1, apart]
      · simp [runs, (others q same).1, apart]
  wanted q := by
    have clear : (st.recAt q).wanted = false := by
      by_cases same : q = p
      · exact same ▸ unwanted
      · exact (others q same).2
    obtain runs | runs := runs
    · simp [clear, runs]
    · simp [clear, runs]
  saved q wanted := by
    by_cases same : q = p
    · exact absurd (unwanted.symm.trans (same ▸ wanted)) Bool.false_ne_true
    · exact absurd ((others q same).2.symm.trans wanted) Bool.false_ne_true
  idle := by
    obtain runs | runs := runs
    · simp [runs, queue]
    · simp [runs, queue]

/-- R152: the engine waits on one WANTED record. -/
theorem Store.engineSound_of_waiting {st : Store} {p : Nat} (saved : (st.recAt p).state = .saved)
    (wanted : (st.recAt p).wanted = true) (others : ∀ q, q ≠ p → (st.recAt q).Spare) (queue : st.queue ≠ [])
    (waits : st.engine.state = .waiting p) : st.EngineSound where
  copying q := by
    by_cases same : q = p
    · simp [same, saved, waits]
    · simp [(others q same).1, waits]
  wanted q := by
    by_cases same : q = p
    · simp [same, wanted, waits]
    · simp [(others q same).2, waits, Ne.symm same]
  saved q wants := by
    by_cases same : q = p
    · exact same ▸ saved
    · exact absurd ((others q same).2.symm.trans wants) Bool.false_ne_true
  idle := by simp [waits, queue]

/-! ### The engine's operations -/

section
variable {s : State} {p : Nat}

/-- The engine copies into `p`, at once or when the part is in NORMAL again. -/
theorem State.raiseChunk_store (queue : s.store.queue ≠ []) :
    ∃ e : CopyEngine, e.state = .copying p ∧ (s.raiseChunk p).store = { s.store with engine := e } := by
  unfold State.raiseChunk
  split
  next none => exact absurd none queue
  next => exact ⟨_, rfl, rfl⟩

theorem State.raiseOrPause_store (queue : s.store.queue ≠ []) :
    ∃ e : CopyEngine, (e.state = .copying p ∨ e.state = .paused p)
      ∧ (s.raiseOrPause p).store = { s.store with engine := e } := by
  unfold State.raiseOrPause
  split
  · obtain ⟨e, copies, store⟩ := State.raiseChunk_store (p := p) queue
    exact ⟨e, .inl copies, store⟩
  · exact ⟨_, .inr rfl, rfl⟩

/-- An engine that copies goes on copying. -/
theorem Store.Sound.copies_on {st : Store} {e : CopyEngine} (h : st.Sound)
    (old : st.engine.state = .copying p ∨ st.engine.state = .paused p) (new : e.state = .copying p ∨ e.state = .paused p) :
    { st with engine := e }.Sound := by
  obtain ⟨catalog, engine⟩ := Store.sound_iff.1 h
  have copies := (engine.copying p).2 old
  have unwanted : (st.recAt p).wanted = false := Bool.eq_false_iff.2 fun wanted => by
    rw [engine.saved p wanted] at copies
    cases copies
  have busy : st.queue ≠ [] := fun none => by
    have idle := engine.idle.2 none
    simp [idle] at old
  refine Store.sound_iff.2 ⟨{ catalog with }, Store.engineSound_of_copying copies unwanted (fun q other => ?_) busy new⟩
  refine engine.spare (fun runs => ?_) (fun runs => ?_) (fun runs => ?_)
  all_goals simp [runs, other] at old

end

end Sys2Proof.Machine
end

section
/-! The copy engine keeps the catalog sound (R150 to R158): the choice of a record, the start of a copy, the requests taken
in turn, the chunks, the wait. -/

namespace Sys2Proof.Machine

/-! ### The record chosen (R151) -/

theorem Store.lowestFree_spec {st : Store} {p : Nat} (h : st.lowestFree = some p) :
    p < st.catalog.length ∧ (st.recAt p).state = .free :=
  ⟨List.mem_range.1 (List.mem_of_find?_eq_some h), by simpa using List.find?_some h⟩

theorem Store.oldestUnkept_spec {st : Store} {p : Nat} (h : st.oldestUnkept = some p) :
    p ∈ st.order ∧ (st.recAt p).kept = false :=
  ⟨List.mem_of_find?_eq_some h, by simpa using List.find?_some h⟩

/-- A record chosen is one of the catalog, and there is a sequence left for it. -/
theorem Store.choose_target {st : Store} {p : Nat} (sound : st.CatalogSound) (h : st.choose = .target p) :
    p < st.catalog.length ∧ ∃ n, st.nextSeq = some n := by
  unfold Store.choose at h
  split at h
  · cases h
  next n next =>
    refine ⟨?_, n, next⟩
    split at h
    next q free =>
      cases h
      exact (Store.lowestFree_spec free).1
    next =>
      split at h
      · cases h
      · split at h
        · cases h
        next q oldest =>
          split at h
          · cases h
          · cases h
            exact Store.lt_of_state_ne_free ((sound.mem p).1 (Store.oldestUnkept_spec oldest).1)

/-- A record waited on is one of the ordered catalog. -/
theorem Store.choose_waitOn {st : Store} {p : Nat} (h : st.choose = .waitOn p) : p ∈ st.order := by
  unfold Store.choose at h
  split at h
  · cases h
  · split at h
    · cases h
    · split at h
      · cases h
      · split at h
        · cases h
        next q oldest =>
          split at h
          · cases h
            exact (Store.oldestUnkept_spec oldest).1
          · cases h

section
variable {s : State} {p : Nat}

/-! ### Starts and ends of a request -/

/-- A copy that starts is that of the head request, into record `p`. -/
theorem State.startCopy_store {r : Request} {rest : List Request} {n : Nat} (queue : s.store.queue = r :: rest)
    (next : s.store.nextSeq = some n) : ∃ e : CopyEngine, (e.state = .copying p ∨ e.state = .paused p)
      ∧ (s.startCopy p).store = { s.store.started p r n with engine := e } := by
  have runs (u : State) (same : u.store = s.store.started p r n) : ∃ e : CopyEngine,
      (e.state = .copying p ∨ e.state = .paused p) ∧ (u.raiseOrPause p).store = { s.store.started p r n with engine := e } := by
    rw [← same]
    refine State.raiseOrPause_store ?_
    simp [same, Store.started, queue]
  simp only [State.startCopy, queue, next]
  split
  · exact runs _ (by rw [State.request_store]; rfl)
  · exact runs _ (by rw [State.requestStatus_store, State.request_store]; rfl)

theorem State.startCopy_of_empty (queue : s.store.queue = []) : s.startCopy p = s := by
  simp [State.startCopy, queue]

theorem State.startCopy_of_exhausted (next : s.store.nextSeq = none) : s.startCopy p = s := by
  cases queue : s.store.queue <;> simp [State.startCopy, queue, next]

/-- The copy that starts leaves the catalog sound when no other record serves a request. -/
theorem State.startCopy_sound {r : Request} {rest : List Request} {n : Nat} (catalog : s.store.CatalogSound)
    (inside : p < s.store.catalog.length) (others : ∀ q, q ≠ p → (s.store.recAt q).Spare)
    (queue : s.store.queue = r :: rest) (next : s.store.nextSeq = some n) : (s.startCopy p).store.Sound := by
  obtain ⟨e, runs, store⟩ := State.startCopy_store (p := p) queue next
  have entry (q : Nat) : (s.startCopy p).store.recAt q = if q = p then r.copyingRec n else s.store.recAt q := by
    rw [store]
    exact Store.recAt_started inside r n q
  refine Store.sound_iff.2 ⟨?_, Store.engineSound_of_copying (p := p) ?_ ?_ (fun q other => ?_) ?_ ?_⟩
  · exact store ▸ { catalog.started (r := r) inside next with }
  · simp [entry, Request.copyingRec]
  · simp [entry, Request.copyingRec]
  · rw [entry, if_neg other]
    exact others q other
  · simp [store, Store.started, queue]
  · simpa [store] using runs

theorem State.popHead_store {o : Outcome} {k : EventKind} {r : Request} {rest : List Request}
    (queue : s.store.queue = r :: rest) : (s.popHead o k).store = { s.store with queue := rest, outcome := o } := by
  simp [State.popHead, queue]

/-- The catalog is sound, no record serves a request: what the engine begins the head request from. -/
def Store.Ready (st : Store) : Prop := st.CatalogSound ∧ st.Unserved

theorem Store.Ready.popHead {o : Outcome} {k : EventKind} (h : s.store.Ready) : (s.popHead o k).store.Ready := by
  cases queue : s.store.queue with
  | nil => simpa [State.popHead, queue] using h
  | cons r rest =>
    rw [State.popHead_store queue]
    refine ⟨h.1.withQueue o fun other => ?_, h.2⟩
    exact absurd ((h.1.closed other).1.symm.trans queue) nofun

theorem State.copyIdle_sound (h : s.store.Ready) (queue : s.store.queue = []) : s.copyIdle.store.Sound :=
  Store.sound_iff.2 ⟨{ h.1 with }, Store.Unserved.engineSound (st := s.copyIdle.store) h.2 rfl queue⟩

/-- R151: waiting on a record of the ordered catalog. -/
theorem State.waitOn_sound (h : s.store.Ready) (mem : p ∈ s.store.order) (queue : s.store.queue ≠ []) :
    (s.onStore fun st => (st.onRec p fun r => { r with wanted := true }).onEngine fun e =>
      { e with state := .waiting p, waitCount := 0 }).store.Sound := by
  obtain ⟨catalog, unserved⟩ := h
  have used : (s.store.recAt p).state ≠ .free := (catalog.mem p).1 mem
  have inside := Store.lt_of_state_ne_free used
  have marked : (s.store.onRec p fun r => { r with wanted := true }).CatalogSound :=
    catalog.onRec_of_eq (fun _ => rfl) fun _ => rfl
  have self := Store.recAt_onRec_self inside fun r => { r with wanted := true }
  refine Store.sound_iff.2 ⟨{ marked with }, Store.engineSound_of_waiting (p := p) ?_ ?_ (fun q other => ?_) queue rfl⟩
  · refine (congrArg Rec.state self).trans ?_
    have copies := (unserved p).1
    cases state : (s.store.recAt p).state with
    | free => exact absurd state used
    | copying => exact absurd state copies
    | saved => rfl
  · exact congrArg Rec.wanted self
  · have same := Store.recAt_onRec_of_ne other (fun r => { r with wanted := true }) s.store
    exact (congrArg Rec.Spare same).mpr (unserved q)

theorem State.serveQueue_sound : ∀ (fuel : Nat) {s : State}, s.store.Ready → s.store.queue.length ≤ fuel →
    (s.serveQueue fuel).store.Sound
  | 0, s, h, short => State.copyIdle_sound h (List.length_eq_zero_iff.1 (Nat.le_zero.1 short))
  | fuel + 1, s, h, short => by
    unfold State.serveQueue
    split
    next none => exact State.copyIdle_sound h none
    next r rest queue =>
      split
      next p target =>
        obtain ⟨inside, n, next⟩ := Store.choose_target h.1 target
        exact State.startCopy_sound h.1 inside (fun q _ => h.2 q) queue next
      next p waits => exact State.waitOn_sound h (Store.choose_waitOn waits) (by simp [queue])
      next full =>
        refine State.serveQueue_sound fuel h.popHead ?_
        rw [State.popHead_store queue]
        simp only [queue, List.length_cons] at short
        exact Nat.le_of_succ_le_succ short

theorem State.nextRequest_sound (h : s.store.Ready) : s.nextRequest.store.Sound :=
  State.serveQueue_sound _ h (le_refl _)

/-- R150: a request joins the queue of an OPEN store. -/
theorem State.joinQueue_sound {r : Request} (h : s.store.Sound) (opened : s.store.state = .opened) :
    (s.joinQueue r).store.Sound := by
  obtain ⟨catalog, engine⟩ := Store.sound_iff.1 h
  have joined : { s.store with queue := s.store.queue ++ [r] }.CatalogSound :=
    { catalog with closed := fun other => absurd opened other }
  unfold State.joinQueue
  dsimp only
  split
  next idle =>
    have unserved : { s.store with queue := s.store.queue ++ [r] }.Unserved := engine.unserved idle
    refine State.nextRequest_sound ⟨?_, ?_⟩
    · simpa using joined
    · simpa using unserved
  next busy =>
    have waits : { s.store with queue := s.store.queue ++ [r] }.EngineSound :=
      { engine with idle := by simp [busy] }
    simpa using Store.sound_iff.2 ⟨joined, waits⟩

/-! ### Records that stop serving their request -/

/-- The record that served a request is changed so that it serves none. -/
theorem Store.EngineSound.unserve {st : Store} {f : Rec → Rec} (h : st.EngineSound)
    (served : st.engine.state = .copying p ∨ st.engine.state = .waiting p) (spare : (f (st.recAt p)).Spare) :
    (st.onRec p f).Unserved := by
  intro q
  by_cases same : q = p
  · subst same
    by_cases inside : q < st.catalog.length
    · rwa [Store.recAt_onRec_self inside]
    · rw [Store.recAt_onRec, if_neg fun both => inside both.2, Store.recAt_of_length_le (Nat.le_of_not_lt inside)]
      exact Rec.spare_blank
  · rw [Store.recAt_onRec_of_ne same]
    refine h.spare (fun runs => ?_) (fun runs => ?_) (fun runs => ?_)
    all_goals simp [runs, same] at served

theorem Store.EngineSound.not_wanted {st : Store} (h : st.EngineSound) (copies : st.engine.state = .copying p) :
    (st.recAt p).wanted = false :=
  Bool.eq_false_iff.2 fun wanted => by
    have waits := (h.wanted p).1 wanted
    rw [copies] at waits
    cases waits

/-- R157: the record copied is SAVED, and the request leaves. -/
theorem State.copyComplete_sound (h : s.store.Sound) (copies : s.store.engine.state = .copying p) :
    (s.copyComplete p).store.Sound := by
  obtain ⟨catalog, engine⟩ := Store.sound_iff.1 h
  have used : (s.store.recAt p).state = .copying := (engine.copying p).2 (.inl copies)
  have saved : (s.store.onRec p fun r => { r with state := .saved }).CatalogSound :=
    catalog.onRec (by simp [used]) fun _ => rfl
  refine State.nextRequest_sound (Store.Ready.popHead ?_)
  rw [State.request_store]
  exact ⟨saved, engine.unserve (.inl copies) ⟨nofun, engine.not_wanted copies⟩⟩

/-- R158: the record of a copy that fails is FREE. -/
theorem State.copyFailed_sound {k : FaultKind} {addr : Nat} (h : s.store.Sound)
    (copies : s.store.engine.state = .copying p) : (s.copyFailed p k addr).store.Sound := by
  obtain ⟨catalog, engine⟩ := Store.sound_iff.1 h
  refine State.nextRequest_sound (Store.Ready.popHead ?_)
  rw [State.logFault_store, State.request_store]
  exact ⟨catalog.freeRec p, engine.unserve (f := fun _ => Rec.blank) (.inl copies) Rec.spare_blank⟩

/-- R153, R154: the engine waits no more on the WANTED record. -/
theorem Store.Sound.unwanted {st : Store} (h : st.Sound) (waits : st.engine.state = .waiting p) :
    (st.onRec p fun r => { r with wanted := false }).Ready := by
  obtain ⟨catalog, engine⟩ := Store.sound_iff.1 h
  have saved := engine.saved p ((engine.wanted p).2 waits)
  exact ⟨catalog.onRec_of_eq (fun _ => rfl) fun _ => rfl, engine.unserve (.inr waits) ⟨by simp [saved], rfl⟩⟩

theorem State.endWaitBy_sound (h : s.store.Sound) : (s.endWaitBy p).store.Sound := by
  unfold State.endWaitBy
  split
  next wants =>
    have wanted := (Bool.and_eq_true_iff.1 wants).1
    exact State.nextRequest_sound (h.unwanted (((Store.sound_iff.1 h).2.wanted p).1 wanted))
  next => exact h

/-- R153: a removal that leaves the WANTED record unmarked hands it over. -/
theorem State.handover_sound (h : s.store.Sound) : (s.handover p).store.Sound := by
  unfold State.handover
  dsimp only
  split
  next wants =>
    simp only [Bool.and_eq_true] at wants
    obtain ⟨⟨⟨wanted, -⟩, -⟩, -⟩ := wants
    obtain ⟨catalog, engine⟩ := Store.sound_iff.1 h
    have waits := (engine.wanted p).1 wanted
    have inside : p < s.store.catalog.length :=
      Store.lt_of_state_ne_free (by rw [engine.saved p wanted]; nofun)
    cases queue : s.store.queue with
    | nil => exact (State.startCopy_of_empty queue).symm ▸ h
    | cons r rest =>
      cases next : s.store.nextSeq with
      | none => exact (State.startCopy_of_exhausted next).symm ▸ h
      | some n =>
        refine State.startCopy_sound catalog inside (fun q other => ?_) queue next
        exact engine.spare (by simp [waits]) (by simp [waits]) (by simp [waits, Ne.symm other])
  next => exact h

/-- R143: marks removed. -/
theorem State.unmark_sound {f : Rec → Rec} (h : s.store.Sound) (state : ∀ r, (f r).state = r.state)
    (seq : ∀ r, (f r).seq = r.seq) (wanted : ∀ r, (f r).wanted = r.wanted) : (s.unmark p f).store.Sound :=
  State.handover_sound (s := s.onStore (·.onRec p f)) (h.onRec_of_eq state seq wanted)

/-! ### Chunks -/

theorem State.copyResume_sound (h : s.store.Sound) : s.copyResume.store.Sound := by
  unfold State.copyResume
  split
  next p paused =>
    have waits : s.store.queue ≠ [] := fun none => by
      have idle := (Store.sound_iff.1 h).2.idle.2 none
      rw [paused] at idle
      cases idle
    obtain ⟨e, copies, store⟩ := State.raiseChunk_store (p := p) waits
    rw [store]
    exact h.copies_on (.inr paused) (.inl copies)
  next => exact h

theorem State.copyFrameEnd_sound (h : s.store.Sound) : s.copyFrameEnd.store.Sound := by
  unfold State.copyFrameEnd
  split
  · exact h.of_view rfl
  · exact h

theorem State.sampleDie_sound {die : Int} (h : s.store.Sound) : (s.sampleDie die).store.Sound := by
  unfold State.sampleDie State.thermalChange
  dsimp only
  repeat' split
  · exact h
  · simpa using h
  · simpa using h
  · rw [State.requestStatus_store]
    exact State.copyResume_sound (by simpa using h)
  · simpa using h

theorem State.readsReturned_sound (h : s.store.Sound) (copies : s.store.engine.state = .copying p) :
    (s.readsReturned p).store.Sound := by
  unfold State.readsReturned
  split
  · exact State.copyFailed_sound h copies
  · exact h.of_view rfl

theorem State.writesReturned_sound (h : s.store.Sound) (copies : s.store.engine.state = .copying p) :
    (s.writesReturned p).store.Sound := by
  unfold State.writesReturned
  split
  · exact State.copyFailed_sound h copies
  · extract_lets total s1
    have advanced : s1.store.Sound := h.of_view rfl
    have runs : s1.store.engine.state = .copying p := copies
    split
    · exact State.copyComplete_sound advanced runs
    · have waits : s1.store.queue ≠ [] := fun none => by
        have idle := (Store.sound_iff.1 advanced).2.idle.2 none
        rw [runs] at idle
        cases idle
      obtain ⟨e, state, store⟩ := State.raiseOrPause_store (p := p) waits
      rw [store]
      exact advanced.copies_on (.inl runs) state

theorem State.chunkReturned_sound {t : ChunkTxn} {r : Resp} {data : List Byte} (h : s.store.Sound) :
    (s.chunkReturned t r data).store.Sound := by
  unfold State.chunkReturned
  split
  next p copies =>
    extract_lets s1
    have state : s1.store.engine.state = s.store.engine.state := by
      unfold s1
      rw [State.onStore_store]
      unfold Store.onEngine
      dsimp only
      repeat' split
      all_goals rfl
    have same : s1.store.Sound := h.of_view (by simp only [Store.indexView, state]; rfl)
    split
    · split
      · exact State.readsReturned_sound same (state.trans copies)
      · exact State.writesReturned_sound same (state.trans copies)
    · exact same
  next => exact h

theorem State.chunkResponse_sound {d : Dir} {addr : Nat} {r : Resp} {data : List Byte} (h : s.store.Sound) :
    (s.chunkResponse d addr r data).store.Sound := by
  unfold State.chunkResponse
  split
  · exact h
  next t _ =>
    extract_lets s1
    have same : s1.store.Sound := h.of_view rfl
    rw [State.finishRestart_store]
    split
    · exact same
    · exact State.chunkReturned_sound same

end

end Sys2Proof.Machine
end

section
/-! The catalog a resume rebuilds (R138): its records, their order by sequence, and the next sequence. -/

namespace Sys2Proof.Machine

/-! ### The order by sequence -/

/-- The sequence of the record at position `p` of a catalog. -/
def seqAt (cat : List Rec) (p : Nat) : Nat := (cat.getD p Rec.blank).seq

theorem insertBySeq_perm (cat : List Rec) (p : Nat) : ∀ l, (insertBySeq cat p l).Perm (p :: l)
  | [] => .refl _
  | q :: l => by
    unfold insertBySeq
    split
    · exact .refl _
    · exact ((insertBySeq_perm cat p l).cons q).trans (.swap p q l)

/-- A record goes in front of those with a higher sequence. -/
theorem insertBySeq_sorted {cat : List Rec} {p : Nat} : ∀ {l : List Nat},
    l.Pairwise (fun a b => seqAt cat a < seqAt cat b) → (∀ q ∈ l, seqAt cat p ≠ seqAt cat q) →
    (insertBySeq cat p l).Pairwise (fun a b => seqAt cat a < seqAt cat b)
  | [], _, _ => List.pairwise_singleton _ _
  | q :: l, sorted, apart => by
    obtain ⟨first, rest⟩ := List.pairwise_cons.1 sorted
    unfold insertBySeq
    split
    next lower =>
      refine List.pairwise_cons.2 ⟨fun a ha => ?_, sorted⟩
      obtain rfl | ha := List.mem_cons.1 ha
      · exact lower
      · exact Nat.lt_trans lower (first a ha)
    next higher =>
      refine List.pairwise_cons.2 ⟨fun a ha => ?_,
        insertBySeq_sorted rest fun a ha => apart a (List.mem_cons_of_mem q ha)⟩
      obtain rfl | ha := List.mem_cons.1 ((insertBySeq_perm cat p l).mem_iff.1 ha)
      · exact Nat.lt_of_le_of_ne (Nat.le_of_not_lt higher) (apart q List.mem_cons_self).symm
      · exact first a ha

theorem foldr_insertBySeq_perm (cat : List Rec) : ∀ l : List Nat, (l.foldr (insertBySeq cat) []).Perm l
  | [] => .refl _
  | p :: l => (insertBySeq_perm cat p _).trans ((foldr_insertBySeq_perm cat l).cons p)

theorem foldr_insertBySeq_sorted {cat : List Rec} : ∀ {l : List Nat},
    l.Pairwise (fun a b => seqAt cat a ≠ seqAt cat b) →
    (l.foldr (insertBySeq cat) []).Pairwise (fun a b => seqAt cat a < seqAt cat b)
  | [], _ => .nil
  | p :: l, apart => by
    obtain ⟨first, rest⟩ := List.pairwise_cons.1 apart
    exact insertBySeq_sorted (foldr_insertBySeq_sorted rest) fun q hq =>
      first q ((foldr_insertBySeq_perm cat l).mem_iff.1 hq)

theorem orderOf_perm (cat : List Rec) :
    (orderOf cat).Perm ((List.range cat.length).filter fun p => decide ((cat.getD p Rec.blank).state = .saved)) :=
  foldr_insertBySeq_perm cat _

theorem nodup_orderOf (cat : List Rec) : (orderOf cat).Nodup :=
  (orderOf_perm cat).nodup_iff.2 (List.nodup_range.filter _)

theorem mem_orderOf {cat : List Rec} {p : Nat} :
    p ∈ orderOf cat ↔ p < cat.length ∧ (cat.getD p Rec.blank).state = .saved := by
  rw [(orderOf_perm cat).mem_iff, List.mem_filter, List.mem_range, decide_eq_true_eq]

/-- Records SAVED with sequences of their own are ordered by them. -/
theorem orderOf_sorted {cat : List Rec}
    (apart : ∀ p q, p < q → (cat.getD p Rec.blank).state = .saved → (cat.getD q Rec.blank).state = .saved →
      seqAt cat p ≠ seqAt cat q) : (orderOf cat).Pairwise (fun a b => seqAt cat a < seqAt cat b) := by
  refine foldr_insertBySeq_sorted (List.Pairwise.imp_of_mem (fun {a b} ha hb lower => ?_)
    (List.pairwise_lt_range.filter _))
  exact apart a b lower (of_decide_eq_true (List.mem_filter.1 ha).2) (of_decide_eq_true (List.mem_filter.1 hb).2)

/-! ### The next sequence -/

theorem seqAt_le_max (cat : List Rec) (p : Nat) : seqAt cat p ≤ (cat.map (·.seq)).foldl max 0 := by
  unfold seqAt
  rw [List.getD_eq_getElem?_getD]
  cases found : cat[p]? with
  | none => exact Nat.zero_le _
  | some r => exact (le_foldl_max id _ 0).2 _ (List.mem_map.2 ⟨r, List.mem_of_getElem? found, rfl⟩)

/-- The next sequence lies above every record's. -/
theorem seqAt_lt_nextSeqOf {cat : List Rec} {n : Nat} (next : nextSeqOf cat = some n) (p : Nat) : seqAt cat p < n := by
  have highest := seqAt_le_max cat p
  simp only [nextSeqOf, seqAfter] at next
  split at next
  · cases next
  · cases next
    exact Nat.lt_succ_of_le highest

/-! ### The records rebuilt -/

theorem rebuiltCatalog_getD (e : Nat) (bytes : List Byte) (p : Nat) : (rebuiltCatalog e bytes).getD p Rec.blank =
    if p < e ∧ survives bytes p = true then savedFrom (recordBytes bytes p) else Rec.blank := by
  simp only [rebuiltCatalog, List.getD_eq_getElem?_getD, List.getElem?_map]
  by_cases inside : p < e
  · simp only [List.getElem?_range inside, Option.map_some, Option.getD_some, inside, true_and]
  · simp [inside]

theorem rebuiltCatalog_saved (e : Nat) (bytes : List Byte) (p : Nat) :
    ((rebuiltCatalog e bytes).getD p Rec.blank).state = .saved ↔ p < e ∧ survives bytes p = true := by
  rw [rebuiltCatalog_getD]
  split
  next both => exact ⟨fun _ => both, fun _ => rfl⟩
  next other => exact ⟨nofun, fun both => absurd both other⟩

/-- R138: two records that survive carry different sequences. -/
theorem survives_seq_ne {bytes : List Byte} {p q : Nat} (lower : p < q) (hp : survives bytes p = true)
    (hq : survives bytes q = true) :
    fieldAt (recordBytes bytes p) 0x04 4 ≠ fieldAt (recordBytes bytes q) 0x04 4 := by
  intro same
  simp only [survives, Bool.and_eq_true, Bool.not_eq_true'] at hp hq
  refine absurd hq.2 (Bool.not_eq_false _ ▸ ?_)
  exact List.any_eq_true.2 ⟨p, List.mem_range.2 lower, by simp [hp.1, same]⟩

theorem rebuiltCatalog_apart (e : Nat) (bytes : List Byte) (p q : Nat) (lower : p < q)
    (hp : ((rebuiltCatalog e bytes).getD p Rec.blank).state = .saved)
    (hq : ((rebuiltCatalog e bytes).getD q Rec.blank).state = .saved) :
    seqAt (rebuiltCatalog e bytes) p ≠ seqAt (rebuiltCatalog e bytes) q := by
  have savedP := (rebuiltCatalog_saved e bytes p).1 hp
  have savedQ := (rebuiltCatalog_saved e bytes q).1 hq
  simp only [seqAt, rebuiltCatalog_getD, savedP, savedQ, and_self, if_true]
  exact survives_seq_ne lower savedP.2 savedQ.2

@[simp] theorem length_rebuiltCatalog (e : Nat) (bytes : List Byte) : (rebuiltCatalog e bytes).length = e := by
  simp [rebuiltCatalog]

/-- R138: the store a resume opens has a sound catalog. -/
theorem Store.catalogSound_rebuilt {st : Store} {e : Nat} {bytes : List Byte} (catalog : st.catalog = rebuiltCatalog e bytes)
    (order : st.order = orderOf st.catalog) (next : st.nextSeq = nextSeqOf st.catalog) (opened : st.state = .opened)
    (resume : st.resume = none) : st.CatalogSound := by
  refine ⟨order ▸ nodup_orderOf _, fun p => ?_, ?_, fun n hn p _ => ?_, fun other => absurd opened other,
    fun other => absurd resume other⟩
  · rw [order, mem_orderOf, Store.recAt, catalog, length_rebuiltCatalog, rebuiltCatalog_getD]
    split
    next both => simp [both.1, savedFrom]
    next other => simp [Rec.blank]
  · rw [order, List.pairwise_map]
    exact orderOf_sorted (catalog ▸ rebuiltCatalog_apart e bytes)
  · exact seqAt_lt_nextSeqOf (next ▸ hn) p

/-- No record read back serves a request. -/
theorem Store.unserved_rebuilt {st : Store} {e : Nat} {bytes : List Byte} (catalog : st.catalog = rebuiltCatalog e bytes) :
    st.Unserved := by
  intro p
  rw [Store.recAt, catalog, rebuiltCatalog_getD]
  split
  · exact ⟨nofun, rfl⟩
  · exact Rec.spare_blank

end Sys2Proof.Machine
end

section
/-! Every command keeps the catalog sound (R141, R150): the outputs' releases, the capture side's frame ends, the directives on
the store, a resume, RESTART. -/

namespace Sys2Proof.Machine

section
variable {s : State} {x : OutId}

/-! ### Marks of the outputs -/

theorem State.dropRecalls_sound : ∀ (l : List Nat) {s : State}, s.store.Sound → (s.dropRecalls x l).store.Sound
  | [], _, h => h
  | p :: l, s, h => by
    unfold State.dropRecalls
    refine State.dropRecalls_sound l ?_
    split
    · exact State.unmark_sound h (by simp) (by simp) (by simp)
    · exact h

theorem State.leaveOutput_sound (h : s.store.Sound) : (s.leaveOutput x).store.Sound := by
  unfold State.leaveOutput
  extract_lets s1 s2
  rw [State.onOut_store]
  exact State.dropRecalls_sound _ (by simpa [s1] using h)

theorem State.finishLeaving_sound (h : s.store.Sound) : (s.finishLeaving x).store.Sound := by
  unfold State.finishLeaving
  repeat' split
  · simpa using State.leaveOutput_sound h
  · simpa using State.leaveOutput_sound h
  · exact h

theorem State.outputFrameStart_sound {die : Int} (h : s.store.Sound) : (s.outputFrameStart x die).store.Sound := by
  unfold State.outputFrameStart
  extract_lets s1 w s2 d s3 s4
  rw [State.onOut_store]
  refine State.sampleDie_sound ?_
  rw [State.onOut_store]
  exact State.dropRecalls_sound _ (by simpa [s2, s1] using h)

theorem State.outputRestart_sound (h : s.store.Sound) : (s.outputRestart x).store.Sound := by
  unfold State.outputRestart
  dsimp only
  repeat' split
  · exact State.leaveOutput_sound (by simpa using h)
  · simpa using h
  · exact State.dropRecalls_sound _ (by simpa using h)

/-! ### Frame ends -/

theorem State.captureFrameEnd_sound {die : Int} (h : s.store.Sound) : (s.captureFrameEnd die).store.Sound := by
  rw [State.captureFrameEnd, State.requestStatus_store]
  exact State.copyFrameEnd_sound (State.sampleDie_sound h)

theorem State.frameEnded_sound {die : Int} (h : s.store.Sound) : (s.frameEnded die).store.Sound := by
  rw [State.frameEnded, State.onCap_store]
  exact State.captureFrameEnd_sound (by simpa using h)

theorem State.tearEnded_sound {die : Int} (h : s.store.Sound) : (s.tearEnded die).store.Sound :=
  State.captureFrameEnd_sound (by simpa using h)

theorem State.receiptEnd_sound {g : CapGeom} {endOff : Nat} {die : Int} (h : s.store.Sound) :
    (s.receiptEnd g endOff die).store.Sound := by
  unfold State.receiptEnd
  repeat' split
  · exact State.frameEnded_sound h
  · simpa using h
  · exact h

theorem State.frameWrite_sound {t : Txn} {g : CapGeom} {off : Nat} {die : Int} (h : s.store.Sound) :
    (s.frameWrite t g off die).store.Sound := by
  rw [State.frameWrite_eq]
  refine State.receiptEnd_sound ?_
  rw [State.answerWrite_store, State.onCap_store]
  split
  · exact h
  · simpa using h

theorem State.present_sound {t : Txn} {accepts : Bool} {take : State → State} (h : s.store.Sound)
    (taken : (take (s.leaveUntaken t)).store.Sound) : (s.present t accepts take).store.Sound := by
  unfold State.present
  split
  · exact taken
  · simpa using h

theorem State.captureWrite_sound {t : Txn} {g : CapGeom} {off : Nat} {die : Int} (h : s.store.Sound) :
    (s.captureWrite t g off die).store.Sound := by
  unfold State.captureWrite
  repeat' split
  · simpa using h
  · exact State.present_sound h (State.frameWrite_sound (by simpa using h))
  · exact State.present_sound h (by simpa using h)
  · exact State.present_sound h (by simpa using h)

theorem State.frameStart_sound {t : Txn} {g : CapGeom} {die : Int} (h : s.store.Sound) :
    (s.frameStart t g die).store.Sound := by
  have torn : s.tearFrame.store.Sound := by simpa using h
  unfold State.frameStart
  dsimp only
  repeat' split
  · simpa using h
  · exact State.present_sound h (State.frameWrite_sound (by simpa using h))
  · simpa using h
  · exact State.frameWrite_sound (by simpa using State.tearEnded_sound torn)
  · simpa using h
  · simpa using h

theorem State.takeStop_sound {die : Int} (h : s.store.Sound) : (s.takeStop die).store.Sound := by
  have torn : s.tearFrame.store.Sound := by simpa using h
  unfold State.takeStop
  dsimp only
  repeat' split
  · simpa using h
  · simpa using h
  · simpa using h
  · simpa using State.tearEnded_sound torn
  · simpa using h

theorem State.captureRestart_sound {die : Int} (h : s.store.Sound) : (s.captureRestart die).store.Sound := by
  unfold State.captureRestart
  extract_lets active s1 s2
  have written : s2.store.Sound := by
    unfold s2
    split
    · simpa [s1] using h
    · simpa [s1] using h
  split
  · exact State.tearEnded_sound written
  · exact written

/-! ### The store opens and closes -/

/-- A store that is not OPEN: no request waits, the engine is IDLE. -/
theorem Store.Sound.idle_of_closed {st : Store} (h : st.Sound) (other : st.state ≠ .opened) :
    st.queue = [] ∧ st.engine.state = .idle ∧ st.Unserved := by
  obtain ⟨catalog, engine⟩ := Store.sound_iff.1 h
  have queue := (catalog.closed other).1
  exact ⟨queue, engine.idle.2 queue, engine.unserved (engine.idle.2 queue)⟩

/-- A store without records, of which the engine is IDLE. -/
theorem Store.sound_of_empty {st : Store} (queue : st.queue = []) (idle : st.engine.state = .idle)
    (order : st.order = []) (catalog : ∀ p, st.recAt p = Rec.blank) (closed : st.state ≠ .opened → st.catalog = [])
    (resume : st.resume ≠ none → st.state = .opening) : st.Sound := by
  refine Store.sound_iff.2 ⟨⟨by simp [order], by simp [order, catalog, Rec.blank], by simp [order], by simp [order],
    fun other => ⟨queue, order, closed other⟩, resume⟩, Store.Unserved.engineSound (fun p => ?_) idle queue⟩
  rw [catalog]
  exact Rec.spare_blank

theorem Store.recAt_freshCatalog {st : Store} {e : Nat} (h : st.catalog = freshCatalog e) (p : Nat) :
    st.recAt p = Rec.blank := by
  simp only [Store.recAt, h, freshCatalog, List.getD_eq_getElem?_getD, List.getElem?_replicate]
  split <;> rfl

theorem State.openEmpty_sound {g : StoreGeom} (h : s.store.Sound) (other : s.store.state ≠ .opened) :
    (s.openEmpty g).store.Sound := by
  obtain ⟨queue, idle, -⟩ := h.idle_of_closed other
  exact Store.sound_of_empty queue idle rfl (Store.recAt_freshCatalog (e := g.e) rfl) (fun closed => absurd rfl closed)
    fun resumes => absurd rfl resumes

theorem State.beginResume_sound {g : StoreGeom} {clamped : Bool} (h : s.store.Sound) (other : s.store.state ≠ .opened) :
    (s.beginResume g clamped).store.Sound := by
  obtain ⟨queue, idle, -⟩ := h.idle_of_closed other
  exact Store.sound_of_empty queue idle rfl (Store.recAt_of_nil rfl) (fun _ => rfl) fun _ => rfl

theorem State.resumeClosed_sound {st : Status} (h : s.store.Sound) (other : s.store.state ≠ .opened) :
    (s.resumeClosed st).store.Sound := by
  obtain ⟨queue, idle, -⟩ := h.idle_of_closed other
  rw [State.resumeClosed, State.answerAccepted_store, State.requestStatus_store]
  exact Store.sound_of_empty queue idle rfl (Store.recAt_of_nil rfl) (fun _ => rfl) fun resumes => absurd rfl resumes

theorem State.resumeOpened_sound {g : StoreGeom} {bytes : List Byte} {clamped : Bool} (h : s.store.Sound)
    (other : s.store.state ≠ .opened) : (s.resumeOpened g bytes clamped).store.Sound := by
  obtain ⟨queue, idle, -⟩ := h.idle_of_closed other
  simp only [State.resumeOpened, State.answerAccepted_store, State.requestRecords_store, State.requestStatus_store,
    State.onStore_store]
  refine Store.sound_iff.2 ⟨Store.catalogSound_rebuilt (e := g.e) (bytes := bytes) rfl rfl rfl rfl rfl,
    Store.Unserved.engineSound (Store.unserved_rebuilt (e := g.e) (bytes := bytes) rfl) idle queue⟩

theorem State.resumeReturned_sound {addr : Nat} {r : Resp} {data : List Byte} (h : s.store.Sound) :
    (s.resumeReturned addr r data).store.Sound := by
  unfold State.resumeReturned
  split
  next re g resumes _ =>
    have opening : s.store.state = .opening := (Store.sound_iff.1 h).1.resume (by simp [resumes])
    have other : s.store.state ≠ .opened := by simp [opening]
    dsimp only
    repeat' split
    · exact State.resumeClosed_sound (by simpa using h) (by simpa using other)
    · exact State.resumeClosed_sound h other
    · obtain ⟨catalog, engine⟩ := Store.sound_iff.1 h
      simp only [State.raiseResume_store, State.onStore_store]
      exact Store.sound_iff.2 ⟨{ catalog with resume := fun _ => opening }, { engine with }⟩
    · exact State.resumeOpened_sound h other
  next => exact h

theorem State.takeRequest_sound {k : Nat} {auto keep : Bool} (h : s.store.Sound) (opened : s.store.state = .opened) :
    (s.takeRequest k auto keep).store.Sound :=
  State.joinQueue_sound (h.of_view rfl) opened

/-! ### RESTART -/

theorem Store.freeRecs_spec : ∀ (l : List Nat) {st : Store}, st.CatalogSound →
    (l.foldl (fun st p => st.freeRec p) st).CatalogSound
      ∧ ∀ q, (l.foldl (fun st p => st.freeRec p) st).recAt q = if q ∈ l then Rec.blank else st.recAt q
  | [], st, h => ⟨h, fun q => by simp⟩
  | p :: l, st, h => by
    obtain ⟨catalog, entry⟩ := Store.freeRecs_spec l (h.freeRec p)
    refine ⟨catalog, fun q => (entry q).trans ?_⟩
    rw [Store.recAt_freeRec]
    by_cases here : q = p
    · simp [here]
    · simp [here]

/-- A catalog with every WANTED mark gone. -/
theorem Store.recAt_map {st : Store} {f : Rec → Rec} (blank : f Rec.blank = Rec.blank) (p : Nat) :
    { st with catalog := st.catalog.map f }.recAt p = f (st.recAt p) := by
  simp only [Store.recAt, List.getD_eq_getElem?_getD, List.getElem?_map]
  cases st.catalog[p]? with
  | none => exact blank.symm
  | some r => rfl

theorem State.storeRestart_sound (h : s.store.Sound) : s.storeRestart.store.Sound := by
  unfold State.storeRestart
  extract_lets copying s1 s2 s3
  split
  next opened =>
    obtain ⟨catalog, engine⟩ := Store.sound_iff.1 h
    have kept : s3.store = s1.store := by simp [s3, s2]
    have sound : s1.store.Sound := by
      obtain ⟨freed, entry⟩ := Store.freeRecs_spec copying catalog
      have state (p : Nat) := congrArg Rec.state (Store.recAt_map (st := copying.foldl (fun st p => st.freeRec p) s.store)
        (f := fun r => { r with wanted := false }) rfl p)
      have seq (p : Nat) := congrArg Rec.seq (Store.recAt_map (st := copying.foldl (fun st p => st.freeRec p) s.store)
        (f := fun r => { r with wanted := false }) rfl p)
      have wanted (p : Nat) := congrArg Rec.wanted (Store.recAt_map
        (st := copying.foldl (fun st p => st.freeRec p) s.store) (f := fun r => { r with wanted := false }) rfl p)
      refine Store.sound_iff.2 ⟨⟨freed.nodup, fun p => (freed.mem p).trans (not_congr ?_), ?_, fun n next p hp => ?_,
        fun other => ?_, freed.resume⟩, Store.Unserved.engineSound (fun p => ⟨fun copies => ?_, wanted p⟩) rfl rfl⟩
      · exact Iff.of_eq (congrArg (· = RecState.free) (state p).symm)
      · exact (congrArg (List.Pairwise (· < ·)) (List.map_congr_left fun p _ => seq p)).mpr freed.sorted
      · exact (seq p).symm ▸ freed.below n next p hp
      · obtain ⟨-, order, none⟩ := freed.closed other
        exact ⟨rfl, order, List.map_eq_nil_iff.2 none⟩
      · have copies' := (state p).symm.trans copies
        dsimp only at copies'
        rw [entry] at copies'
        split at copies'
        · cases copies'
        next other =>
          exact other (List.mem_filter.2 ⟨List.mem_range.2 (Store.lt_of_state_ne_free (by rw [copies']; nofun)),
            decide_eq_true copies'⟩)
    split
    · exact kept ▸ sound
    · rw [State.requestStatus_store]
      exact kept ▸ sound
  next => exact h

theorem State.restartOwners_sound {die : Int} (h : s.store.Sound) : (s.restartOwners die).store.Sound :=
  State.outputRestart_sound (State.outputRestart_sound (State.storeRestart_sound (by
    rw [State.monitorRestart_store]
    exact State.captureRestart_sound (by simpa using h))))

/-! ### Records, grants, reads served -/

/-- A record that serves no request becomes FREE. -/
theorem Store.Sound.freeRec {st : Store} {p : Nat} (h : st.Sound) (spare : (st.recAt p).Spare) : (st.freeRec p).Sound := by
  obtain ⟨catalog, engine⟩ := Store.sound_iff.1 h
  have same (q : Nat) : (((st.freeRec p).recAt q).state = .copying ↔ (st.recAt q).state = .copying)
      ∧ ((st.freeRec p).recAt q).wanted = (st.recAt q).wanted := by
    rw [Store.recAt_freeRec]
    split
    next here => subst here; simp [Rec.blank, spare.1, spare.2]
    next => simp
  refine Store.sound_iff.2 ⟨catalog.freeRec p, fun q => (same q).1.trans (engine.copying q), fun q => ?_, fun q => ?_,
    engine.idle⟩
  · rw [(same q).2]
    exact engine.wanted q
  · intro wanted
    rw [Store.recAt_freeRec] at wanted ⊢
    split at wanted
    · cases wanted
    next other =>
      rw [if_neg other]
      exact engine.saved q wanted

@[simp] theorem State.lumaError_store (addr : Nat) (s : State) : (s.lumaError addr).store = s.store := by
  unfold State.lumaError
  split
  · rfl
  · simp

@[simp] theorem State.chromaError_store (e : FwdEntry) (s : State) : (s.chromaError e).store = s.store := by
  unfold State.chromaError
  split
  · rfl
  · simp

theorem State.grant_sound {k : GrantClass} (h : s.store.Sound) : (s.grant k).store.Sound := by
  unfold State.grant State.issue
  cases k
  · simpa using h
  · simpa using h
  · simpa using h
  · simpa using h
  · exact h.of_view rfl

theorem State.recordResponse_sound {which : RecFlight → Bool} {r : Resp} (h : s.store.Sound) :
    (s.recordResponse which r).store.Sound := by
  unfold State.recordResponse State.writeReturned
  dsimp only
  repeat' split
  · exact h.of_view rfl
  all_goals simpa using h

theorem State.ensureRows_sound {rows : List (Plane × Nat)} {v : State} {o : Option (List (Plane × Nat × List Byte))}
    (h : s.store.Sound) (eq : s.ensureRows x rows = (v, o)) : v.store.Sound :=
  State.ensureRows_keeps (Q := fun u => u.store.Sound) (fun _ _ _ _ h => by simpa using h)
    (fun _ _ h => by simpa using h) (fun _ _ _ h => by simpa using h) rows s v o h eq

/-! ### Conditions of the directives -/

/-- A store directive that is not refused meets an OPEN store. -/
theorem State.opened_of_gate {l : List (Bool × Status)} (h : firstRefusal (s.storeGate ++ l) = none) :
    s.store.state = .opened := by
  have gate := firstRefusal_eq_none.1 h
  have closed := gate (decide (s.store.state = .closed), .refusedState) (by simp [State.storeGate])
  have opening := gate (decide (s.store.state = .opening), .refusedBusy) (by simp [State.storeGate])
  cases state : s.store.state with
  | closed => simp [state] at closed
  | opening => simp [state] at opening
  | opened => rfl

end

/-! ### The commands -/

theorem exec_keepsStore (c : Instr) (s : State) (h : s.store.Sound) : Ends (fun t => t.store.Sound) (exec c s) := by
  have touched : s.touch.store.Sound := by simpa using h
  cases c with
  | resetN n => exact (ends_next _).2 Store.reset_sound
  | forwardedTransaction t => exact ends_if_next fun _ => by simpa using h
  | straddlingAccess t | outputWindowWrite t | outputWindowRead t | captureWindowRead t =>
    refine ends_if_next fun _ => ?_
    split
    · exact State.present_sound h (by simpa using h)
    · simpa using h
  | captureWrite t die =>
    refine ends_if_next fun _ => ?_
    repeat' split
    · simpa using h
    · exact State.captureWrite_sound h
    · simpa using h
  | frameStart t die =>
    refine ends_if_next fun _ => ?_
    repeat' split
    · exact State.frameStart_sound h
    · simpa using h
    · simpa using h
  | classBResponse _ _ _ _ | chromaWriteResponse _ _ | submitWord _ | acknowledgeWord _ | noticeRecordRead
  | statusRecordRead | sourceRowFetchResponse _ _ _ _ | directiveFetchResponse _ _ | unknownDirectiveType _ =>
    simp only [exec, execClassBResponse, execChromaWriteResponse, execSubmitWord, execAcknowledgeWord,
      execNoticeRecordRead, execStatusRecordRead, execSourceRowFetchResponse, execDirectiveFetchResponse,
      execUnknownDirectiveType]
    repeat' split
    all_goals first | exact ends_refused _ | exact (ends_next _).2 (by simpa using h) |
      refine (ends_unlessHalted _ _).2 ⟨fun _ => h, fun _ => ?_⟩
    all_goals simpa using h
  | downstreamGrant =>
    simp only [exec, execDownstreamGrant]
    refine (ends_next _).2 ?_
    split
    · exact State.grant_sound h
    · exact h
  | lossCountGrant =>
    simp only [exec, execLossCountGrant]
    refine (ends_unlessHalted _ _).2 ⟨fun _ => h, fun _ => ?_⟩
    split
    · exact State.grant_sound h
    · exact h
  | directiveStatusWriteResponse r | recordWriteResponse addr r =>
    simp only [exec, execDirectiveStatusWriteResponse, execRecordWriteResponse]
    refine (ends_unlessHalted _ _).2 ⟨fun _ => h, fun _ => ?_⟩
    exact State.recordResponse_sound h
  | resumeReadResponse r data =>
    simp only [exec, execResumeReadResponse]
    repeat' split
    · exact (ends_next _).2 h
    · exact ends_refused _
    · refine (ends_unlessHalted _ _).2 ⟨fun _ => h, fun _ => ?_⟩
      exact State.resumeReturned_sound (by simpa using h)
  | chunkReadResponse addr r data =>
    simp only [exec, execChunkReadResponse]
    split
    · exact ends_refused _
    · refine (ends_unlessHalted _ _).2 ⟨fun _ => h, fun _ => ?_⟩
      exact State.chunkResponse_sound h
  | chunkWriteResponse addr r =>
    simp only [exec, execChunkWriteResponse]
    refine (ends_unlessHalted _ _).2 ⟨fun _ => h, fun _ => ?_⟩
    exact State.chunkResponse_sound h
  | outputReadServed x =>
    simp only [exec, execOutputReadServed]
    refine (ends_unlessHalted _ _).2 ⟨fun _ => h, fun _ => ?_⟩
    repeat' split
    · exact h
    next rows =>
      exact State.ensureRows_sound h rows
    next rows =>
      refine State.finishLeaving_sound ?_
      simpa using State.ensureRows_sound h rows
    · exact h
  | outputFrameStart x die =>
    simp only [exec, execOutputFrameStart]
    refine (ends_unlessHalted _ _).2 ⟨fun _ => h, fun _ => ?_⟩
    repeat' split
    · exact State.outputFrameStart_sound h
    · exact h
    · exact h
  | tearFinished die =>
    simp only [exec, execTearFinished]
    refine (ends_unlessHalted _ _).2 ⟨fun _ => h, fun _ => ?_⟩
    split
    · simpa using State.tearEnded_sound h
    · exact h
  | frameCompletion die =>
    simp only [exec, execFrameCompletion]
    refine (ends_unlessHalted _ _).2 ⟨fun _ => h, fun _ => ?_⟩
    split
    · rw [State.finishStopping_store]
      exact State.frameEnded_sound (by simpa using h)
    · exact h
  | stopCapture die =>
    simp only [exec, execStopCapture]
    refine (ends_unlessHalted _ _).2 ⟨fun _ => h, fun _ => ?_⟩
    split
    · simpa using h
    · exact State.takeStop_sound (by simpa using h)
  | disableOutput sel =>
    simp only [exec, execDisableOutput]
    refine (ends_unlessHalted _ _).2 ⟨fun _ => h, fun _ => ?_⟩
    repeat' split
    · simpa using h
    · exact State.finishLeaving_sound (by simpa using h)
    · simpa using h
  | recallEntry sel useView pos =>
    simp only [exec, execRecall]
    refine (ends_unlessHalted _ _).2 ⟨fun _ => h, fun _ => ?_⟩
    repeat' split
    · simpa using h
    · simpa using h
    next x _ _ _ =>
      have marked : (s.touch.store.onRec pos.toNat (Rec.setRecall x true)).Sound :=
        touched.onRec_of_eq (by simp) (by simp) (by simp)
      simpa using marked
  | waitLimitTimeout =>
    simp only [exec, execWaitLimitTimeout]
    refine (ends_unlessHalted _ _).2 ⟨fun _ => h, fun _ => ?_⟩
    split
    next p waits =>
      split
      · exact State.nextRequest_sound (Store.Ready.popHead (h.unwanted waits))
      · exact h
    next => exact h
  | openStore policy resume wait e base =>
    simp only [exec, execOpenStore]
    refine (ends_unlessHalted _ _).2 ⟨fun _ => h, fun _ => ?_⟩
    split
    · simpa using h
    next none =>
      have gate := firstRefusal_eq_none.1 none _ List.mem_cons_self
      have other : s.store.state ≠ .opened := fun opened => by simp [opened] at gate
      split
      · rw [State.writeNewStore_store, State.answer_store]
        exact State.openEmpty_sound (h.of_view rfl) other
      · have accepted := State.accept_store (.openStore policy resume wait e base) s
        have resumes (g : StoreGeom) (clamped : Bool) :=
          State.beginResume_sound (s := s.accept (.openStore policy resume wait e base)) (g := g) (clamped := clamped)
            (by rwa [accepted]) (by rwa [accepted])
        rw [State.onStore_store]
        exact (resumes ⟨base.toNat, e.toNat, s.captureFrameSize⟩ _).of_view rfl
  | closeStore =>
    simp only [exec, execCloseStore]
    refine (ends_unlessHalted _ _).2 ⟨fun _ => h, fun _ => ?_⟩
    split
    · simpa using h
    next none =>
      have opened := State.opened_of_gate none
      have empty := firstRefusal_eq_none.1 none (!s.store.queue.isEmpty || s.store.catalog.any fun r =>
        r.recallA || r.recallB, .refusedBusy) (by simp)
      simp only [Bool.or_eq_false_iff, Bool.not_eq_false', List.isEmpty_iff] at empty
      obtain ⟨catalog, engine⟩ := Store.sound_iff.1 h
      rw [State.answer_store, State.requestStatus_store]
      refine Store.sound_of_empty empty.1 (engine.idle.2 empty.1) rfl (Store.recAt_of_nil rfl) (fun _ => rfl) ?_
      exact fun resumes => absurd (opened.symm.trans (catalog.resume resumes)) nofun
  | beginLesson =>
    simp only [exec, execBeginLesson]
    refine (ends_unlessHalted _ _).2 ⟨fun _ => h, fun _ => ?_⟩
    split
    · simpa using h
    · simp only [State.answer_store, State.tellMonitor_store, State.request_store]
      exact h.of_view rfl
  | endLesson =>
    simp only [exec, execEndLesson]
    refine (ends_unlessHalted _ _).2 ⟨fun _ => h, fun _ => ?_⟩
    split
    · simpa using h
    · rw [State.answer_store]
      exact h.of_view rfl
  | snapshot source keep =>
    simp only [exec, execSnapshot]
    refine (ends_unlessHalted _ _).2 ⟨fun _ => h, fun _ => ?_⟩
    split
    · simpa using h
    next none =>
      have taken (k : Nat) (keep : Bool) := State.takeRequest_sound (k := k) (auto := false) (keep := keep) touched
        (State.opened_of_gate none)
      split
      · simpa using taken _ _
      · simpa using taken _ _
  | autoRequest =>
    simp only [exec, execAutoRequest]
    refine (ends_unlessHalted _ _).2 ⟨fun _ => h, fun _ => ?_⟩
    repeat' split
    · exact h
    · simpa using h
    next room =>
      have opened : s.store.state = .opened := by
        by_contra other
        simp [State.autoRefused, other] at room
      rw [State.tellMonitor_store]
      exact State.takeRequest_sound (by simpa using h) (by simpa using opened)
  | claim pos =>
    simp only [exec, execClaim]
    refine (ends_unlessHalted _ _).2 ⟨fun _ => h, fun _ => ?_⟩
    split
    · simpa using h
    · rw [State.answer_store]
      exact h.onRec_of_eq (fun _ => rfl) (fun _ => rfl) fun _ => rfl
  | release pos =>
    simp only [exec, execRelease]
    refine (ends_unlessHalted _ _).2 ⟨fun _ => h, fun _ => ?_⟩
    repeat' split
    · simpa using h
    · rw [State.answer_store]
      exact State.unmark_sound h (fun _ => rfl) (fun _ => rfl) fun _ => rfl
    · simpa using h
  | keep pos =>
    simp only [exec, execKeep]
    refine (ends_unlessHalted _ _).2 ⟨fun _ => h, fun _ => ?_⟩
    split
    · simpa using h
    · rw [State.answer_store]
      refine State.endWaitBy_sound ?_
      rw [State.request_store]
      exact h.onRec_of_eq (fun _ => rfl) (fun _ => rfl) fun _ => rfl
  | unkeep pos =>
    simp only [exec, execUnkeep]
    refine (ends_unlessHalted _ _).2 ⟨fun _ => h, fun _ => ?_⟩
    split
    · simpa using h
    · rw [State.answer_store, State.request_store]
      exact h.onRec_of_eq (fun _ => rfl) (fun _ => rfl) fun _ => rfl
  | delete pos =>
    simp only [exec, execDelete]
    refine (ends_unlessHalted _ _).2 ⟨fun _ => h, fun _ => ?_⟩
    split
    · simpa using h
    next none =>
      have entry := firstRefusal_eq_none.1 none (decide ((s.store.recAt pos.toNat).state ≠ .saved)
        || (s.store.recAt pos.toNat).marked || (s.store.recAt pos.toNat).wanted, .refusedEntry) (by simp)
      simp only [Bool.or_eq_false_iff, decide_eq_false_iff_not, not_not] at entry
      rw [State.answer_store, State.requestStatus_store, State.request_store]
      exact h.freeRec ⟨by simp [entry.1.1], entry.2⟩
  | restart die =>
    simp only [exec, execRestart]
    refine (ends_unlessHalted _ _).2 ⟨fun _ => h, fun _ => ?_⟩
    rw [State.finishRestart_store]
    exact State.restartOwners_sound (by simpa using h)
  | _ =>
    simp only [exec, execLumaWriteResponse, execAutoAnswer, execConfigureCapture, execStartCapture, execSetEnhance,
      execConfigureOutput, execEnableOutput, execSetView, execLive, execFreeze, execBlank, execSetMonitor, execWake,
      execSetNotice]
    refine (ends_unlessHalted _ _).2 ⟨fun _ => h, fun _ => ?_⟩
    repeat' split
    all_goals simpa using h

end Sys2Proof.Machine
end

section
/-! The holder tags (R41 to R44, R149): the invariant by parts, and what the updates of the slot table, of an output and of the
queue keep of it. -/

namespace Sys2Proof.Machine

/-! ### The invariant by parts -/

/-- An output that is not ENABLED has nothing latched and no read queued. -/
def Engine.Clean (e : Engine) : Prop := e.state ≠ .enabled → e.latch = none ∧ e.queue = []

/-- What an engine shows and what its source is frozen or held on is READY and carries its tags. -/
def Engine.Tagged (x : OutId) (t : SlotTable) (e : Engine) : Prop :=
  ∀ k, (e.latchedSlot = some k → (t.slot k).state = .ready ∧ (t.slot k).shows x = true)
    ∧ (e.source.frozenSlot = some k → (t.slot k).state = .ready ∧ (t.slot k).freezes x = true)

/-- The queued requests for slot `k`. -/
def Store.requestsFor (st : Store) (k : Nat) : Nat := (st.queue.filter fun r => decide (r.slot = k)).length

/-- The output counts for the tags: no RESTART has it answer its queued reads. -/
def State.counts (s : State) (x : OutId) : Prop := s.ring.restarting = false ∨ (s.out x).leaving = false

/-- The slot table and the holder tags are sound. -/
structure State.Tagged (s : State) : Prop where
  sound : s.slots.Sound
  copies : ∀ k, (s.slots.slot k).copies = s.store.requestsFor k
  ready : ∀ k, 0 < (s.slots.slot k).copies → (s.slots.slot k).state = .ready
  clean : ∀ x, (s.out x).Clean
  held : ∀ x, s.counts x → (s.out x).Tagged x s.slots

theorem State.tagged_iff {s : State} : s.Tagged ↔ s.slots.Sound ∧ s.TagsSound := by
  constructor
  · intro ⟨sound, copies, ready, clean, held⟩
    exact ⟨sound, copies, ready, clean, fun x k counts => held x counts k⟩
  · intro ⟨sound, copies, ready, clean, held⟩
    exact ⟨sound, copies, ready, clean, fun x counts k => held x k counts⟩

/-! ### What the tags depend on -/

/-- The fields of an engine the tags speak of. -/
def Engine.tagView (e : Engine) : OutState × Option Latch × List QueuedRead × Bool × Source :=
  (e.state, e.latch, e.queue, e.leaving, e.source)

/-- The parts of the state the tags speak of. -/
def State.tagView (s : State) : SlotTable × List Request × Bool × (OutState × Option Latch × List QueuedRead × Bool × Source)
    × (OutState × Option Latch × List QueuedRead × Bool × Source) :=
  (s.slots, s.store.queue, s.ring.restarting, s.outA.tagView, s.outB.tagView)

theorem Engine.clean_of_view {e e' : Engine} (same : e'.tagView = e.tagView) : e'.Clean ↔ e.Clean := by
  simp only [Engine.tagView, Prod.mk.injEq] at same
  obtain ⟨state, latch, queue, -⟩ := same
  rw [Engine.Clean, Engine.Clean, state, latch, queue]

theorem Engine.tagged_of_view {e e' : Engine} {x : OutId} {t : SlotTable} (same : e'.tagView = e.tagView) :
    e'.Tagged x t ↔ e.Tagged x t := by
  simp only [Engine.tagView, Prod.mk.injEq] at same
  obtain ⟨-, latch, -, -, source⟩ := same
  rw [Engine.Tagged, Engine.Tagged, Engine.latchedSlot, Engine.latchedSlot, latch, source]

theorem Engine.leaving_of_view {e e' : Engine} (same : e'.tagView = e.tagView) : e'.leaving = e.leaving := by
  simp only [Engine.tagView, Prod.mk.injEq] at same
  exact same.2.2.2.1

theorem Store.requestsFor_of_queue {st st' : Store} (same : st'.queue = st.queue) (k : Nat) :
    st'.requestsFor k = st.requestsFor k := by
  rw [Store.requestsFor, Store.requestsFor, same]

/-! ### Tables of slots -/

/-- From `t` to `u` every slot keeps its COPY count, and a READY slot that is held its state and its tags. -/
def SlotTable.KeepsHeld (t u : SlotTable) : Prop :=
  ∀ k, (u.slot k).copies = (t.slot k).copies ∧ ((t.slot k).state = .ready → (t.slot k).isHeld = true →
    (u.slot k).state = .ready ∧ ∀ x, (u.slot k).shows x = (t.slot k).shows x ∧ (u.slot k).freezes x = (t.slot k).freezes x)

/-- From `t` to `u` only tags of output `x` change. -/
def SlotTable.SameBut (x : OutId) (t u : SlotTable) : Prop :=
  t.SameStates u ∧ ∀ k, (u.slot k).copies = (t.slot k).copies
    ∧ ∀ y, y ≠ x → (u.slot k).shows y = (t.slot k).shows y ∧ (u.slot k).freezes y = (t.slot k).freezes y

theorem Slot.isHeld_of_shows {sl : Slot} {x : OutId} (h : sl.shows x = true) : sl.isHeld = true := by
  cases x
  · simp only [Slot.shows] at h
    simp [Slot.isHeld, h]
  · simp only [Slot.shows] at h
    simp [Slot.isHeld, h]

theorem Slot.isHeld_of_freezes {sl : Slot} {x : OutId} (h : sl.freezes x = true) : sl.isHeld = true := by
  cases x
  · simp only [Slot.freezes] at h
    simp [Slot.isHeld, h]
  · simp only [Slot.freezes] at h
    simp [Slot.isHeld, h]

theorem Slot.isHeld_of_copies {sl : Slot} (h : 0 < sl.copies) : sl.isHeld = true := by simp [Slot.isHeld, h]

theorem Engine.Tagged.keepsHeld {e : Engine} {x : OutId} {t u : SlotTable} (h : e.Tagged x t) (keeps : t.KeepsHeld u) :
    e.Tagged x u := by
  intro k
  obtain ⟨latch, source⟩ := h k
  obtain ⟨-, held⟩ := keeps k
  refine ⟨fun latched => ?_, fun frozen => ?_⟩
  · obtain ⟨ready, shows⟩ := latch latched
    obtain ⟨ready', tags⟩ := held ready (Slot.isHeld_of_shows shows)
    exact ⟨ready', (tags x).1.trans shows⟩
  · obtain ⟨ready, freezes⟩ := source frozen
    obtain ⟨ready', tags⟩ := held ready (Slot.isHeld_of_freezes freezes)
    exact ⟨ready', (tags x).2.trans freezes⟩

theorem Engine.Tagged.of_tags {e : Engine} {x : OutId} {t u : SlotTable} (h : e.Tagged x t) (states : t.SameStates u)
    (tags : ∀ k, (u.slot k).shows x = (t.slot k).shows x ∧ (u.slot k).freezes x = (t.slot k).freezes x) :
    e.Tagged x u := by
  intro k
  rw [states.2.2, (tags k).1, (tags k).2]
  exact h k

theorem Engine.Tagged.sameBut {e : Engine} {x y : OutId} {t u : SlotTable} (h : e.Tagged y t) (same : t.SameBut x u)
    (other : y ≠ x) : e.Tagged y u :=
  h.of_tags same.1 fun k => (same.2 k).2 y other

/-- An update of a slot's COPY count. -/
theorem Engine.Tagged.recount {e : Engine} {x : OutId} {t : SlotTable} (h : e.Tagged x t) (k : Nat) (n : Slot → Nat) :
    e.Tagged x (t.onSlot k fun sl => { sl with copies := n sl }) :=
  h.of_tags (t.sameStates_onSlot (f := fun sl => { sl with copies := n sl }) (fun _ => rfl) k) fun j =>
    ⟨SlotTable.slot_onSlot_field (field := (·.shows x)) (f := fun sl => { sl with copies := n sl })
        (fun _ => by cases x <;> rfl) j k t,
      SlotTable.slot_onSlot_field (field := (·.freezes x)) (f := fun sl => { sl with copies := n sl })
        (fun _ => by cases x <;> rfl) j k t⟩

namespace SlotTable.SameBut

theorem refl (x : OutId) (t : SlotTable) : t.SameBut x t := ⟨.refl t, fun _ => ⟨rfl, fun _ _ => ⟨rfl, rfl⟩⟩⟩

theorem trans {x : OutId} {t u v : SlotTable} (h : t.SameBut x u) (h' : u.SameBut x v) : t.SameBut x v := by
  refine ⟨h.1.trans h'.1, fun k => ⟨(h'.2 k).1.trans (h.2 k).1, fun y other => ?_⟩⟩
  obtain ⟨shows, freezes⟩ := (h.2 k).2 y other
  obtain ⟨shows', freezes'⟩ := (h'.2 k).2 y other
  exact ⟨shows'.trans shows, freezes'.trans freezes⟩

/-- An update of one slot's tags for one output. -/
theorem onSlot {x : OutId} {f : Slot → Slot} (state : ∀ sl, (f sl).state = sl.state) (copies : ∀ sl, (f sl).copies = sl.copies)
    (tags : ∀ y, y ≠ x → ∀ sl, (f sl).shows y = sl.shows y ∧ (f sl).freezes y = sl.freezes y) (k : Nat) (t : SlotTable) :
    t.SameBut x (t.onSlot k f) := by
  refine ⟨t.sameStates_onSlot state k, fun j => ⟨SlotTable.slot_onSlot_field copies j k t, fun y other => ⟨?_, ?_⟩⟩⟩
  · exact SlotTable.slot_onSlot_field (field := (·.shows y)) (fun sl => (tags y other sl).1) j k t
  · exact SlotTable.slot_onSlot_field (field := (·.freezes y)) (fun sl => (tags y other sl).2) j k t

end SlotTable.SameBut

@[simp] theorem Slot.setShow_copies (x : OutId) (v : Bool) (sl : Slot) : (sl.setShow x v).copies = sl.copies := by
  cases x <;> rfl

@[simp] theorem Slot.setFreeze_copies (x : OutId) (v : Bool) (sl : Slot) : (sl.setFreeze x v).copies = sl.copies := by
  cases x <;> rfl

@[simp] theorem Slot.setShow_freezes (x y : OutId) (v : Bool) (sl : Slot) : (sl.setShow x v).freezes y = sl.freezes y := by
  cases x <;> cases y <;> rfl

@[simp] theorem Slot.setFreeze_shows (x y : OutId) (v : Bool) (sl : Slot) : (sl.setFreeze x v).shows y = sl.shows y := by
  cases x <;> cases y <;> rfl

theorem Slot.setShow_shows (x y : OutId) (v : Bool) (sl : Slot) :
    (sl.setShow x v).shows y = if y = x then v else sl.shows y := by cases x <;> cases y <;> rfl

theorem Slot.setFreeze_freezes (x y : OutId) (v : Bool) (sl : Slot) :
    (sl.setFreeze x v).freezes y = if y = x then v else sl.freezes y := by cases x <;> cases y <;> rfl

theorem SlotTable.sameBut_setShow (x : OutId) (v : Bool) (k : Nat) (t : SlotTable) :
    t.SameBut x (t.onSlot k (Slot.setShow x v)) :=
  .onSlot (Slot.setShow_state x v) (Slot.setShow_copies x v)
    (fun y other sl => ⟨by rw [Slot.setShow_shows, if_neg other], Slot.setShow_freezes x y v sl⟩) k t

theorem SlotTable.sameBut_setFreeze (x : OutId) (v : Bool) (k : Nat) (t : SlotTable) :
    t.SameBut x (t.onSlot k (Slot.setFreeze x v)) :=
  .onSlot (Slot.setFreeze_state x v) (Slot.setFreeze_copies x v)
    (fun y other sl => ⟨Slot.setFreeze_shows x y v sl, by rw [Slot.setFreeze_freezes, if_neg other]⟩) k t

theorem SlotTable.sameBut_takeShow (x : OutId) (k : Nat) (t : SlotTable) : t.SameBut x (t.takeShow x k) := by
  unfold SlotTable.takeShow
  split
  · exact t.sameBut_setShow x true k
  · exact .refl x t

theorem SlotTable.sameBut_takeFreeze (x : OutId) (k : Nat) (t : SlotTable) : t.SameBut x (t.takeFreeze x k) := by
  unfold SlotTable.takeFreeze
  split
  · exact t.sameBut_setFreeze x true k
  · exact .refl x t

/-- FREEZE tags alone change; or SHOW tags alone. -/
theorem SlotTable.slot_dropFreeze_shows (x y : OutId) (k j : Nat) (t : SlotTable) :
    ((t.dropFreeze x k).slot j).shows y = (t.slot j).shows y :=
  SlotTable.slot_onSlot_field (field := (·.shows y)) (Slot.setFreeze_shows x y false) j k t

theorem SlotTable.slot_dropShow_freezes (x y : OutId) (k j : Nat) (t : SlotTable) :
    ((t.dropShow x k).slot j).freezes y = (t.slot j).freezes y :=
  SlotTable.slot_onSlot_field (field := (·.freezes y)) (Slot.setShow_freezes x y false) j k t

theorem SlotTable.slot_takeFreeze_shows (x y : OutId) (k j : Nat) (t : SlotTable) :
    ((t.takeFreeze x k).slot j).shows y = (t.slot j).shows y := by
  unfold SlotTable.takeFreeze
  split
  · exact SlotTable.slot_onSlot_field (field := (·.shows y)) (Slot.setFreeze_shows x y true) j k t
  · rfl

theorem SlotTable.slot_takeShow_freezes (x y : OutId) (k j : Nat) (t : SlotTable) :
    ((t.takeShow x k).slot j).freezes y = (t.slot j).freezes y := by
  unfold SlotTable.takeShow
  split
  · exact SlotTable.slot_onSlot_field (field := (·.freezes y)) (Slot.setShow_freezes x y true) j k t
  · rfl

/-- A tag taken on a READY slot is there. -/
theorem SlotTable.freezes_takeFreeze {t : SlotTable} {k : Nat} (x : OutId) (ready : (t.slot k).state = .ready) :
    ((t.takeFreeze x k).slot k).freezes x = true := by
  rw [SlotTable.takeFreeze, if_pos ready, SlotTable.slot_onSlot_self
    (SlotTable.lt_of_state_ne_free (by rw [ready]; nofun)), Slot.setFreeze_freezes, if_pos rfl]

theorem SlotTable.shows_takeShow {t : SlotTable} {k : Nat} (x : OutId) (ready : (t.slot k).state = .ready) :
    ((t.takeShow x k).slot k).shows x = true := by
  rw [SlotTable.takeShow, if_pos ready, SlotTable.slot_onSlot_self
    (SlotTable.lt_of_state_ne_free (by rw [ready]; nofun)), Slot.setShow_shows, if_pos rfl]

/-! ### Fills, tears, completions -/

theorem SlotTable.keepsHeld_refl (t : SlotTable) : t.KeepsHeld t := fun _ => ⟨rfl, fun ready _ => ⟨ready, fun _ => ⟨rfl, rfl⟩⟩⟩

/-- An update of a slot that is not READY, or not held, and that leaves its COPY count. -/
theorem SlotTable.keepsHeld_onSlot {t : SlotTable} {k : Nat} {f : Slot → Slot}
    (copies : (f (t.slot k)).copies = (t.slot k).copies)
    (loose : (t.slot k).state ≠ .ready ∨ (t.slot k).isHeld = false) : t.KeepsHeld (t.onSlot k f) := by
  intro j
  rw [SlotTable.slot_onSlot]
  split
  next here =>
    obtain ⟨rfl, -⟩ := here
    refine ⟨copies, fun ready held => ?_⟩
    obtain other | free := loose
    · exact absurd ready other
    · exact absurd (free.symm.trans held) Bool.false_ne_true
  next => exact ⟨rfl, fun ready _ => ⟨ready, fun _ => ⟨rfl, rfl⟩⟩⟩

theorem SlotTable.keepsHeld_tear (t : SlotTable) : t.KeepsHeld t.tear := by
  unfold SlotTable.tear
  split
  next k found => exact SlotTable.keepsHeld_onSlot rfl (.inl (by rw [(SlotTable.filling_eq_some.1 found).2.1]; nofun))
  next => exact t.keepsHeld_refl

theorem SlotTable.keepsHeld_complete (t : SlotTable) : t.KeepsHeld t.complete := by
  unfold SlotTable.complete
  split
  next k found =>
    exact SlotTable.keepsHeld_onSlot (f := fun sl => { sl with state := .ready }) rfl
      (.inl (by rw [(SlotTable.filling_eq_some.1 found).2.1]; nofun))
  next => exact t.keepsHeld_refl

theorem SlotTable.keepsHeld_degrade (t : SlotTable) : t.KeepsHeld t.degrade := by
  unfold SlotTable.degrade
  split
  next k found => exact SlotTable.keepsHeld_onSlot rfl (.inl (by rw [(SlotTable.filling_eq_some.1 found).2.1]; nofun))
  next => exact t.keepsHeld_refl

/-- R35: the slot chosen to fill carries no tag. -/
theorem SlotTable.keepsHeld_fill {t : SlotTable} {k : Nat} (chosen : t.chooseFill = some k) (sound : t.Sound)
    (tagged : ∀ k, 0 < (t.slot k).copies → (t.slot k).state = .ready) (frame : Count) (kind : FrameKind) :
    t.KeepsHeld (t.fill k frame kind) := by
  obtain ⟨-, -, ready, -⟩ := sound
  have loose : (t.slot k).copies = 0 ∧ ((t.slot k).state ≠ .ready ∨ (t.slot k).isHeld = false) := by
    obtain ⟨-, free⟩ | ⟨-, unheld⟩ := SlotTable.chooseFill_cases chosen
    · have other : (t.slot k).state ≠ .ready := by rw [free]; nofun
      exact ⟨Nat.eq_zero_of_not_pos fun held => other (tagged k held), .inl other⟩
    · refine ⟨Nat.eq_zero_of_not_pos fun held => ?_, .inr unheld⟩
      exact absurd (unheld.symm.trans (Slot.isHeld_of_copies held)) Bool.false_ne_true
  exact SlotTable.keepsHeld_onSlot loose.1.symm loose.2

theorem SlotTable.KeepsHeld.trans {t u v : SlotTable} (h : t.KeepsHeld u) (h' : u.KeepsHeld v) : t.KeepsHeld v := by
  intro k
  obtain ⟨copies, held⟩ := h k
  obtain ⟨copies', held'⟩ := h' k
  refine ⟨copies'.trans copies, fun ready tagged => ?_⟩
  obtain ⟨ready1, tags⟩ := held ready tagged
  have tagged1 : (u.slot k).isHeld = true := by
    obtain ⟨showA, freezeA⟩ := tags .a
    obtain ⟨showB, freezeB⟩ := tags .b
    simp only [Slot.shows, Slot.freezes] at showA showB freezeA freezeB
    simpa only [Slot.isHeld, showA, showB, freezeA, freezeB, copies] using tagged
  obtain ⟨ready2, tags'⟩ := held' ready1 tagged1
  exact ⟨ready2, fun x => ⟨(tags' x).1.trans (tags x).1, (tags' x).2.trans (tags x).2⟩⟩

end Sys2Proof.Machine
end

section
/-! What the operations keep of the holder tags: those that touch no tag, the queue of requests, the monitor's holds, the
capture side, the outputs. -/

namespace Sys2Proof.Machine

theorem otherOut_ne (x : OutId) : otherOut x ≠ x := by cases x <;> nofun

theorem eq_otherOut {x y : OutId} (h : y ≠ x) : y = otherOut x := by
  cases x <;> cases y
  · exact absurd rfl h
  · rfl
  · rfl
  · exact absurd rfl h

/-! ### The restarting flag, the queue -/

@[simp] theorem State.answerRecord_restarting (i : Nat) (rec : List Byte) (st : Status) (s : State) :
    (s.answerRecord i rec st).ring.restarting = s.ring.restarting := rfl

@[simp] theorem State.answer_restarting (c : Instr) (st : Status) (s : State) :
    (s.answer c st).ring.restarting = s.ring.restarting := by
  unfold State.answer
  dsimp only
  repeat' split
  all_goals rfl

@[simp] theorem State.accept_restarting (c : Instr) (s : State) : (s.accept c).ring.restarting = s.ring.restarting := by
  unfold State.accept
  repeat' split
  all_goals rfl

@[simp] theorem State.answerAccepted_restarting (ty : Nat) (st : Status) (s : State) :
    (s.answerAccepted ty st).ring.restarting = s.ring.restarting := by
  unfold State.answerAccepted
  dsimp only
  repeat' split
  all_goals rfl

@[simp] theorem State.raiseFetch_restarting (s : State) : s.raiseFetch.ring.restarting = s.ring.restarting := rfl

@[simp] theorem State.takeSubmit_restarting (v : Nat) (s : State) :
    (s.takeSubmit v).ring.restarting = s.ring.restarting := by
  unfold State.takeSubmit
  dsimp only
  repeat' split
  all_goals rfl

@[simp] theorem State.retire_restarting (i : Nat) (rec : List Byte) (s : State) :
    (s.retire i rec).ring.restarting = s.ring.restarting := by
  unfold State.retire
  dsimp only
  repeat' split
  all_goals simp

@[simp] theorem State.statusWriteReturned_restarting (i : Nat) (s : State) :
    (s.statusWriteReturned i).ring.restarting = s.ring.restarting := by
  unfold State.statusWriteReturned
  repeat' split
  all_goals simp

@[simp] theorem State.fetchFailed_restarting (addr : Nat) (s : State) :
    (s.fetchFailed addr).ring.restarting = s.ring.restarting := by
  simp [State.fetchFailed]

@[simp] theorem State.raiseChunk_queue (p : Nat) (s : State) : (s.raiseChunk p).store.queue = s.store.queue := by
  unfold State.raiseChunk
  split <;> rfl

@[simp] theorem State.raiseOrPause_queue (p : Nat) (s : State) : (s.raiseOrPause p).store.queue = s.store.queue := by
  unfold State.raiseOrPause
  split
  · simp
  · rfl

@[simp] theorem State.copyResume_queue (s : State) : s.copyResume.store.queue = s.store.queue := by
  unfold State.copyResume
  split
  · simp
  · rfl

@[simp] theorem State.sampleDie_queue (die : Int) (s : State) : (s.sampleDie die).store.queue = s.store.queue := by
  unfold State.sampleDie State.thermalChange
  dsimp only
  repeat' split
  all_goals simp

@[simp] theorem State.copyFrameEnd_queue (s : State) : s.copyFrameEnd.store.queue = s.store.queue := by
  unfold State.copyFrameEnd
  split <;> rfl

@[simp] theorem State.captureFrameEnd_queue (die : Int) (s : State) :
    (s.captureFrameEnd die).store.queue = s.store.queue := by
  simp [State.captureFrameEnd]

@[simp] theorem State.startCopy_queue (p : Nat) (s : State) : (s.startCopy p).store.queue = s.store.queue := by
  unfold State.startCopy
  split
  · dsimp only
    split
    · rw [State.raiseOrPause_queue, State.request_store]
      rfl
    · rw [State.raiseOrPause_queue, State.requestStatus_store, State.request_store]
      rfl
  · rfl

@[simp] theorem State.handover_queue (p : Nat) (s : State) : (s.handover p).store.queue = s.store.queue := by
  unfold State.handover
  dsimp only
  split
  · simp
  · rfl

@[simp] theorem State.unmark_queue (p : Nat) (f : Rec → Rec) (s : State) :
    (s.unmark p f).store.queue = s.store.queue := by
  rw [State.unmark, State.handover_queue]
  rfl

@[simp] theorem State.dropRecalls_queue (x : OutId) : ∀ (l : List Nat) (s : State),
    (s.dropRecalls x l).store.queue = s.store.queue
  | [], _ => rfl
  | p :: l, s => by
    unfold State.dropRecalls
    rw [State.dropRecalls_queue x l]
    split
    · simp
    · rfl

namespace State.Tagged

variable {s t u : State} {x : OutId}

/-! ### One update -/

theorem of_view (h : u.Tagged) (same : t.tagView = u.tagView) : t.Tagged := by
  simp only [State.tagView, Prod.mk.injEq] at same
  obtain ⟨slots, queue, restarting, outA, outB⟩ := same
  have out (y : OutId) : (t.out y).tagView = (u.out y).tagView := by cases y; exacts [outA, outB]
  constructor
  · exact slots ▸ h.sound
  · intro k
    rw [slots, Store.requestsFor_of_queue queue]
    exact h.copies k
  · exact slots ▸ h.ready
  · exact fun y => (Engine.clean_of_view (out y)).2 (h.clean y)
  · intro y counts
    rw [State.counts, restarting, Engine.leaving_of_view (out y)] at counts
    rw [slots]
    exact (Engine.tagged_of_view (out y)).2 (h.held y counts)

/-- The slot table alone changes, and no held slot. -/
theorem onSlots {f : SlotTable → SlotTable} (h : u.Tagged) (sound : (f u.slots).Sound) (keeps : u.slots.KeepsHeld (f u.slots)) :
    (u.onSlots f).Tagged where
  sound := sound
  copies k := (keeps k).1.trans (h.copies k)
  ready k held := by
    have old : 0 < (u.slots.slot k).copies := (keeps k).1 ▸ held
    exact ((keeps k).2 (h.ready k old) (Slot.isHeld_of_copies old)).1
  clean := h.clean
  held y counts := (h.held y counts).keepsHeld keeps

/-- Output `x` and tags of its own change. -/
theorem onOutput (h : u.Tagged) (x : OutId) (same : u.slots.SameBut x t.slots) (queue : t.store.queue = u.store.queue)
    (restarting : t.ring.restarting = u.ring.restarting)
    (other : (t.out (otherOut x)).tagView = (u.out (otherOut x)).tagView) (clean : (t.out x).Clean)
    (held : t.counts x → (t.out x).Tagged x t.slots) : t.Tagged := by
  obtain ⟨states, tags⟩ := same
  constructor
  · exact states.sound h.sound
  · intro k
    rw [(tags k).1, Store.requestsFor_of_queue queue]
    exact h.copies k
  · intro k copies
    rw [(tags k).1] at copies
    exact (states.2.2 k).trans (h.ready k copies)
  · intro y
    by_cases here : y = x
    · exact here ▸ clean
    · rw [eq_otherOut here]
      exact (Engine.clean_of_view other).2 (h.clean _)
  · intro y counts
    by_cases here : y = x
    · subst here
      exact held counts
    · rw [eq_otherOut here] at counts ⊢
      rw [State.counts, restarting, Engine.leaving_of_view other] at counts
      exact (Engine.tagged_of_view other).2 ((h.held _ counts).sameBut ⟨states, tags⟩ (otherOut_ne x))

/-- Output `x` alone changes. -/
theorem onOut {f : Engine → Engine} (h : u.Tagged) (clean : (f (u.out x)).Clean)
    (held : (u.ring.restarting = false ∨ (f (u.out x)).leaving = false) → (f (u.out x)).Tagged x u.slots) :
    (u.onOut x f).Tagged := by
  refine h.onOutput x ?_ (by simp) (by simp) ?_ (by simpa using clean) fun counts => ?_
  · simpa using SlotTable.SameBut.refl x u.slots
  · rw [State.onOut_out_ne (y := otherOut x) (h := otherOut_ne x)]
  · rw [State.onOut_out, State.onOut_slots]
    exact held (by simpa [State.counts] using counts)

/-- An update of an engine that leaves what the tags speak of. -/
theorem onOut_of_eq {f : Engine → Engine} (h : u.Tagged) (same : (f (u.out x)).tagView = (u.out x).tagView) :
    (u.onOut x f).Tagged := by
  refine h.onOut ((Engine.clean_of_view same).2 (h.clean x)) fun counts => ?_
  rw [Engine.leaving_of_view same] at counts
  exact (Engine.tagged_of_view same).2 (h.held x counts)

/-! ### The queue of requests -/

/-- A request leaves with its COPY tag. -/
theorem popHead {o : Outcome} {k : EventKind} (h : u.Tagged) : (u.popHead o k).Tagged := by
  cases queue : u.store.queue with
  | nil => simpa [State.popHead, queue] using h
  | cons r rest =>
    have slots : (u.popHead o k).slots = u.slots.dropCopy r.slot := by simp [State.popHead, queue]
    have same : u.slots.SameStates (u.slots.dropCopy r.slot) := u.slots.sameStates_dropCopy r.slot
    have copies (j : Nat) : ((u.slots.dropCopy r.slot).slot j).copies =
        if j = r.slot then (u.slots.slot j).copies - 1 else (u.slots.slot j).copies := by
      refine (congrArg Slot.copies (SlotTable.slot_onSlot j r.slot _ u.slots)).trans ?_
      by_cases here : j = r.slot
      · subst here
        by_cases inside : r.slot < u.slots.slots.length
        · simp [inside]
        · simp [inside, SlotTable.slot_of_length_le (Nat.le_of_not_lt inside), Slot.reset]
      · simp [here]
    constructor
    · exact slots ▸ same.sound h.sound
    · intro j
      have old := h.copies j
      rw [slots, copies, State.popHead_store queue, Store.requestsFor]
      simp only [Store.requestsFor, queue, List.filter_cons] at old
      by_cases here : r.slot = j
      · simp only [here, decide_true, if_true, List.length_cons] at old
        simp [here, old]
      · simp only [here, decide_false, Bool.false_eq_true, if_false] at old
        simp [Ne.symm here, old]
    · intro j held
      rw [slots, copies] at held
      rw [slots, same.2.2]
      refine h.ready j ?_
      split at held
      · exact Nat.lt_of_lt_of_le held (Nat.sub_le _ _)
      · exact held
    · intro y
      cases y
      · simpa using h.clean .a
      · simpa using h.clean .b
    · intro y counts
      have out : (u.popHead o k).out y = u.out y := by cases y <;> simp
      rw [State.counts, out, State.popHead_ring] at counts
      rw [out, slots]
      exact (h.held y counts).recount r.slot fun sl => sl.copies - 1

theorem serveQueue : ∀ (fuel : Nat) {u : State}, u.Tagged → (u.serveQueue fuel).Tagged
  | 0, u, h => h.of_view rfl
  | fuel + 1, u, h => by
    unfold State.serveQueue
    split
    · exact h.of_view rfl
    · split
      · exact h.of_view (by simp [State.tagView])
      · exact h.of_view rfl
      · exact serveQueue fuel h.popHead

theorem nextRequest (h : u.Tagged) : u.nextRequest.Tagged := serveQueue _ h

/-- R149: a request for a READY slot joins the queue with its COPY tag. -/
theorem takeRequest {k : Nat} {auto keep : Bool} (h : u.Tagged) (ready : (u.slots.slot k).state = .ready) :
    (u.takeRequest k auto keep).Tagged := by
  have inside : k < u.slots.slots.length := SlotTable.lt_of_state_ne_free (by rw [ready]; nofun)
  have joined : ((((u.onStore fun st => { st with page := if st.lesson.isSome then st.nextPage else st.page
      }).onStore fun st => { st with queue := st.queue ++ [u.buildRequest k auto keep] }).onSlots
      (·.takeCopy (u.buildRequest k auto keep).slot)).requestStatus).Tagged := by
    have copies (j : Nat) : ((u.slots.takeCopy k).slot j).copies =
        if j = k then (u.slots.slot j).copies + 1 else (u.slots.slot j).copies := by
      refine (congrArg Slot.copies (SlotTable.slot_onSlot j k _ u.slots)).trans ?_
      by_cases here : j = k
      · simp [here, inside]
      · simp [here]
    constructor
    · exact (u.slots.sameStates_takeCopy k).sound h.sound
    · intro j
      refine (copies j).trans ?_
      have old := h.copies j
      simp only [Store.requestsFor] at old
      rw [Store.requestsFor]
      simp only [State.requestStatus_store, State.onSlots_store, State.onStore_store, List.filter_append,
        List.length_append, ← old]
      by_cases here : j = k
      · simp [here, State.buildRequest]
      · simp [here, Ne.symm here, State.buildRequest]
    · intro j held
      refine ((u.slots.sameStates_takeCopy k).2.2 j).trans ?_
      by_cases here : j = k
      · exact here ▸ ready
      · have same := copies j
        rw [if_neg here] at same
        exact h.ready j (same ▸ held)
    · exact h.clean
    · exact fun y counts => (h.held y counts).recount k fun sl => sl.copies + 1
  unfold State.takeRequest State.joinQueue
  dsimp only
  split
  · exact joined.nextRequest
  · exact joined

end State.Tagged

end Sys2Proof.Machine
end

section
/-! What the outputs' sources, the monitor's holds, the capture side and the releases keep of the holder tags. -/

namespace Sys2Proof.Machine

/-! ### FREEZE and SHOW tags released -/

theorem State.sameBut_dropFreeze (x : OutId) (s : State) : s.slots.SameBut x (s.dropFreeze x).slots := by
  unfold State.dropFreeze
  split
  · exact s.slots.sameBut_setFreeze x false _
  · exact .refl x _

theorem State.dropFreeze_shows (x y : OutId) (k : Nat) (s : State) :
    ((s.dropFreeze x).slots.slot k).shows y = (s.slots.slot k).shows y := by
  unfold State.dropFreeze
  split
  · exact SlotTable.slot_dropFreeze_shows x y _ k _
  · rfl

theorem State.sameBut_dropShow (x : OutId) (s : State) : s.slots.SameBut x (s.dropShow x).slots := by
  unfold State.dropShow
  split
  · exact s.slots.sameBut_setShow x false _
  · exact .refl x _

theorem State.dropShow_freezes (x y : OutId) (k : Nat) (s : State) :
    ((s.dropShow x).slots.slot k).freezes y = (s.slots.slot k).freezes y := by
  unfold State.dropShow
  split
  · exact SlotTable.slot_dropShow_freezes x y _ k _
  · rfl

theorem State.sameBut_takeShow (x : OutId) (w : Option Latched) (s : State) :
    s.slots.SameBut x (s.takeShow x w).slots := by
  unfold State.takeShow
  split
  · exact s.slots.sameBut_takeShow x _
  · exact .refl x _

theorem State.takeShow_freezes (x y : OutId) (w : Option Latched) (k : Nat) (s : State) :
    ((s.takeShow x w).slots.slot k).freezes y = (s.slots.slot k).freezes y := by
  unfold State.takeShow
  split
  · exact SlotTable.slot_takeShow_freezes x y _ k _
  · rfl

@[simp] theorem State.dropFreeze_out (x y : OutId) (s : State) : (s.dropFreeze x).out y = s.out y := by cases y <;> simp

@[simp] theorem State.dropShow_out (x y : OutId) (s : State) : (s.dropShow x).out y = s.out y := by cases y <;> simp

@[simp] theorem State.takeShow_out (x y : OutId) (w : Option Latched) (s : State) : (s.takeShow x w).out y = s.out y := by
  cases y <;> simp

@[simp] theorem State.dropRecalls_out (x y : OutId) (l : List Nat) (s : State) : (s.dropRecalls x l).out y = s.out y := by
  cases y <;> simp

theorem State.onOut_out_other {x : OutId} {f : Engine → Engine} {s : State} :
    (s.onOut x f).out (otherOut x) = s.out (otherOut x) :=
  State.onOut_out_ne _ _ _ _ (otherOut_ne x)

namespace State.Tagged

variable {s t u : State} {x : OutId}

/-! ### Sources -/

/-- The source of output `x` gives its FREEZE tag up for one that carries none. -/
theorem thawed {f : Engine → Engine} (h : u.Tagged) (source : (f (u.out x)).source.frozenSlot = none)
    (state : (f (u.out x)).state = (u.out x).state) (latch : (f (u.out x)).latch = (u.out x).latch)
    (queue : (f (u.out x)).queue = (u.out x).queue) (leaving : (f (u.out x)).leaving = (u.out x).leaving) :
    ((u.dropFreeze x).onOut x f).Tagged := by
  refine h.onOutput x ?_ (by simp) (by simp) (by rw [State.onOut_out_other, State.dropFreeze_out]) ?_ fun counts => ?_
  · rw [State.onOut_slots]
    exact u.sameBut_dropFreeze x
  · rw [State.onOut_out, State.dropFreeze_out, Engine.Clean, state, latch, queue]
    exact h.clean x
  · rw [State.counts, State.onOut_out, State.onOut_ring, State.dropFreeze_out, State.dropFreeze_ring, leaving] at counts
    rw [State.onOut_out, State.dropFreeze_out, State.onOut_slots]
    intro k
    rw [Engine.latchedSlot, latch, source, State.dropFreeze_shows, (u.sameBut_dropFreeze x).1.2.2]
    exact ⟨(h.held x counts k).1, nofun⟩

/-- The source of output `x` is frozen or held on the slot shown. -/
theorem frozen {f : Engine → Engine} {k : Nat} (h : u.Tagged) (shown : (u.out x).latchedSlot = some k)
    (source : (f (u.out x)).source.frozenSlot = some k)
    (state : (f (u.out x)).state = (u.out x).state) (latch : (f (u.out x)).latch = (u.out x).latch)
    (queue : (f (u.out x)).queue = (u.out x).queue) (leaving : (f (u.out x)).leaving = (u.out x).leaving) :
    ((u.onSlots (·.takeFreeze x k)).onOut x f).Tagged := by
  have out (y : OutId) : (u.onSlots (·.takeFreeze x k)).out y = u.out y := by cases y <;> rfl
  refine h.onOutput x ?_ (by simp) (by simp) (by rw [State.onOut_out_other, out]) ?_ fun counts => ?_
  · rw [State.onOut_slots]
    exact u.slots.sameBut_takeFreeze x k
  · rw [State.onOut_out, out, Engine.Clean, state, latch, queue]
    exact h.clean x
  · rw [State.counts, State.onOut_out, State.onOut_ring, out, leaving] at counts
    rw [State.onOut_out, out, State.onOut_slots]
    obtain ⟨ready, -⟩ := (h.held x counts k).1 shown
    intro j
    rw [Engine.latchedSlot, latch, source, State.onSlots_slots, SlotTable.slot_takeFreeze_shows,
      (u.slots.sameStates_takeFreeze x k).2.2]
    refine ⟨(h.held x counts j).1, fun same => ?_⟩
    cases same
    exact ⟨ready, SlotTable.freezes_takeFreeze x ready⟩

/-! ### The monitor's holds -/

theorem holdOutput (h : u.Tagged) : (u.holdOutput x).Tagged := by
  unfold State.holdOutput
  split
  · split
    next k shown =>
      refine (h.frozen (f := fun e => { e with source := .held k }) shown rfl rfl rfl rfl rfl).of_view ?_
      cases x <;> rfl
    next =>
      refine of_view (u := u.onOut x fun e => { e with source := .heldNone }) (h.onOut (h.clean x) fun counts k => ?_) ?_
      · exact ⟨(h.held x counts k).1, nofun⟩
      · cases x <;> rfl
  · exact h

theorem unholdOutput (h : u.Tagged) : (u.unholdOutput x).Tagged := by
  unfold State.unholdOutput
  split
  · extract_lets s1
    refine of_view (u := s1) ?_ (by simp [State.tagView])
    unfold s1
    split
    next k held =>
      refine (h.thawed (x := x) (f := fun e => { e with source := .live }) rfl rfl rfl rfl rfl).of_view ?_
      have freezes : (u.out x).source.frozenSlot = some k := by rw [held]; rfl
      have dropped : u.dropFreeze x = u.onSlots (·.dropFreeze x k) := by rw [State.dropFreeze, freezes]
      rw [dropped]
      cases x <;> rfl
    next none =>
      refine h.onOut (h.clean x) fun counts k => ⟨(h.held x counts k).1, nofun⟩
    next => exact h
  · exact h

theorem unholdAll (h : u.Tagged) : u.unholdAll.Tagged := h.unholdOutput.unholdOutput

theorem wakeActive (h : u.Tagged) : u.wakeActive.Tagged := by
  refine of_view (u := State.unholdAll ((u.onMon fun m => { m with state := .active, idle := 0, scan := 0, presence := 0
    }).raise .woken)) (unholdAll (h.of_view (by simp [State.tagView]))) ?_
  simp [State.tagView, State.wakeActive]

theorem touch (h : u.Tagged) : u.touch.Tagged := by
  unfold State.touch
  split
  · exact h.wakeActive
  · exact h.of_view rfl

theorem enterStandby (h : u.Tagged) : u.enterStandby.Tagged := by
  refine of_view (u := (((u.onMon fun m => { m with state := .standby, scan := 0, presence := 0 }).raise .standby).holdOutput
    .a).holdOutput .b) (holdOutput (holdOutput (h.of_view (by simp [State.tagView])))) ?_
  simp [State.tagView, State.enterStandby]

theorem wakeMotion {sig : Signature} (h : u.Tagged) : (u.wakeMotion sig).Tagged := by
  refine of_view (u := State.unholdAll ((u.onMon fun m => { m with
      state := .motion, previous := some sig.means, stable := 0, idle := 0, scan := 0, presence := 0 }).raise .woken))
    (unholdAll (h.of_view (by simp [State.tagView]))) ?_
  simp [State.tagView, State.wakeMotion]

theorem activeFrame {sig : Signature} (h : u.Tagged) : (u.activeFrame sig).Tagged := by
  unfold State.activeFrame
  split
  · exact h
  · extract_lets sc s1 idle s2
    repeat' split
    · exact h.of_view (by simp [State.tagView, s1])
    · exact of_view (u := s2.enterStandby) (enterStandby (h.of_view rfl)) (by simp [State.tagView])
    · exact h.of_view rfl

theorem standbyFrame {sig : Signature} (h : u.Tagged) : (u.standbyFrame sig).Tagged := by
  unfold State.standbyFrame
  extract_lets scan
  split
  · split
    · exact h.of_view rfl
    · extract_lets sc s1
      repeat' split
      · exact of_view (u := s1.wakeMotion sig) (wakeMotion (h.of_view rfl)) (by simp [State.tagView])
      · exact h.of_view (by simp [State.tagView, s1])
      · exact h.of_view rfl
  · exact h.of_view rfl

theorem receiveSignature {sig : Signature} (h : u.Tagged) : (u.receiveSignature sig).Tagged := by
  have last : (u.onMon fun m => { m with last := some sig }).Tagged := h.of_view rfl
  unfold State.receiveSignature
  extract_lets s1
  split
  · exact h
  · exact last.of_view (by simp [State.tagView, s1])
  · exact last.activeFrame
  · exact last.standbyFrame

theorem monitorStop (h : u.Tagged) : u.monitorStop.Tagged := by
  have freed := h.unholdAll
  unfold State.monitorStop
  dsimp only
  split
  · exact freed.of_view rfl
  · exact freed.of_view (by simp [State.tagView])

theorem takeMonitorSettings {n : MonSettings} (h : u.Tagged) : (u.takeMonitorSettings n).Tagged := by
  unfold State.takeMonitorSettings
  extract_lets s1
  split
  · exact of_view (u := State.unholdAll ((s1.onMon fun m => { m with state := .active, idle := 0 }).raise .woken))
      (unholdAll (h.of_view (by simp [State.tagView, s1]))) (by simp [State.tagView])
  · exact h.of_view rfl

/-! ### The capture side -/

theorem captureFrameEnd {die : Int} (h : u.Tagged) : (u.captureFrameEnd die).Tagged :=
  h.of_view (by simp [State.tagView])

theorem giveSignature (h : u.Tagged) : u.giveSignature.Tagged := by
  unfold State.giveSignature
  split
  · exact h
  · exact h.receiveSignature

theorem frameEnded {die : Int} (h : u.Tagged) : (u.frameEnded die).Tagged := by
  have whites : u.updateWhiteMap.Tagged := h.of_view (by simp [State.tagView])
  exact (captureFrameEnd (die := die) whites.giveSignature).of_view rfl

theorem finishStop (h : u.Tagged) : u.finishStop.Tagged := by
  refine of_view (u := State.monitorStop (u.onCap fun c => { c with
    running := false, tracker := .none, stopping := false, live := c.staged })) (monitorStop (h.of_view rfl)) ?_
  simp [State.tagView, State.finishStop]

theorem finishStopping (h : u.Tagged) : u.finishStopping.Tagged := by
  unfold State.finishStopping
  split
  · exact h.finishStop
  · exact h

theorem degradeFrame (h : u.Tagged) : u.degradeFrame.Tagged := by
  unfold State.degradeFrame
  split
  · exact h
  · have raised : (State.raise .frameDegraded (u.onCap fun c => { c with degraded := true, degradedCount := c.degradedCount + 1
      })).Tagged := h.of_view (by simp [State.tagView])
    exact raised.onSlots ((SlotTable.sameStates_degrade _).sound raised.sound) (SlotTable.keepsHeld_degrade _)

theorem breakOrder {g : CapGeom} (h : u.Tagged) : (u.breakOrder g).Tagged := by
  unfold State.breakOrder
  extract_lets s1
  have broken : s1.Tagged := degradeFrame (h.of_view rfl)
  repeat' split
  · exact h
  · exact broken
  · exact broken.of_view (by simp [State.tagView])

theorem receiptEnd {g : CapGeom} {endOff : Nat} {die : Int} (h : u.Tagged) : (u.receiptEnd g endOff die).Tagged := by
  unfold State.receiptEnd
  repeat' split
  · exact h.frameEnded
  · exact h.of_view rfl
  · exact h

theorem frameWrite {t : Txn} {g : CapGeom} {off : Nat} {die : Int} (h : u.Tagged) : (u.frameWrite t g off die).Tagged := by
  rw [State.frameWrite_eq]
  have ordered : (if off = u.cap.expected then u else u.breakOrder g).Tagged := by
    split
    · exact h
    · exact h.breakOrder
  exact receiptEnd (ordered.of_view (by simp [State.tagView]))

/-- R35, R36: the slot filled carries no tag. -/
theorem fillRequest (h : u.Tagged) : u.fillRequest.Tagged := by
  have torn := h.onSlots (f := SlotTable.tear) (SlotTable.sound_tear h.sound) (SlotTable.keepsHeld_tear _)
  unfold State.fillRequest
  dsimp only
  split
  next k chosen =>
    have fills := torn.onSlots (f := SlotTable.fill k u.cap.frameNo u.cap.frameKind)
      (SlotTable.sound_fill torn.sound (SlotTable.filling_tear h.sound) (SlotTable.chooseFill_lt torn.sound chosen) _ _)
      (SlotTable.keepsHeld_fill chosen torn.sound torn.ready _ _)
    exact fills.of_view rfl
  next =>
    have counted := torn.onSlots (f := fun t => { t with drops := t.drops + 1 }) torn.sound
      fun _ => ⟨rfl, fun ready _ => ⟨ready, fun _ => ⟨rfl, rfl⟩⟩⟩
    exact counted.of_view (by simp [State.tagView])

theorem startFrame (h : u.Tagged) : u.startFrame.Tagged := by
  unfold State.startFrame
  extract_lets s1
  have fixed : s1.Tagged := h.of_view rfl
  exact fixed.fillRequest.of_view rfl

theorem tearFrame (h : u.Tagged) : u.tearFrame.Tagged :=
  (h.onSlots (f := SlotTable.tear) (SlotTable.sound_tear h.sound) (SlotTable.keepsHeld_tear _)).of_view rfl

theorem tearEnded {die : Int} (h : u.Tagged) : (u.tearEnded die).Tagged := captureFrameEnd (h.of_view rfl)

theorem holdUntaken {t : Txn} (h : u.Tagged) : (u.holdUntaken t).Tagged := h.of_view (by simp [State.tagView])

theorem leaveUntaken {t : Txn} (h : u.Tagged) : (u.leaveUntaken t).Tagged := h.of_view (by simp [State.tagView])

theorem present {t : Txn} {accepts : Bool} {take : State → State} (h : u.Tagged)
    (taken : (take (u.leaveUntaken t)).Tagged) : (u.present t accepts take).Tagged := by
  unfold State.present
  split
  · exact taken
  · exact h.holdUntaken

theorem captureWrite {t : Txn} {g : CapGeom} {off : Nat} {die : Int} (h : u.Tagged) :
    (u.captureWrite t g off die).Tagged := by
  unfold State.captureWrite
  repeat' split
  · exact h.holdUntaken
  · exact h.present h.leaveUntaken.frameWrite
  · exact h.present (h.of_view (by simp [State.tagView]))
  · exact h.present (h.of_view (by simp [State.tagView]))

theorem frameStart {t : Txn} {g : CapGeom} {die : Int} (h : u.Tagged) : (u.frameStart t g die).Tagged := by
  unfold State.frameStart
  dsimp only
  repeat' split
  · exact h.holdUntaken
  · exact h.present h.leaveUntaken.startFrame.frameWrite
  · exact h.holdUntaken
  · exact h.tearFrame.tearEnded.leaveUntaken.startFrame.frameWrite
  · exact h.tearFrame.holdUntaken
  · exact h.holdUntaken

theorem takeStop {die : Int} (h : u.Tagged) : (u.takeStop die).Tagged := by
  unfold State.takeStop
  dsimp only
  repeat' split
  · exact h.of_view rfl
  · exact h.finishStop
  · exact h.of_view rfl
  · exact h.tearFrame.tearEnded.finishStop
  · exact h.tearFrame.of_view rfl

theorem lumaError {addr : Nat} (h : u.Tagged) : (u.lumaError addr).Tagged := by
  unfold State.lumaError
  split
  · exact h
  · exact degradeFrame (h.of_view (by simp [State.tagView]))

/-! ### The copy engine -/

theorem answer {c : Instr} {st : Status} (h : u.Tagged) : (u.answer c st).Tagged := h.of_view (by simp [State.tagView])

theorem copyFailed {p : Nat} {k : FaultKind} {addr : Nat} (h : u.Tagged) : (u.copyFailed p k addr).Tagged :=
  nextRequest (popHead (h.of_view (by simp [State.tagView, Store.freeRec])))

theorem copyComplete {p : Nat} (h : u.Tagged) : (u.copyComplete p).Tagged :=
  nextRequest (popHead (h.of_view (by simp [State.tagView])))

theorem chunkReturned {c : ChunkTxn} {r : Resp} {data : List Byte} (h : u.Tagged) : (u.chunkReturned c r data).Tagged := by
  unfold State.chunkReturned
  split
  next p _ =>
    extract_lets s1
    have same : s1.Tagged := h.of_view rfl
    split
    · split
      · unfold State.readsReturned
        split
        · exact same.copyFailed
        · exact same.of_view rfl
      · unfold State.writesReturned
        split
        · exact same.copyFailed
        · extract_lets total s2
          have advanced : s2.Tagged := same.of_view rfl
          split
          · exact advanced.copyComplete
          · exact advanced.of_view (by simp [State.tagView])
    · exact same
  next => exact h

theorem endWaitBy {p : Nat} (h : u.Tagged) : (u.endWaitBy p).Tagged := by
  unfold State.endWaitBy
  split
  · exact nextRequest (h.of_view rfl)
  · exact h

end State.Tagged

end Sys2Proof.Machine
end

section
/-! The holder tags when an output leaves, starts a frame or is restarted, and when RESTART and CONFIGURE_CAPTURE
clear the slots. -/

namespace Sys2Proof.Machine

theorem Engine.FetchesTo.tagView {e e' : Engine} (h : e.FetchesTo e') : e'.tagView = e.tagView := by
  obtain ⟨_, _, _, rfl⟩ := h
  rfl

/-- An engine that shows nothing and whose source carries no tag. -/
theorem Engine.tagged_of_none {e : Engine} {x : OutId} {t : SlotTable} (latch : e.latch = none)
    (source : e.source.frozenSlot = none) : e.Tagged x t := by
  intro k
  rw [Engine.latchedSlot, latch, source]
  exact ⟨nofun, nofun⟩

@[simp] theorem Source.frozenSlot_afterDisable (src : Source) : src.afterDisable.frozenSlot = none := by
  cases src <;> rfl

/-! ### Slots all FREE, without tags -/

/-- Every slot is FREE and has no COPY tag. -/
def SlotTable.Vacant (t : SlotTable) : Prop :=
  t.slots.length = 6 ∧ t.ready = [] ∧ ∀ k, (t.slot k).state = .free ∧ (t.slot k).copies = 0

namespace SlotTable.Vacant

variable {t : SlotTable}

theorem cleared (t : SlotTable) : t.cleared.Vacant :=
  ⟨rfl, rfl, fun k => by rw [SlotTable.slot_cleared]; exact ⟨rfl, rfl⟩⟩

theorem sound (h : t.Vacant) : t.Sound := by
  obtain ⟨six, ready, free⟩ := h
  refine ⟨six, by simp [ready], fun k => ?_, fun j k hj => ?_⟩
  · simp [ready, (free k).1]
  · simp [(free j).1] at hj

theorem tear (h : t.Vacant) : t.tear.Vacant := by
  have none : t.filling = none := SlotTable.filling_eq_none.2 fun k => by rw [(h.2.2 k).1]; nofun
  rw [SlotTable.tear, none]
  exact h

theorem onSlot {f : Slot → Slot} {k : Nat} (h : t.Vacant) (state : ∀ sl, (f sl).state = sl.state)
    (copies : ∀ sl, sl.copies = 0 → (f sl).copies = 0) : (t.onSlot k f).Vacant := by
  obtain ⟨six, ready, free⟩ := h
  refine ⟨(t.length_onSlot k f).trans six, ready, fun j => ⟨?_, ?_⟩⟩
  · rw [SlotTable.slot_onSlot_field state]
    exact (free j).1
  · rw [SlotTable.slot_onSlot]
    split
    · exact copies _ (free j).2
    · exact (free j).2

theorem dropCopies : ∀ (l : List Request) {t : SlotTable}, t.Vacant → (l.foldl (fun t r => t.dropCopy r.slot) t).Vacant
  | [], _, h => h
  | r :: l, t, h => dropCopies l (h.onSlot (f := fun sl => { sl with copies := sl.copies - 1 }) (fun _ => rfl)
      fun sl none => by simp [none])

theorem of_sameBut {x : OutId} {u : SlotTable} (h : t.Vacant) (same : t.SameBut x u) : u.Vacant := by
  obtain ⟨six, ready, free⟩ := h
  obtain ⟨⟨length, ready', state⟩, tags⟩ := same
  exact ⟨length.trans six, ready'.trans ready, fun k => ⟨(state k).trans (free k).1, (tags k).1.trans (free k).2⟩⟩

end SlotTable.Vacant

/-! ### An output leaves -/

theorem State.leaveOutput_out (x : OutId) (s : State) : (s.leaveOutput x).out x = { (s.out x).emptied with
    source := if s.ring.restarting then .live else (s.out x).source.afterDisable, state := .disabled, leaving := false } := by
  simp [State.leaveOutput]

theorem State.leaveOutput_out_other (x : OutId) (s : State) :
    (s.leaveOutput x).out (otherOut x) = s.out (otherOut x) := by
  simp only [State.leaveOutput]
  rw [State.onOut_out_other]
  simp

@[simp] theorem State.leaveOutput_queue (x : OutId) (s : State) : (s.leaveOutput x).store.queue = s.store.queue := by
  simp [State.leaveOutput]

theorem State.sameBut_leaveOutput (x : OutId) (s : State) : s.slots.SameBut x (s.leaveOutput x).slots := by
  have same : (s.leaveOutput x).slots = ((s.dropShow x).dropFreeze x).slots := by simp [State.leaveOutput]
  rw [same]
  exact (s.sameBut_dropShow x).trans (State.sameBut_dropFreeze x _)

namespace State.Tagged

variable {s t u : State} {x : OutId}

theorem leaveOutput (h : u.Tagged) (queue : (u.out x).queue = []) : (u.leaveOutput x).Tagged := by
  refine h.onOutput x (u.sameBut_leaveOutput x) (by simp) (by simp) (by rw [u.leaveOutput_out_other x]) ?_ fun _ => ?_
  · rw [u.leaveOutput_out x]
    exact fun _ => ⟨rfl, queue⟩
  · rw [u.leaveOutput_out x]
    refine Engine.tagged_of_none rfl ?_
    dsimp only
    split
    · rfl
    · exact Source.frozenSlot_afterDisable _

/-- R30: when every owner has reported, no output has queued reads to answer any more. -/
theorem finishRestart (h : u.Tagged) : u.finishRestart.Tagged := by
  unfold State.finishRestart
  split
  next settled =>
    simp only [State.restartSettled, Bool.and_eq_true, Bool.not_eq_true'] at settled
    obtain ⟨-, ⟨⟨-, leavingA⟩, leavingB⟩, -⟩ := settled
    have ended : (u.onRing fun r => { r with restarting := false }).Tagged :=
      { h with held := fun y _ => h.held y (.inr (by cases y; exacts [leavingA, leavingB])) }
    exact ended.of_view (by simp [State.tagView])
  next => exact h

theorem finishLeaving (h : u.Tagged) : (u.finishLeaving x).Tagged := by
  unfold State.finishLeaving
  split
  next leaves =>
    have left := h.leaveOutput (x := x) (List.isEmpty_iff.1 (Bool.and_eq_true_iff.1 leaves).2)
    split
    · exact left.finishRestart
    · exact left.of_view (by simp [State.tagView])
  next => exact h

/-! ### An output frame starts -/

/-- What is latched is what was resolved. -/
theorem latchedSlot_startFrame {w : Option (Latched × Nat × Nat × Nat × Count)} {e : Engine} {k : Nat}
    (shown : (e.startFrame w).latchedSlot = some k) : w.map Prod.fst = some (.slot k) := by
  unfold Engine.latchedSlot at shown
  split at shown
  next l latch =>
    simp only [Engine.startFrame] at latch
    split at latch
    next what d g _ =>
      cases latch
      simp only [makeLatch] at shown
      cases what with
      | slot j => cases shown; rfl
      | entry p => cases shown
    next => cases latch
  next => cases shown

/-- A slot resolved is READY (R116). -/
theorem ready_of_resolve {k : Nat} (h : u.Tagged) (counts : u.counts x) (resolved : u.resolve x = some (.slot k)) :
    (u.slots.slot k).state = .ready := by
  unfold State.resolve at resolved
  split at resolved
  next live =>
    obtain ⟨j, newest, same⟩ := Option.map_eq_some_iff.1 resolved
    cases same
    exact (h.sound.2.2.1 k).1 (List.mem_of_getLast? newest)
  next j frozen => cases resolved; exact ((h.held x counts k).2 (by rw [frozen]; rfl)).1
  next j held => cases resolved; exact ((h.held x counts k).2 (by rw [held]; rfl)).1
  next => cases resolved
  next => cases resolved
  next => cases resolved

theorem outputFrameStart {die : Int} (h : u.Tagged) (reads : (u.out x).queue ≠ []) : (u.outputFrameStart x die).Tagged := by
  unfold State.outputFrameStart
  extract_lets s1 w s2 d s3 s4
  have enabled : (u.out x).state = .enabled := by
    by_contra other
    exact reads (h.clean x other).2
  have resolved : w = u.resolve x := by
    have newest : s1.slots.newest = u.slots.newest := congrArg List.getLast? (u.sameBut_dropShow x).1.2.1
    simp only [w, State.resolve, newest, s1, State.dropShow_out]
  have same : u.slots.SameBut x s2.slots := (u.sameBut_dropShow x).trans (State.sameBut_takeShow x w s1)
  have started : (s2.onOut x (·.startFrame d)).Tagged := by
    refine h.onOutput x (by rwa [State.onOut_slots]) (by simp [s2, s1]) (by simp [s2, s1])
      (by rw [State.onOut_out_other]; simp [s2, s1]) ?_ fun counts k => ⟨fun shown => ?_, fun frozen => ?_⟩
    · intro other
      rw [State.onOut_out] at other
      exact absurd (by simpa [Engine.startFrame, Engine.cleared, Engine.emptied, s2, s1] using enabled) other
    · rw [State.onOut_out] at shown
      have what := latchedSlot_startFrame shown
      simp only [d, Option.map_map, Function.comp_def, Option.map_id'] at what
      have counts' : u.counts x := by
        simpa [State.counts, s2, s1, Engine.startFrame, Engine.cleared, Engine.emptied] using counts
      have ready : (u.slots.slot k).state = .ready := h.ready_of_resolve counts' (resolved ▸ what)
      rw [State.onOut_slots, same.1.2.2]
      refine ⟨ready, ?_⟩
      have ready1 : (s1.slots.slot k).state = .ready := ((u.sameBut_dropShow x).1.2.2 k).trans ready
      have taken : s2.slots = s1.slots.takeShow x k := by simp only [s2, what, State.takeShow, State.onSlots_slots]
      rw [taken]
      exact SlotTable.shows_takeShow x ready1
    · have counts' : u.counts x := by
        simpa [State.counts, s2, s1, Engine.startFrame, Engine.cleared, Engine.emptied] using counts
      have source : (u.out x).source.frozenSlot = some k := by
        simpa [Engine.startFrame, Engine.cleared, Engine.emptied, s2, s1] using frozen
      obtain ⟨ready, freezes⟩ := (h.held x counts' k).2 source
      rw [State.onOut_slots, same.1.2.2, State.takeShow_freezes, State.dropShow_freezes]
      exact ⟨ready, freezes⟩
  refine (started.of_view ?_ : s4.Tagged).onOut_of_eq (Engine.fetches_prefetchFor _ _ _ _).tagView
  simp [State.tagView, s4, s3, State.onOut_outA, State.onOut_outB]

end State.Tagged

end Sys2Proof.Machine
end

section
/-! Every command keeps the holder tags; with the catalog, the whole of O60. -/

namespace Sys2Proof.Machine

/-! ### CONFIGURE_CAPTURE and RESTART clear the slots -/

namespace State.Tagged

variable {s t u : State} {x : OutId}

/-- R53: no slot is held when the slots are set up afresh. -/
theorem takeConfigure {g : CapGeom} {base : Nat} (h : u.Tagged) (loose : u.slots.slots.any Slot.isHeld = false) :
    (u.takeConfigure g base).Tagged := by
  have unheld (k : Nat) : (u.slots.slot k).isHeld = false := by
    by_cases inside : k < u.slots.slots.length
    · have slot : u.slots.slot k = u.slots.slots[k] := by simp [SlotTable.slot, List.getD_eq_getElem?_getD, inside]
      rw [slot]
      exact Bool.eq_false_iff.2 fun held => List.any_eq_false.1 loose _ (List.getElem_mem inside) held
    · rw [SlotTable.slot_of_length_le (Nat.le_of_not_lt inside)]
      rfl
  have emptied := h.onSlots (f := fun t => { t.cleared with geom := some ⟨base, g.w, g.h, frameSize g.w g.h⟩ })
    (SlotTable.sound_cleared u.slots) fun k => by
      have none : (u.slots.slot k).copies = 0 := Nat.eq_zero_of_not_pos fun held =>
        absurd ((unheld k).symm.trans (Slot.isHeld_of_copies held)) Bool.false_ne_true
      refine ⟨(congrArg Slot.copies (SlotTable.slot_cleared u.slots k)).trans none.symm, fun _ held => ?_⟩
      exact absurd ((unheld k).symm.trans held) Bool.false_ne_true
  exact emptied.of_view rfl

end State.Tagged

/-! ### RESTART -/

section
variable {s : State} {x : OutId}

theorem State.captureRestart_vacant {die : Int} (h : s.slots.Vacant) : (s.captureRestart die).slots.Vacant := by
  have same : (s.captureRestart die).slots =
      (if s.cap.tearing || decide (s.cap.tracker ≠ .none) then s.slots.tear else s.slots) := by
    unfold State.captureRestart
    dsimp only
    repeat' split
    all_goals simp_all
  rw [same]
  split
  · exact h.tear
  · exact h

theorem State.storeRestart_vacant (h : s.slots.Vacant) : s.storeRestart.slots.Vacant := by
  unfold State.storeRestart
  dsimp only
  repeat' split
  · simpa using h.dropCopies s.store.queue
  · simpa using h.dropCopies s.store.queue
  · exact h

theorem State.storeRestart_queue (h : s.store.state ≠ .opened → s.store.queue = []) : s.storeRestart.store.queue = [] := by
  unfold State.storeRestart
  dsimp only
  repeat' split
  · simp
  · simp
  next closed => exact h closed

/-- R131: what RESTART makes of an output: LIVE with nothing latched, or it has its queued reads to answer first. -/
def Engine.Restarted (e : Engine) : Prop := e.Clean ∧ (e.leaving = true ∨ e.latch = none ∧ e.source = .live)

theorem State.outputRestart_out_other : (s.outputRestart x).out (otherOut x) = s.out (otherOut x) := by
  unfold State.outputRestart
  dsimp only
  repeat' split
  · rw [State.leaveOutput_out_other, State.onOut_out_other]
  · rw [State.onOut_out_other]
  · rw [State.dropRecalls_out, State.onOut_out_other, State.dropFreeze_out]

theorem State.outputRestart_restarted (clean : (s.out x).Clean) (restarting : s.ring.restarting = true) :
    ((s.outputRestart x).out x).Restarted := by
  unfold State.outputRestart
  dsimp only
  repeat' split
  next enabled none =>
    rw [State.leaveOutput_out]
    simp only [State.onOut_out, List.isEmpty_iff] at none
    exact ⟨fun _ => ⟨rfl, by simpa [Engine.emptied] using none⟩, .inr ⟨rfl, by simp [restarting]⟩⟩
  next enabled _ =>
    rw [State.onOut_out]
    exact ⟨fun other => absurd enabled other, .inl rfl⟩
  next other =>
    rw [State.dropRecalls_out, State.onOut_out, State.dropFreeze_out]
    exact ⟨clean, .inr ⟨(clean other).1, rfl⟩⟩

theorem State.outputRestart_vacant (h : s.slots.Vacant) : (s.outputRestart x).slots.Vacant := by
  unfold State.outputRestart
  dsimp only
  repeat' split
  · exact SlotTable.Vacant.of_sameBut (x := x) (by simpa using h) (State.sameBut_leaveOutput x _)
  · simpa using h
  · simpa using h.of_sameBut (s.sameBut_dropFreeze x)

@[simp] theorem State.outputRestart_queue : (s.outputRestart x).store.queue = s.store.queue := by
  unfold State.outputRestart
  dsimp only
  repeat' split
  all_goals simp

/-! ### A frame end changes the copy engine alone -/

/-- From `st` to `st'` the copy engine has changed, and nothing else of the store. -/
def Store.EnginesTo (st st' : Store) : Prop := ∃ e, st' = { st with engine := e }

theorem Store.EnginesTo.refl (st : Store) : st.EnginesTo st := ⟨_, rfl⟩

theorem Store.EnginesTo.trans {st st' st'' : Store} (h : st.EnginesTo st') (h' : st'.EnginesTo st'') : st.EnginesTo st'' := by
  obtain ⟨_, rfl⟩ := h
  obtain ⟨_, rfl⟩ := h'
  exact ⟨_, rfl⟩

theorem State.copyResume_engines (s : State) : s.store.EnginesTo s.copyResume.store := by
  unfold State.copyResume State.raiseChunk
  repeat' split
  all_goals exact ⟨_, rfl⟩

theorem State.copyFrameEnd_engines (s : State) : s.store.EnginesTo s.copyFrameEnd.store := by
  unfold State.copyFrameEnd
  split
  all_goals exact ⟨_, rfl⟩

theorem State.sampleDie_engines (die : Int) (s : State) : s.store.EnginesTo (s.sampleDie die).store := by
  have resumed (u : State) (same : u.store = s.store) : s.store.EnginesTo (u.copyResume).store :=
    same ▸ u.copyResume_engines
  unfold State.sampleDie State.thermalChange
  dsimp only
  repeat' split
  · exact .refl _
  · simpa using Store.EnginesTo.refl s.store
  · simpa using Store.EnginesTo.refl s.store
  · rw [State.requestStatus_store]
    exact resumed _ (by simp)
  · simpa using Store.EnginesTo.refl s.store

theorem State.captureFrameEnd_engines (die : Int) (s : State) : s.store.EnginesTo (s.captureFrameEnd die).store := by
  rw [State.captureFrameEnd, State.requestStatus_store]
  exact (s.sampleDie_engines die).trans (State.copyFrameEnd_engines _)

theorem State.tearEnded_engines (die : Int) (s : State) : s.store.EnginesTo (s.tearEnded die).store :=
  State.captureFrameEnd_engines die (s.onCap fun c => { c with tearing := false, tracker := .none })

theorem State.captureRestart_engines (die : Int) (s : State) : s.store.EnginesTo (s.captureRestart die).store := by
  unfold State.captureRestart
  extract_lets active s1 s2
  have written : s2.store = s.store := by
    unfold s2
    split
    · simp [s1]
    · simp [s1]
  split
  · exact written ▸ s2.tearEnded_engines die
  · exact written ▸ .refl _

/-- R30: RESTART leaves no tag that counts. -/
theorem State.Tagged.restartOwners {die : Int} (clean : ∀ x, (s.out x).Clean) (restarting : s.ring.restarting = true)
    (queue : s.store.state ≠ .opened → s.store.queue = []) : (s.restartOwners die).Tagged := by
  unfold State.restartOwners
  have vacant : ((((s.onSlots SlotTable.cleared).captureRestart die).monitorRestart).storeRestart).slots.Vacant := by
    refine State.storeRestart_vacant ?_
    rw [State.monitorRestart_slots]
    exact State.captureRestart_vacant (SlotTable.Vacant.cleared _)
  have empty : ((((s.onSlots SlotTable.cleared).captureRestart die).monitorRestart).storeRestart).store.queue = [] := by
    refine State.storeRestart_queue ?_
    rw [State.monitorRestart_store]
    obtain ⟨e, store⟩ := State.captureRestart_engines die (s.onSlots SlotTable.cleared)
    rw [store]
    exact queue
  generalize chain : (((s.onSlots SlotTable.cleared).captureRestart die).monitorRestart).storeRestart = u at vacant empty
  have out (y : OutId) : u.out y = s.out y := by subst chain; cases y <;> simp
  have ring : u.ring.restarting = true := by subst chain; simpa using restarting
  have first := State.outputRestart_restarted (x := .a) (out .a ▸ clean .a) ring
  have second : (((u.outputRestart .a).outputRestart .b).out .b).Restarted := by
    refine State.outputRestart_restarted ?_ (by simpa using ring)
    rw [show (u.outputRestart .a).out .b = u.out .b from State.outputRestart_out_other (x := .a)]
    exact out .b ▸ clean .b
  have outs (y : OutId) : (((u.outputRestart .a).outputRestart .b).out y).Restarted := by
    cases y
    · rw [show ((u.outputRestart .a).outputRestart .b).out .a = (u.outputRestart .a).out .a from
        State.outputRestart_out_other (x := .b)]
      exact first
    · exact second
  have final : ((u.outputRestart .a).outputRestart .b).slots.Vacant :=
    State.outputRestart_vacant (State.outputRestart_vacant vacant)
  obtain ⟨-, -, free⟩ := id final
  constructor
  · exact final.sound
  · intro k
    rw [(free k).2, Store.requestsFor, State.outputRestart_queue, State.outputRestart_queue, empty]
    rfl
  · intro k held
    exact absurd (free k).2 (Nat.ne_of_gt held)
  · exact fun y => (outs y).1
  · intro y counts
    obtain leaves | ⟨latch, source⟩ := (outs y).2
    · obtain other | other := counts
      · exact absurd (other.symm.trans (by simpa using ring)) Bool.false_ne_true
      · exact absurd (other.symm.trans leaves) Bool.false_ne_true
    · exact Engine.tagged_of_none latch (by rw [source]; rfl)

end

end Sys2Proof.Machine
end

section
/-! Every command keeps the holder tags; the COPY tags are as many as the requests. -/

namespace Sys2Proof.Machine

/-- R4: only an output that is ENABLED and does not leave is read through its window. -/
theorem State.enabled_of_classify {t : Txn} {x : OutId} {off : Nat} {s : State} (h : s.classify t = .engine x off) :
    (s.out x).state = .enabled := by
  have entry (y : OutId) (k : Treatment) (hk : s.classifyOutput y t = some k) (engine : k = .engine x off) :
      (s.out x).state = .enabled := by
    subst engine
    unfold State.classifyOutput at hk
    split at hk
    · cases hk
    next g here =>
      have same : y = x := by
        split at hk
        · split at hk
          · split at hk
            · cases hk; rfl
            · cases hk
          · cases hk
        · cases hk
      subst same
      unfold State.outputEntry? at here
      split at here
      next both => simp_all
      next => cases here
  unfold State.classify at h
  split at h
  · cases h
  · split at h
    · cases h
    · split at h
      next k found =>
        subst h
        unfold State.classifyCapture at found
        repeat' split at found
        all_goals cases found
      next =>
        split at h
        next k found => exact entry .a k found h
        next =>
          cases found : s.classifyOutput .b t with
          | none => simp [found] at h
          | some k => exact entry .b k found (by simpa [found] using h)

@[simp] theorem State.hand_restarting (o : Obs) (s : State) : (s.hand o).ring.restarting = s.ring.restarting := by
  unfold State.hand
  split
  all_goals simp

@[simp] theorem State.handEach_restarting : ∀ (l : List Obs) (s : State),
    (s.handEach l).ring.restarting = s.ring.restarting
  | [], _ => rfl
  | o :: l, s => (State.handEach_restarting l (s.hand o)).trans (State.hand_restarting o s)

@[simp] theorem State.relayObserved_restarting (d : Dir) (o : Obs) (s : State) :
    (s.relayObserved d o).ring.restarting = s.ring.restarting := by
  unfold State.relayObserved
  dsimp only
  repeat' split
  · rfl
  · simp
  · rw [State.relay_ring, State.handAll, State.handEach_restarting]
    simp

theorem State.chromaError_tagView (e : FwdEntry) (s : State) : (s.chromaError e).tagView = s.tagView := by
  unfold State.chromaError
  split
  · rfl
  · simp [State.tagView]

namespace State.Tagged

variable {s u : State} {x : OutId}

theorem accept {c : Instr} (h : u.Tagged) : (u.accept c).Tagged := h.of_view (by simp [State.tagView])

theorem grant {k : GrantClass} (h : u.Tagged) : (u.grant k).Tagged := by
  have issued : (u.issue k).Tagged := by
    unfold State.issue
    cases k
    · exact (h.onOut_of_eq rfl).of_view rfl
    · exact h.of_view rfl
    · exact h.of_view rfl
    · exact h.of_view (by simp [State.tagView])
    · exact h.of_view rfl
  exact issued.of_view rfl

theorem enterHalted (h : u.Tagged) : u.enterHalted.Tagged where
  sound := h.sound
  copies := h.copies
  ready := h.ready
  clean y other := by cases y; exacts [⟨(h.clean .a other).1, rfl⟩, ⟨(h.clean .b other).1, rfl⟩]
  held y counts := by cases y; exacts [h.held .a counts, h.held .b counts]

theorem recordResponse {which : RecFlight → Bool} {r : Resp} (h : u.Tagged) : (u.recordResponse which r).Tagged := by
  unfold State.recordResponse State.writeReturned
  dsimp only
  repeat' split
  · exact enterHalted (h.of_view rfl)
  all_goals exact h.of_view (by simp [State.tagView])

theorem chunkResponse {d : Dir} {addr : Nat} {r : Resp} {data : List Byte} (h : u.Tagged) :
    (u.chunkResponse d addr r data).Tagged := by
  unfold State.chunkResponse
  split
  · exact h
  next t _ =>
    extract_lets s1
    have same : s1.Tagged := h.of_view rfl
    split
    · exact same.finishRestart
    · exact same.chunkReturned.finishRestart

theorem resumeReturned {addr : Nat} {r : Resp} {data : List Byte} (h : u.Tagged) :
    (u.resumeReturned addr r data).Tagged := by
  unfold State.resumeReturned
  dsimp only
  repeat' split
  all_goals exact h.of_view (by simp [State.tagView, State.resumeClosed, State.resumeOpened])

/-- R146: the slot a SNAPSHOT's source resolves to is READY. -/
theorem ready_of_snapshotSlot {source : BitVec 8} {k : Nat} (h : u.Tagged) (settled : u.ring.restarting = false)
    (shown : u.snapshotSlot source = some k) : (u.slots.slot k).state = .ready := by
  unfold State.snapshotSlot at shown
  repeat' split at shown
  · exact (h.sound.2.2.1 k).1 (List.mem_of_getLast? shown)
  · exact ((h.held .a (.inl settled) k).1 shown).1
  · exact ((h.held .b (.inl settled) k).1 shown).1

theorem ensureRows {rows : List (Plane × Nat)} {v : State} {o : Option (List (Plane × Nat × List Byte))}
    (h : u.Tagged) (eq : u.ensureRows x rows = (v, o)) : v.Tagged := by
  refine State.ensureRows_keeps (Q := State.Tagged) (fun w p r b hw => ?_) (fun w a hw => ?_) (fun w p r hw => ?_)
    rows u v o h eq
  · refine hw.onOut_of_eq ((Engine.fetches_prefetchAfter p r _).tagView.trans ?_)
    cases p <;> rfl
  · unfold State.noteDamaged
    dsimp only
    split
    · exact hw
    · exact (hw.onOut_of_eq rfl : (w.onOut x fun e => { e with damaged := true }).Tagged).of_view (by simp [State.tagView])
  · exact hw.onOut_of_eq (Engine.fetches_demandFor p r _).tagView

end State.Tagged

open State.Tagged in
theorem exec_keepsTags (c : Instr) (s : State) (h : s.Tagged) (store : s.store.Sound)
    (noSnapshot : s.ring.restarting = true → ∀ source keep, c ≠ .snapshot source keep) : Ends State.Tagged (exec c s) := by
  cases c with
  | resetN n =>
    refine (ends_next _).2 ?_
    obtain ⟨slots, -, -, -, -, -, -, -, -, tags⟩ := invariantsHoldAtReset
    have reset : State.reset.Tagged := State.tagged_iff.2 ⟨slots, tags⟩
    exact reset.of_view (by simp [State.tagView, State.reset, State.resetWith])
  | forwardedTransaction t => exact ends_if_next fun _ => h.of_view (by simp [State.tagView])
  | straddlingAccess t | outputWindowWrite t | captureWindowRead t =>
    refine ends_if_next fun _ => ?_
    split
    · exact h.present (h.of_view (by simp [State.tagView]))
    · exact h.of_view (by simp [State.tagView])
  | outputWindowRead t =>
    refine ends_if_next fun _ => ?_
    split
    next x off engine =>
      refine h.present ?_
      have enabled := State.enabled_of_classify engine
      refine h.leaveUntaken.onOut (fun other => absurd ?_ other) fun counts => ?_
      · cases x
        · simpa using enabled
        · simpa using enabled
      · exact (h.leaveUntaken.held x counts)
    next => exact h.of_view (by simp [State.tagView])
  | captureWrite t die =>
    refine ends_if_next fun _ => ?_
    repeat' split
    · exact h.holdUntaken
    · exact h.captureWrite
    · exact h.of_view (by simp [State.tagView])
  | frameStart t die =>
    refine ends_if_next fun _ => ?_
    repeat' split
    · exact h.frameStart
    · exact h.holdUntaken
    · exact h.of_view (by simp [State.tagView])
  | chromaWriteResponse id r =>
    simp only [exec, execChromaWriteResponse]
    split
    · exact (ends_next _).2 h
    next e _ =>
      refine (ends_next _).2 ?_
      split
      · exact (h.of_view (State.chromaError_tagView e s)).of_view (by simp [State.tagView])
      · exact h.of_view (by simp [State.tagView])
  | classBResponse d id r data =>
    simp only [exec, execClassBResponse]
    repeat' split
    · exact (ends_next _).2 h
    · exact ends_refused _
    · exact (ends_next _).2 (h.of_view (by simp [State.tagView]))
    · exact (ends_next _).2 (h.of_view (by simp [State.tagView]))
  | submitWord v | acknowledgeWord v | noticeRecordRead | statusRecordRead =>
    simp only [exec, execSubmitWord, execAcknowledgeWord, execNoticeRecordRead, execStatusRecordRead]
    exact (ends_next _).2 (h.of_view (by simp [State.tagView]))
  | directiveFetchResponse r data =>
    simp only [exec, execDirectiveFetchResponse]
    split
    · exact (ends_next _).2 h
    · split
      · exact ends_refused _
      · refine (ends_unlessHalted _ _).2 ⟨fun _ => h, fun _ => ?_⟩
        split
        · exact h.of_view rfl
        · exact h.of_view (by simp [State.tagView])
  | unknownDirectiveType ty =>
    simp only [exec, execUnknownDirectiveType]
    split
    · exact ends_refused _
    · exact (ends_unlessHalted _ _).2 ⟨fun _ => h, fun _ => h.answer⟩
  | resumeReadResponse r data =>
    simp only [exec, execResumeReadResponse]
    repeat' split
    · exact (ends_next _).2 h
    · exact ends_refused _
    · exact (ends_unlessHalted _ _).2 ⟨fun _ => h, fun _ => resumeReturned (h.of_view rfl)⟩
  | downstreamGrant =>
    simp only [exec, execDownstreamGrant]
    refine (ends_next _).2 ?_
    split
    · exact h.grant
    · exact h
  | lossCountGrant =>
    simp only [exec, execLossCountGrant]
    refine (ends_unlessHalted _ _).2 ⟨fun _ => h, fun _ => ?_⟩
    split
    · exact h.grant
    · exact h
  | directiveStatusWriteResponse r | recordWriteResponse addr r =>
    simp only [exec, execDirectiveStatusWriteResponse, execRecordWriteResponse]
    exact (ends_unlessHalted _ _).2 ⟨fun _ => h, fun _ => h.recordResponse⟩
  | chunkReadResponse addr r data =>
    simp only [exec, execChunkReadResponse]
    split
    · exact ends_refused _
    · exact (ends_unlessHalted _ _).2 ⟨fun _ => h, fun _ => h.chunkResponse⟩
  | chunkWriteResponse addr r =>
    simp only [exec, execChunkWriteResponse]
    exact (ends_unlessHalted _ _).2 ⟨fun _ => h, fun _ => h.chunkResponse⟩
  | sourceRowFetchResponse x addr r data =>
    simp only [exec, execSourceRowFetchResponse]
    repeat' split
    · exact (ends_next _).2 h
    · exact ends_refused _
    · exact (ends_unlessHalted _ _).2 ⟨fun _ => h, fun _ => h.onOut_of_eq rfl⟩
    · exact (ends_unlessHalted _ _).2 ⟨fun _ => h, fun _ =>
        h.onOut_of_eq (Engine.fetches_fetchReturned _ _ _ _).tagView⟩
  | outputReadServed x =>
    simp only [exec, execOutputReadServed]
    refine (ends_unlessHalted _ _).2 ⟨fun _ => h, fun _ => ?_⟩
    repeat' split
    · exact h
    next rows => exact h.ensureRows rows
    next rows =>
      have found := h.ensureRows rows
      refine finishLeaving (of_view (u := State.onOut x (fun e => { e with queue := e.queue.drop 1 }) _) (found.onOut ?_ ?_)
        (by simp [State.tagView]))
      · exact fun other => ⟨(found.clean x other).1, by simp [(found.clean x other).2]⟩
      · exact found.held x
    · exact h
  | outputFrameStart x die =>
    simp only [exec, execOutputFrameStart]
    refine (ends_unlessHalted _ _).2 ⟨fun _ => h, fun _ => ?_⟩
    repeat' split
    next queue _ => exact h.outputFrameStart (by simp [queue])
    · exact h
    · exact h
  | tearFinished die =>
    simp only [exec, execTearFinished]
    refine (ends_unlessHalted _ _).2 ⟨fun _ => h, fun _ => ?_⟩
    split
    · exact h.tearEnded.finishStopping.finishRestart
    · exact h
  | frameCompletion die =>
    simp only [exec, execFrameCompletion]
    refine (ends_unlessHalted _ _).2 ⟨fun _ => h, fun _ => ?_⟩
    split
    · exact ((h.onSlots (SlotTable.sound_complete h.sound) (SlotTable.keepsHeld_complete _)).frameEnded).finishStopping
    · exact h
  | lumaWriteResponse addr r =>
    simp only [exec, execLumaWriteResponse]
    refine (ends_unlessHalted _ _).2 ⟨fun _ => h, fun _ => ?_⟩
    repeat' split
    · exact h
    · exact lumaError (h.of_view rfl)
    · exact h.of_view rfl
  | waitLimitTimeout =>
    simp only [exec, execWaitLimitTimeout]
    refine (ends_unlessHalted _ _).2 ⟨fun _ => h, fun _ => ?_⟩
    repeat' split
    · exact nextRequest (popHead (h.of_view rfl))
    · exact h
    · exact h
  | configureCapture w hgt window region =>
    simp only [exec, execConfigureCapture]
    refine (ends_unlessHalted _ _).2 ⟨fun _ => h, fun _ => ?_⟩
    split
    · exact h.answer
    next none =>
      have busy := firstRefusal_eq_none.1 none _ List.mem_cons_self
      exact (h.takeConfigure (Bool.or_eq_false_iff.1 busy).2).answer
  | stopCapture die =>
    simp only [exec, execStopCapture]
    refine (ends_unlessHalted _ _).2 ⟨fun _ => h, fun _ => ?_⟩
    split
    · exact h.answer
    · exact takeStop (h.of_view (by simp [State.tagView]))
  | configureOutput sel ow oh window =>
    simp only [exec, execConfigureOutput]
    refine (ends_unlessHalted _ _).2 ⟨fun _ => h, fun _ => ?_⟩
    repeat' split
    · exact h.answer
    · exact h.answer
    next x _ _ none =>
      have busy := firstRefusal_eq_none.1 none _ List.mem_cons_self
      refine answer (onOut h (fun _ => ?_) (h.held x))
      exact h.clean x (of_decide_eq_false busy)
  | enableOutput sel =>
    simp only [exec, execEnableOutput]
    refine (ends_unlessHalted _ _).2 ⟨fun _ => h, fun _ => ?_⟩
    repeat' split
    · exact h.touch.answer
    next x _ _ =>
      refine answer (onOut h.touch (fun other => absurd rfl other) fun counts k => ⟨fun shown => ?_, ?_⟩)
      · cases shown
      · exact (h.touch.held x counts k).2
    · exact h.touch.answer
  | disableOutput sel =>
    simp only [exec, execDisableOutput]
    refine (ends_unlessHalted _ _).2 ⟨fun _ => h, fun _ => ?_⟩
    repeat' split
    · exact h.answer
    next x _ both =>
      have accepted : (s.accept (.disableOutput sel)).Tagged := h.accept
      refine finishLeaving (onOut accepted (accepted.clean x) fun counts => accepted.held x (.inl ?_))
      simpa using counts
    · exact h.answer
  | setView sel flip zt ramp cx cy =>
    simp only [exec, execSetView]
    refine (ends_unlessHalted _ _).2 ⟨fun _ => h, fun _ => ?_⟩
    repeat' split
    · exact h.touch.answer
    · exact h.touch.answer
    · exact (h.touch.onOut_of_eq rfl).answer
  | live sel =>
    simp only [exec, execLive]
    refine (ends_unlessHalted _ _).2 ⟨fun _ => h, fun _ => ?_⟩
    split
    · exact h.touch.answer
    · exact (h.touch.thawed rfl rfl rfl rfl rfl).answer
  | freeze sel =>
    simp only [exec, execFreeze]
    refine (ends_unlessHalted _ _).2 ⟨fun _ => h, fun _ => ?_⟩
    repeat' split
    · exact h.touch.answer
    next shown => exact (h.touch.frozen shown rfl rfl rfl rfl rfl).answer
    · exact h.touch.answer
    · exact h.touch.answer
  | blank sel =>
    simp only [exec, execBlank]
    refine (ends_unlessHalted _ _).2 ⟨fun _ => h, fun _ => ?_⟩
    split
    · exact h.answer
    next x _ =>
      have thaws : ((s.dropFreeze x).onOut x fun e => { e with source := .blank }).Tagged := h.thawed rfl rfl rfl rfl rfl
      exact (thaws.of_view rfl : State.Tagged (State.onMon _ _)).answer
  | recallEntry sel useView pos =>
    simp only [exec, execRecall]
    refine (ends_unlessHalted _ _).2 ⟨fun _ => h, fun _ => ?_⟩
    repeat' split
    · exact h.touch.answer
    · exact h.touch.answer
    next x _ _ _ =>
      have marked : (s.touch.onStore (·.onRec pos.toNat (Rec.setRecall x true))).Tagged := h.touch.of_view rfl
      refine answer (of_view (marked.thawed (x := x) (f := fun e => { e with
        source := .recalled pos.toNat
        view := e.view.recalled useView (s.touch.store.recAt pos.toNat) }) rfl rfl rfl rfl rfl) ?_)
      have same : (s.touch.onStore (·.onRec pos.toNat (Rec.setRecall x true))).dropFreeze x =
          (s.touch.dropFreeze x).onStore (·.onRec pos.toNat (Rec.setRecall x true)) := by
        unfold State.dropFreeze
        cases x
        · dsimp only [State.out, State.onStore]
          split <;> rfl
        · dsimp only [State.out, State.onStore]
          split <;> rfl
      rw [same]
  | setMonitor delta k hold scan standby idle presence auto =>
    simp only [exec, execSetMonitor]
    refine (ends_unlessHalted _ _).2 ⟨fun _ => h, fun _ => ?_⟩
    split
    · exact h.answer
    · exact h.takeMonitorSettings.answer
  | wake =>
    simp only [exec, execWake]
    exact (ends_unlessHalted _ _).2 ⟨fun _ => h, fun _ => h.touch.answer⟩
  | snapshot source keep =>
    simp only [exec, execSnapshot]
    refine (ends_unlessHalted _ _).2 ⟨fun _ => h, fun _ => ?_⟩
    split
    · exact h.touch.answer
    next none =>
      have found := firstRefusal_eq_none.1 none ((s.touch.snapshotSlot source).isNone, .refusedNoFrame) (by simp)
      obtain ⟨k, shown⟩ := Option.isSome_iff_exists.1 (Option.isNone_eq_false_iff.1 found)
      have ready : (s.touch.slots.slot k).state = .ready := h.touch.ready_of_snapshotSlot
        (by simpa using fun restarts => noSnapshot restarts source keep rfl) shown
      rw [shown]
      have taken := h.touch.takeRequest (auto := false) (keep := decide (keep = 1)) ready
      split
      · exact answer (taken.of_view (by simp [State.tagView]))
      · exact taken.answer
  | autoRequest =>
    simp only [exec, execAutoRequest]
    refine (ends_unlessHalted _ _).2 ⟨fun _ => h, fun _ => ?_⟩
    have taken (rest : List AutoRequest) : (s.onMon fun m => { m with autoRequests := rest }).Tagged := h.of_view rfl
    repeat' split
    · exact h
    · exact h.of_view (by simp [State.tagView])
    next a rest _ room =>
      cases newest : s.slots.newest with
      | none => simp [State.autoRefused, newest] at room
      | some k =>
        have ready : (s.slots.slot k).state = .ready := (h.sound.2.2.1 k).1 (List.mem_of_getLast? newest)
        exact of_view ((taken rest).takeRequest (k := k) (auto := true) (keep := false) ready) (by simp [State.tagView])
  | keep pos =>
    simp only [exec, execKeep]
    refine (ends_unlessHalted _ _).2 ⟨fun _ => h, fun _ => ?_⟩
    split
    · exact h.answer
    · exact (endWaitBy (h.of_view (by simp [State.tagView]))).answer
  | restart die =>
    simp only [exec, execRestart]
    refine (ends_unlessHalted _ _).2 ⟨fun _ => h, fun _ => finishRestart (restartOwners ?_ rfl ?_)⟩
    · intro x
      cases x
      · simpa using h.clean .a
      · simpa using h.clean .b
    · simpa using fun other => ((Store.sound_iff.1 store).1.closed other).1
  | _ =>
    simp only [exec, execAutoAnswer, execStartCapture, execSetEnhance, execOpenStore, execCloseStore, execBeginLesson,
      execEndLesson, execClaim, execRelease, execUnkeep, execDelete, execSetNotice]
    refine (ends_unlessHalted _ _).2 ⟨fun _ => h, fun _ => ?_⟩
    repeat' split
    all_goals exact h.of_view (by simp [State.tagView, State.openEmpty, State.beginResume, Store.freeRec])

/-! ### The COPY tags -/

/-- Counting over distinct values, each of the list's elements once. -/
theorem sum_filter_range {α : Type} (f : α → Nat) (n : Nat) : ∀ l : List α, (∀ a ∈ l, f a < n) →
    ((List.range n).map fun k => (l.filter fun a => decide (f a = k)).length).sum = l.length
  | [], _ => by simp
  | a :: l, inside => by
    have rest := sum_filter_range f n l fun b hb => inside b (List.mem_cons_of_mem a hb)
    have here : f a < n := inside a List.mem_cons_self
    have split (k : Nat) : ((a :: l).filter fun b => decide (f b = k)).length
        = (if f a = k then 1 else 0) + (l.filter fun b => decide (f b = k)).length := by
      rw [List.filter_cons]
      by_cases same : f a = k
      · simp [same, Nat.add_comm]
      · simp [same]
    have once : ((List.range n).map fun k => if f a = k then 1 else 0).sum = 1 := by
      have single : (List.range n).count (f a) = 1 := List.count_eq_one_of_mem List.nodup_range (List.mem_range.2 here)
      simpa [List.sum_map_ite, List.count, List.countP_eq_length_filter, beq_eq_decide, eq_comm] using single
    simp only [split, List.sum_map_add, rest, once, List.length_cons, Nat.add_comm]

/-- R149: the COPY tags of all slots are as many as the queued requests. -/
theorem State.TagsSound.sum_copies {s : State} (_ : s.slots.Sound) (tags : s.TagsSound) :
    (s.slots.slots.map (·.copies)).sum = s.store.queue.length := by
  obtain ⟨copies, ready, -⟩ := tags
  have inside : ∀ r ∈ s.store.queue, r.slot < s.slots.slots.length := fun r hr => by
    have requested : 0 < (s.slots.slot r.slot).copies := by
      rw [copies]
      exact List.length_pos_of_mem (List.mem_filter.2 ⟨hr, decide_eq_true rfl⟩)
    exact SlotTable.lt_of_state_ne_free (by rw [ready _ requested]; nofun)
  rw [← sum_filter_range Request.slot s.slots.slots.length s.store.queue inside]
  refine congrArg List.sum (List.ext_getElem (by simp) fun k hk _ => ?_)
  simp only [List.length_map] at hk
  simpa [SlotTable.slot, List.getD_eq_getElem?_getD, hk] using copies k

/-- Settles O60: the catalog and the tags, command by command, and the tags counted. -/
theorem everyStepKeepsTheCatalogAndTheTags : Obligations.EveryStepKeepsTheCatalogAndTheTags := by
  refine ⟨fun s t h sound => ?_, fun s t h slots store tags noSnapshot => ?_, fun s => State.TagsSound.sum_copies⟩
  · unfold step at h
    split at h
    · cases h
      exact sound
    next c rest _ => exact exec_keepsStore c { s with pending := rest } sound t h
  · have tagged : s.Tagged := State.tagged_iff.2 ⟨slots, tags⟩
    unfold step at h
    split at h
    · cases h
      exact tags
    next c rest queue =>
      have front : ({ s with pending := rest } : State).Tagged := tagged.of_view rfl
      refine (State.tagged_iff.1 (exec_keepsTags c { s with pending := rest } front store ?_ t h)).2
      exact fun restarts source keep same => noSnapshot restarts source keep (by rw [queue, same]; rfl)

end Sys2Proof.Machine
end

section
/-! Directives that replace settings (R27): when a directive answers ADJUSTED, and SET_ENHANCE (R56) and SET_VIEW
(R118). -/

namespace Sys2Proof.Machine

/-! ### Clamps, selectors and ADJUSTED -/

theorem clamp_eq_self_iff {a b v : Nat} (h : a ≤ b) : clamp a b v = v ↔ a ≤ v ∧ v ≤ b := by
  rw [clamp_eq_max_min h]
  omega

theorem doneOr_eq {b : Bool} {p : Prop} [Decidable p] (h : b = false ↔ p) :
    doneOr b = if p then .done else .adjusted := by
  cases b with
  | false => rw [if_pos (h.1 rfl)]; rfl
  | true => rw [if_neg fun hp => Bool.noConfusion (h.2 hp)]; rfl

theorem selected_of_out {sel : BitVec 8} (x : OutId) (h : sel = (match x with | .a => 0 | .b => 1)) :
    selected sel = some x := by
  subst h
  cases x <;> rfl

theorem selected_of_one_lt {sel : BitVec 8} (h : 1 < sel.toNat) : selected sel = none := by
  have ne0 : sel ≠ 0 := by
    rintro rfl
    exact absurd h (by decide)
  have ne1 : sel ≠ 1 := by
    rintro rfl
    exact absurd h (by decide)
  rw [selected, if_neg ne0, if_neg ne1]

/-! ### SET_ENHANCE -/

/-- The settings SET_ENHANCE takes. -/
def Settings.ofBytes (gain coring levelling darkFloor : BitVec 8) : Settings :=
  ⟨min 64 gain.toNat, min 31 coring.toNat, if levelling = 0 then .off else if levelling = 1 then .on else .hold,
    max 32 (min 128 darkFloor.toNat)⟩

theorem exec_setEnhance_of_range {gain coring levelling darkFloor : BitVec 8} {s : State}
    (running : s.notice.halted = false) (h : levelling.toNat ≤ 2) :
    exec (.setEnhance gain coring levelling darkFloor) s =
      .next (State.answer (.setEnhance gain coring levelling darkFloor)
        (if gain.toNat ≤ 64 ∧ coring.toNat ≤ 31 ∧ 32 ≤ darkFloor.toNat ∧ darkFloor.toNat ≤ 128 then .done
          else .adjusted)
        (s.onCap fun c => { c with
          staged := Settings.ofBytes gain coring levelling darkFloor
          live := if c.running then c.live else Settings.ofBytes gain coring levelling darkFloor })) := by
  simp only [exec, execSetEnhance, State.unlessHalted_of_not running, firstRefusal, Nat.not_lt.2 h, decide_false,
    Bool.false_eq_true, if_false]
  rw [doneOr_eq (p := gain.toNat ≤ 64 ∧ coring.toNat ≤ 31 ∧ 32 ≤ darkFloor.toNat ∧ darkFloor.toNat ≤ 128)]
  · simp only [clamp_eq_max_min (by decide : 0 ≤ 64), clamp_eq_max_min (by decide : 0 ≤ 31),
      clamp_eq_max_min (by decide : 32 ≤ 128), Nat.zero_max]
    rfl
  · simp only [decide_eq_false_iff_not, not_or, not_not, clamp_eq_self_iff (by decide : 0 ≤ 64),
      clamp_eq_self_iff (by decide : 0 ≤ 31), clamp_eq_self_iff (by decide : 32 ≤ 128), Nat.zero_le, true_and]

/-- Settles O31, by the equation of SET_ENHANCE with a levelling value in range, with capture RUNNING and STOPPED. -/
theorem setEnhanceReplacesTheStagedSettings : Obligations.SetEnhanceReplacesTheStagedSettings := by
  intro gain coring levelling darkFloor s running c n inRange
  refine ⟨fun bad => ?_, fun ok on => ?_, fun ok off => ?_⟩
  · simp only [c, exec, execSetEnhance, State.unlessHalted_of_not running, firstRefusal, bad, decide_true, if_true]
  · rw [exec_setEnhance_of_range running ok]
    simp only [State.onCap, on, if_true]
    rfl
  · rw [exec_setEnhance_of_range running ok]
    simp only [State.onCap, off, if_false, Bool.false_eq_true]
    rfl

/-! ### SET_VIEW -/

theorem centreOf_of_pos {size : Nat} (pos : 0 < size) (v : Nat) :
    centreOf v size = if v = 65535 then none else some (min v (size - 1)) := by
  rw [centreOf, if_neg (Nat.pos_iff_ne_zero.1 pos), clamp_zero_eq_min]

theorem centreClamped_eq_false {v size : Nat} : centreClamped v size = false ↔ v = 65535 ∨ v < size := by
  simp only [centreClamped, Bool.and_eq_false_iff, decide_eq_false_iff_not, ne_eq, not_not, Nat.not_le]

end Sys2Proof.Machine
end

section
/-! The hold list is emptied (R97, R99): what becomes of the outputs and of the FREEZE tags, and what the wake or idle
reset (R28, R96) leaves of the part. -/

namespace Sys2Proof.Machine

variable {s t : State} {x y : OutId} {k : Nat}

/-! ### Updates of other blocks leave the outputs as they are -/

@[simp] theorem State.onMon_out (f : Monitor → Monitor) (x : OutId) (s : State) : (s.onMon f).out x = s.out x := by
  cases x <;> rfl

@[simp] theorem State.onSlots_out (f : SlotTable → SlotTable) (x : OutId) (s : State) :
    (s.onSlots f).out x = s.out x := by cases x <;> rfl

@[simp] theorem State.onStore_out (f : Store → Store) (x : OutId) (s : State) : (s.onStore f).out x = s.out x := by
  cases x <;> rfl

@[simp] theorem State.onCap_out (f : Capture → Capture) (x : OutId) (s : State) : (s.onCap f).out x = s.out x := by
  cases x <;> rfl

@[simp] theorem State.request_out (k : Target) (x : OutId) (s : State) : (s.request k).out x = s.out x := by
  cases x <;> rfl

@[simp] theorem State.requestStatus_out (x : OutId) (s : State) : s.requestStatus.out x = s.out x := by
  cases x <;> rfl

@[simp] theorem State.raise_out (k : EventKind) (x : OutId) (s : State) : (s.raise k).out x = s.out x := by
  cases x <;> simp

@[simp] theorem State.answer_out (c : Instr) (st : Status) (x : OutId) (s : State) :
    (s.answer c st).out x = s.out x := by cases x <;> simp

@[simp] theorem State.accept_out (c : Instr) (x : OutId) (s : State) : (s.accept c).out x = s.out x := by
  cases x <;> simp

@[simp] theorem State.answerAccepted_out (ty : Nat) (st : Status) (x : OutId) (s : State) :
    (s.answerAccepted ty st).out x = s.out x := by cases x <;> simp

/-! ### One output -/

/-- R93: the standby hold has set the output's source. -/
def Source.isHold : Source → Bool
  | .held _ => true
  | .heldNone => true
  | _ => false

theorem Source.isHold_iff {src : Source} : src.isHold = true ↔ src = .heldNone ∨ ∃ k, src = .held k := by
  cases src <;> simp [Source.isHold]

theorem State.unholdOutput_out (x y : OutId) (s : State) : (s.unholdOutput x).out y =
    if y = x ∧ s.mon.onHold x = true ∧ (s.out x).source.isHold = true then { s.out y with source := .live }
    else s.out y := by
  unfold State.unholdOutput
  by_cases onHold : s.mon.onHold x = true
  · rw [if_pos onHold, State.onMon_out]
    by_cases same : y = x
    · subst same
      cases src : (s.out y).source <;> simp [Source.isHold, onHold]
    · cases src : (s.out x).source <;> simp [same, State.onOut_out_ne]
  · rw [if_neg onHold, if_neg fun h => onHold h.2.1]

theorem Slot.setFreeze_reset (x : OutId) : Slot.reset.setFreeze x false = Slot.reset := by cases x <;> rfl

theorem SlotTable.slot_dropFreeze (x : OutId) (k j : Nat) (t : SlotTable) :
    (t.dropFreeze x k).slot j = if j = k then (t.slot j).setFreeze x false else t.slot j := by
  rw [SlotTable.dropFreeze, SlotTable.slot_onSlot]
  by_cases same : j = k
  · subst same
    by_cases inside : j < t.slots.length
    · simp [inside]
    · simp [inside, SlotTable.slot_of_length_le (Nat.le_of_not_lt inside), Slot.setFreeze_reset]
  · simp [same]

/-- All of the slot table but its records is as before. -/
structure SlotTable.RecordsTo (t u : SlotTable) : Prop where
  ready : u.ready = t.ready
  drops : u.drops = t.drops
  geom : u.geom = t.geom
  length : u.slots.length = t.slots.length

theorem SlotTable.RecordsTo.refl (t : SlotTable) : t.RecordsTo t := ⟨rfl, rfl, rfl, rfl⟩

theorem SlotTable.RecordsTo.trans {t u v : SlotTable} (h : t.RecordsTo u) (h' : u.RecordsTo v) : t.RecordsTo v :=
  ⟨h'.ready.trans h.ready, h'.drops.trans h.drops, h'.geom.trans h.geom, h'.length.trans h.length⟩

theorem SlotTable.recordsTo_dropFreeze (x : OutId) (k : Nat) (t : SlotTable) : t.RecordsTo (t.dropFreeze x k) :=
  ⟨rfl, rfl, rfl, SlotTable.length_onSlot ..⟩

theorem State.unholdOutput_recordsTo (x : OutId) (s : State) : s.slots.RecordsTo (s.unholdOutput x).slots := by
  unfold State.unholdOutput
  split
  · cases src : (s.out x).source with
    | held k => simpa using SlotTable.recordsTo_dropFreeze x k s.slots
    | _ => simpa using SlotTable.RecordsTo.refl s.slots
  · exact .refl _

theorem State.unholdOutput_slot (x : OutId) (s : State) (j : Nat) : (s.unholdOutput x).slots.slot j =
    if s.mon.onHold x = true ∧ (s.out x).source = .held j then (s.slots.slot j).setFreeze x false
    else s.slots.slot j := by
  unfold State.unholdOutput
  by_cases onHold : s.mon.onHold x = true
  · rw [if_pos onHold]
    cases src : (s.out x).source <;> simp [onHold, SlotTable.slot_dropFreeze, eq_comm]
  · rw [if_neg onHold, if_neg fun h => onHold h.1]

/-! ### Both outputs -/

theorem State.unholdAll_recordsTo (s : State) : s.slots.RecordsTo s.unholdAll.slots :=
  (s.unholdOutput_recordsTo .a).trans (State.unholdOutput_recordsTo .b _)

theorem State.unholdAll_out (x : OutId) (s : State) : s.unholdAll.out x =
    if s.mon.onHold x = true ∧ (s.out x).source.isHold = true then { s.out x with source := .live } else s.out x := by
  unfold State.unholdAll
  cases x <;> simp only [State.unholdOutput_out, State.unholdOutput_mon, Monitor.onHold_setHold, reduceCtorEq, false_and,
    true_and, if_false]

theorem State.unholdAll_slot (s : State) (j : Nat) : s.unholdAll.slots.slot j =
    { s.slots.slot j with
      freezeA := if s.mon.onHold .a = true ∧ (s.out .a).source = .held j then false else (s.slots.slot j).freezeA
      freezeB := if s.mon.onHold .b = true ∧ (s.out .b).source = .held j then false else (s.slots.slot j).freezeB } := by
  unfold State.unholdAll
  simp only [State.unholdOutput_slot, State.unholdOutput_out, State.unholdOutput_mon, Monitor.onHold_setHold,
    reduceCtorEq, false_and, if_false]
  split <;> split <;> simp [Slot.setFreeze, *]

/-- R99: the empty hold list, on whatever slots the update before left. -/
theorem State.holdsReleased_of_unholdAll {u : State} (outs : ∀ x, u.out x = s.out x)
    (mon : ∀ x, u.mon.onHold x = s.mon.onHold x)
    (outs' : ∀ x, t.out x = u.unholdAll.out x) (slots : t.slots = u.unholdAll.slots) :
    s.HoldsReleased u.slots.slot t := by
  refine ⟨fun x held => ?_, fun x free => ?_, fun j => ?_⟩
  · rw [outs', State.unholdAll_out, mon, outs, if_pos ⟨held.1, Source.isHold_iff.2 held.2⟩]
  · rw [outs', State.unholdAll_out, mon, outs, if_neg fun h => free ⟨h.1, Source.isHold_iff.1 h.2⟩]
  · simp only [slots, State.unholdAll_slot, mon, outs, and_self]

/-! ### The wake or idle reset -/

@[simp] theorem State.touch_halted (s : State) : s.touch.notice.halted = s.notice.halted := by
  unfold State.touch State.wakeActive
  split <;> simp

theorem State.touch_out (x : OutId) (s : State) : ∃ src, s.touch.out x = { s.out x with source := src } := by
  unfold State.touch State.wakeActive
  split
  · simp only [State.requestStatus_out, State.unholdAll_out, State.raise_out, State.onMon_out]
    split <;> exact ⟨_, rfl⟩
  · exact ⟨_, by rw [State.onMon_out]⟩

@[simp] theorem State.touch_out_latch (x : OutId) (s : State) : (s.touch.out x).latch = (s.out x).latch := by
  obtain ⟨_, h⟩ := s.touch_out x
  rw [h]

@[simp] theorem State.touch_out_state (x : OutId) (s : State) : (s.touch.out x).state = (s.out x).state := by
  obtain ⟨_, h⟩ := s.touch_out x
  rw [h]

theorem State.touch_recordsTo (s : State) : s.slots.RecordsTo s.touch.slots := by
  unfold State.touch State.wakeActive
  split
  · simpa using State.unholdAll_recordsTo ((s.onMon fun m =>
      { m with state := .active, idle := 0, scan := 0, presence := 0 }).raise .woken)
  · simpa using SlotTable.RecordsTo.refl s.slots

end Sys2Proof.Machine
end

section
/-! Answers at once and later (R24, R25): the status given, the status write of the record answered, what was requested
before. -/

namespace Sys2Proof.Machine

variable {s t u : State} {c : Instr} {st : Status} {ty : Nat}

/-! ### What was requested before stays requested -/

theorem RecordWriter.mem_give_of_mem {x : RecWork} {k : Target} {w : RecordWriter} (h : x ∈ w.waiting)
    (other : x.isGiven k = false) (d : List Byte) : x ∈ (w.give k d).waiting := by
  unfold RecordWriter.give
  split
  · exact List.mem_map.2 ⟨x, h, by simp [other]⟩
  · exact List.mem_append_left _ h

theorem State.mem_answer_of_mem {x : RecWork} (c : Instr) (st : Status) (h : x ∈ s.recs.waiting)
    (other : ∀ i, x.isGiven (.directive i) = false) : x ∈ (s.answer c st).recs.waiting := by
  obtain ⟨i, _, _, _, eq⟩ | eq := State.answer_cases c st s
  · rw [eq]
    exact RecordWriter.mem_give_of_mem h (other i) _
  · rwa [eq]

theorem State.mem_answerAccepted_of_mem {x : RecWork} (ty : Nat) (st : Status) (h : x ∈ s.recs.waiting)
    (other : ∀ i, x.isGiven (.directive i) = false) : x ∈ (s.answerAccepted ty st).recs.waiting := by
  unfold State.answerAccepted
  dsimp only
  split
  · split
    · exact RecordWriter.mem_give_of_mem h (other _) _
    · exact h
  · exact h

theorem State.record_mem_answer {k : Target} (c : Instr) (st : Status) (h : .record k ∈ s.recs.waiting) :
    .record k ∈ (s.answer c st).recs.waiting := State.mem_answer_of_mem c st h fun _ => rfl

theorem State.record_mem_answerAccepted {k : Target} (ty : Nat) (st : Status) (h : .record k ∈ s.recs.waiting) :
    .record k ∈ (s.answerAccepted ty st).recs.waiting := State.mem_answerAccepted_of_mem ty st h fun _ => rfl

/-! ### The status given -/

@[simp] theorem State.answer_lastStatus (c : Instr) (st : Status) (s : State) :
    (s.answer c st).ring.lastStatus = some st := by
  obtain ⟨_, _, _, _, eq⟩ | eq := State.answer_cases c st s <;> rw [eq] <;> rfl

@[simp] theorem State.answerAccepted_lastStatus (ty : Nat) (st : Status) (s : State) :
    (s.answerAccepted ty st).ring.lastStatus = some st := by
  unfold State.answerAccepted
  dsimp only
  split
  · split <;> rfl
  · rfl

theorem State.answered_answerRecord (i : Nat) (rec : List Byte) (st : Status) (s : State) :
    (s.answerRecord i rec st).Answered i rec st :=
  ⟨rfl, fun long => ⟨statusWrite rec st, RecordWriter.mem_give .., statusWrite_form long st⟩⟩

theorem State.answersNow_answer (flight : u.ring.flight = s.ring.flight) (c : Instr) (st : Status) :
    s.AnswersNow c st (u.answer c st) := by
  refine ⟨State.answer_lastStatus .., fun i rec dispatched names => ?_⟩
  rw [State.answer_of_dispatched (flight.trans dispatched) names]
  exact State.answered_answerRecord i rec st _

theorem State.answersLater_answerAccepted (flight : u.ring.flight = s.ring.flight) (ty : Nat) (st : Status) :
    s.AnswersLater ty st (u.answerAccepted ty st) := by
  refine ⟨State.answerAccepted_lastStatus .., fun i rec accepted type => ?_⟩
  rw [State.answerAccepted_of_accepted (flight.trans accepted) type]
  exact State.answered_answerRecord i rec st _

theorem State.accepts_accept (ring : t.ring = (s.accept c).ring) : s.Accepts c t := by
  refine ⟨?_, fun i rec dispatched names => ?_⟩
  · rw [ring, State.accept]
    split
    · split <;> rfl
    · rfl
  · rw [ring, State.accept, dispatched]
    simp [(Ring.isDispatched_iff dispatched).2 names]

end Sys2Proof.Machine
end

section
/-! SET_VIEW (R118), SET_MONITOR (R84, R99) and WAKE (R96). -/

namespace Sys2Proof.Machine

variable {s t : State}

/-! ### SET_VIEW -/

/-- R118: a SET_VIEW that is not refused, after the wake or idle reset. -/
theorem exec_setView_of_range {sel flip : BitVec 8} {zt ramp cx cy : BitVec 16} {x : OutId} {ws hs : Nat}
    (running : s.notice.halted = false) (sel_x : selected sel = some x) (ok : flip.toNat ≤ 1)
    (dims : s.viewDims x = (ws, hs)) (wpos : 0 < ws) (hpos : 0 < hs) :
    exec (.setView sel flip zt ramp cx cy) s = .next (State.answer (.setView sel flip zt ramp cx cy)
      (if (256 ≤ zt.toNat ∧ zt.toNat ≤ 2048) ∧ ramp.toNat ≤ 1792 ∧ (cx.toNat = 65535 ∨ cx.toNat < ws)
        ∧ (cy.toNat = 65535 ∨ cy.toNat < hs) then .done else .adjusted)
      (s.touch.onOut x fun e => { e with view :=
        { zt := max 256 (min 2048 zt.toNat), zc := e.view.zc, ramp := min 1792 ramp.toNat
          cx := if cx.toNat = 65535 then none else some (min cx.toNat (ws - 1))
          cy := if cy.toNat = 65535 then none else some (min cy.toNat (hs - 1)), flip := decide (flip = 1) } })) := by
  have dims' : s.touch.viewDims x = (ws, hs) := by
    rw [← dims]
    simp only [State.viewDims, State.touch_out_latch, State.touch_cap]
  simp only [exec, execSetView, State.unlessHalted_of_not running, sel_x, Nat.not_lt.2 ok, if_false, dims',
    centreOf_of_pos wpos, centreOf_of_pos hpos]
  rw [doneOr_eq (p := (256 ≤ zt.toNat ∧ zt.toNat ≤ 2048) ∧ ramp.toNat ≤ 1792 ∧ (cx.toNat = 65535 ∨ cx.toNat < ws)
    ∧ (cy.toNat = 65535 ∨ cy.toNat < hs))]
  · simp only [clamp_eq_max_min (by decide : 0 ≤ 1792), clamp_eq_max_min (by decide : 256 ≤ 2048), Nat.zero_max]
  · simp only [Bool.or_eq_false_iff, decide_eq_false_iff_not, not_not, clamp_eq_self_iff (by decide : 0 ≤ 1792),
      clamp_eq_self_iff (by decide : 256 ≤ 2048), centreClamped_eq_false, Nat.zero_le, true_and, ne_eq, and_assoc]

/-- Settles O45, by the equation of a SET_VIEW that is not refused. -/
theorem setViewReplacesTheTargetAndCentre : Obligations.SetViewReplacesTheTargetAndCentre := by
  refine ⟨fun sel flip zt ramp cx cy x ws hs s running sel_x wpos hpos dims => ⟨fun bad => ?_, fun ok => ?_⟩,
    fun sel flip zt ramp cx cy s running bad => ?_⟩
  · simp only [exec, execSetView, State.unlessHalted_of_not running, selected_of_out x sel_x, bad, if_true]
  · refine exec_setView_of_range running (selected_of_out x sel_x) ok ?_ wpos hpos
    rw [dims]
    unfold State.viewDims
    cases (s.out x).latch <;> cases s.cap.geom <;> rfl
  · simp only [exec, execSetView, State.unlessHalted_of_not running, selected_of_one_lt bad]

/-! ### SET_MONITOR and WAKE -/

/-- The settings SET_MONITOR takes. -/
def MonSettings.ofBytes (delta k hold scan standby : BitVec 8) (idle presence : BitVec 16) (auto : BitVec 8) : MonSettings :=
  ⟨max 1 (min 64 delta.toNat), max 1 (min 192 k.toNat), max 1 hold.toNat, idle.toNat, max 1 (min 64 scan.toNat),
    presence.toNat, decide (standby = 1), decide (auto = 1)⟩

theorem exec_setMonitor_of_range {delta k hold scan standby : BitVec 8} {idle presence : BitVec 16} {auto : BitVec 8}
    (running : s.notice.halted = false) (okStandby : standby.toNat ≤ 1) (okAuto : auto.toNat ≤ 1) :
    exec (.setMonitor delta k hold scan standby idle presence auto) s =
      .next (State.answer (.setMonitor delta k hold scan standby idle presence auto)
        (if (1 ≤ delta.toNat ∧ delta.toNat ≤ 64) ∧ (1 ≤ k.toNat ∧ k.toNat ≤ 192) ∧ 1 ≤ hold.toNat
          ∧ 1 ≤ scan.toNat ∧ scan.toNat ≤ 64 then .done else .adjusted)
        (s.takeMonitorSettings (.ofBytes delta k hold scan standby idle presence auto))) := by
  have ok : ¬(1 < standby.toNat ∨ 1 < auto.toNat) := by omega
  have bound : hold.toNat ≤ 255 := by omega
  simp only [exec, execSetMonitor, State.unlessHalted_of_not running, firstRefusal, ok, decide_false,
    Bool.false_eq_true, if_false]
  rw [doneOr_eq (p := (1 ≤ delta.toNat ∧ delta.toNat ≤ 64) ∧ (1 ≤ k.toNat ∧ k.toNat ≤ 192) ∧ 1 ≤ hold.toNat
    ∧ 1 ≤ scan.toNat ∧ scan.toNat ≤ 64)]
  · simp only [clamp_eq_max_min (by decide : 1 ≤ 64), clamp_eq_max_min (by decide : 1 ≤ 192),
      clamp_eq_max_min (by decide : 1 ≤ 255), Nat.min_eq_right bound]
    rfl
  · simp only [decide_eq_false_iff_not, not_or, not_not, clamp_eq_self_iff (by decide : 1 ≤ 64), ne_eq,
      clamp_eq_self_iff (by decide : 1 ≤ 192), clamp_eq_self_iff (by decide : 1 ≤ 255), bound, and_true]

namespace State.HoldsReleased

variable {old : Nat → Slot} {x : OutId} {j : Nat}

theorem live (h : s.HoldsReleased old t) (onHold : s.mon.onHold x = true)
    (held : (s.out x).source = .heldNone ∨ ∃ k, (s.out x).source = .held k) :
    t.out x = { s.out x with source := .live } := h.1 x ⟨onHold, held⟩

theorem free (h : s.HoldsReleased old t) (free : s.mon.onHold x = false) : t.out x = s.out x :=
  h.2.1 x fun held => by simp [free] at held

theorem unfrozen (h : s.HoldsReleased old t) (onHold : s.mon.onHold x = true) (src : (s.out x).source = .held j) :
    (x = .a → (t.slots.slot j).freezeA = false) ∧ (x = .b → (t.slots.slot j).freezeB = false) := by
  refine ⟨fun a => ?_, fun b => ?_⟩
  · subst a
    rw [(h.2.2 j).1, if_pos ⟨onHold, src⟩]
  · subst b
    rw [(h.2.2 j).2.1, if_pos ⟨onHold, src⟩]

theorem shows (h : s.HoldsReleased old t) (j : Nat) :
    (t.slots.slot j).showA = (old j).showA ∧ (t.slots.slot j).showB = (old j).showB := by
  rw [(h.2.2 j).2.2]
  exact ⟨rfl, rfl⟩

end State.HoldsReleased

theorem State.takeMonitorSettings_of_stays {n : MonSettings}
    (h : ¬(s.mon.state = .standby ∧ (n.standby = false ∨ n.idle = 0))) :
    s.takeMonitorSettings n = s.onMon fun m => { m with settings := n } := if_neg h

/-- The monitor as SET_MONITOR leaves STANDBY with the settings `n`, its hold list not yet emptied. -/
def Monitor.leftStandby (n : MonSettings) (m : Monitor) : Monitor :=
  { m with settings := n, state := .active, idle := 0 }

theorem State.takeMonitorSettings_of_leaves {n : MonSettings}
    (h : s.mon.state = .standby ∧ (n.standby = false ∨ n.idle = 0)) :
    s.takeMonitorSettings n = (((s.onMon (.leftStandby n)).raise .woken).unholdAll).requestStatus := if_pos h

theorem Monitor.onHold_of_eq {m m' : Monitor} (a : m'.holdA = m.holdA) (b : m'.holdB = m.holdB) (x : OutId) :
    m'.onHold x = m.onHold x := by cases x; exacts [a, b]

theorem MonSettings.keepsStandby_iff {delta k hold scan standby : BitVec 8} {idle presence : BitVec 16} {auto : BitVec 8}
    (okStandby : standby.toNat ≤ 1) :
    ((MonSettings.ofBytes delta k hold scan standby idle presence auto).standby = false
      ∨ (MonSettings.ofBytes delta k hold scan standby idle presence auto).idle = 0) ↔ standby = 0 ∨ idle = 0 := by
  refine or_congr ⟨fun h => ?_, fun h => ?_⟩ ⟨fun h => ?_, fun h => ?_⟩
  · have ne : standby ≠ 1 := by simpa [MonSettings.ofBytes] using h
    bv_omega
  · subst h
    rfl
  · exact BitVec.eq_of_toNat_eq h
  · subst h
    rfl

/-- Settles O41: SET_MONITOR by its equation when it is not refused, WAKE by the wake or idle reset. -/
theorem setMonitorAndWakeMoveTheMonitor : Obligations.SetMonitorAndWakeMoveTheMonitor := by
  refine ⟨fun delta k hold scan standby idle presence auto s running => ⟨fun bad => ?_, fun okStandby okAuto stays => ?_,
    fun okStandby okAuto leaves => ?_⟩, fun s running => ⟨fun awake => ?_, fun standby => ?_⟩⟩
  · simp only [exec, execSetMonitor, State.unlessHalted_of_not running, firstRefusal, bad, decide_true, if_true]
  · rw [exec_setMonitor_of_range running okStandby okAuto, State.takeMonitorSettings_of_stays]
    · rfl
    · rwa [MonSettings.keepsStandby_iff okStandby]
  · rw [exec_setMonitor_of_range running okStandby okAuto, State.takeMonitorSettings_of_leaves]
    · have released (c : Instr) (st : Status) : s.HoldsReleased s.slots.slot (State.answer c st
          (((s.onMon (.leftStandby (.ofBytes delta k hold scan standby idle presence auto))).raise
            .woken).unholdAll).requestStatus) := by
        simpa using State.holdsReleased_of_unholdAll (s := s)
          (u := (s.onMon (.leftStandby (.ofBytes delta k hold scan standby idle presence auto))).raise .woken)
          (fun x => by simp) (fun x => by cases x <;> simp <;> rfl) (fun x => by simp) (by simp)
      refine ⟨_, rfl, by simp [Monitor.unheld, Monitor.leftStandby]; rfl, by simp,
        State.record_mem_answer _ _ (by simp), fun x held src => ?_,
        fun x j held src => ?_, by simp, fun b hb => ?_⟩
      · rw [(released _ _).live held (.inl src)]
      · rw [(released _ _).live held (.inr ⟨j, src⟩)]
      · cases b with
        | mon | notice | recs | ring | outA | outB | slots => simp at hb
        | _ => simp [Block.same]
    · rwa [MonSettings.keepsStandby_iff okStandby]
  · simp only [exec, execWake, State.unlessHalted_of_not running, State.touch_of_not_standby awake]
    rfl
  · simp only [exec, execWake, State.unlessHalted_of_not running, State.touch_of_standby standby]
    have released : s.HoldsReleased s.slots.slot (State.answer .wake .done s.wakeActive) := by
      simpa using State.holdsReleased_of_unholdAll (s := s) (u := (s.onMon fun m => { m with
        state := .active, idle := 0, scan := 0, presence := 0 }).raise .woken) (fun x => by simp)
        (fun x => by cases x <;> simp <;> rfl) (fun x => by simp [State.wakeActive]) (by simp [State.wakeActive])
    refine ⟨_, rfl, by simp, by simp [State.wakeActive], State.record_mem_answer _ _ (by simp [State.wakeActive]),
      fun x free => released.free free, fun x j held src => ?_, fun x held src => released.live held (.inl src), by simp,
      fun b hb => ?_⟩
    · exact ⟨released.live held (.inr ⟨j, src⟩), (released.unfrozen held src).1, (released.unfrozen held src).2,
        released.shows j⟩
    · cases b with
      | mon | notice | recs | ring | outA | outB | slots => simp at hb
      | _ => simp [Block.same, State.wakeActive]

end Sys2Proof.Machine
end

section
/-! LIVE, BLANK, FREEZE and RECALL (R110 to R113). -/

namespace Sys2Proof.Machine

variable {s t : State} {x : OutId} {k : Nat}

/-! ### Tags and latches, output by output -/

theorem Slot.freezes_eq_iff {sl : Slot} {v : Bool} :
    sl.freezes x = v ↔ (x = .a → sl.freezeA = v) ∧ (x = .b → sl.freezeB = v) := by
  cases x <;> simp [Slot.freezes]

theorem Slot.shows_eq_iff {sl : Slot} {v : Bool} :
    sl.shows x = v ↔ (x = .a → sl.showA = v) ∧ (x = .b → sl.showB = v) := by
  cases x <;> simp [Slot.shows]

theorem Engine.latchedSlot_eq_some_iff {e : Engine} :
    e.latchedSlot = some k ↔ e.latch.map (·.what) = some (.slot k) := by
  unfold Engine.latchedSlot
  cases e.latch with
  | none => simp
  | some l => cases what : l.what <;> simp [what]

theorem Source.frozenSlot_eq_some_iff {src : Source} :
    src.frozenSlot = some k ↔ src = .frozen k ∨ src = .held k := by
  cases src <;> simp [Source.frozenSlot]

theorem State.dropFreeze_slot (x : OutId) (s : State) (j : Nat) : (s.dropFreeze x).slots.slot j =
    if (s.out x).source.frozenSlot = some j then (s.slots.slot j).setFreeze x false else s.slots.slot j := by
  unfold State.dropFreeze
  cases src : (s.out x).source.frozenSlot with
  | none => simp
  | some k => simp [SlotTable.slot_dropFreeze, eq_comm]

theorem State.dropFreeze_thaws (h : (s.out x).source = .frozen k ∨ (s.out x).source = .held k) :
    (x = .a → ((s.dropFreeze x).slots.slot k).freezeA = false)
      ∧ (x = .b → ((s.dropFreeze x).slots.slot k).freezeB = false) := by
  rw [← Slot.freezes_eq_iff, State.dropFreeze_slot, if_pos (Source.frozenSlot_eq_some_iff.2 h), Slot.setFreeze_freezes,
    if_pos rfl]

/-! ### The four directives -/

/-- R110: LIVE and BLANK give the source and release FREEZE. -/
def State.sourceSet (x : OutId) (src : Source) (s : State) : State :=
  (s.dropFreeze x).onOut x fun e => { e with source := src }

theorem exec_live (running : s.notice.halted = false) {sel : BitVec 8} (sel_x : selected sel = some x) :
    exec (.live sel) s = .next ((s.touch.sourceSet x .live).answer (.live sel) .done) := by
  simp only [exec, execLive, State.unlessHalted_of_not running, sel_x]
  rfl

theorem exec_blank (running : s.notice.halted = false) {sel : BitVec 8} (sel_x : selected sel = some x) :
    exec (.blank sel) s = .next (((s.sourceSet x .blank).onMon (·.setHold x false)).answer (.blank sel) .done) := by
  simp only [exec, execBlank, State.unlessHalted_of_not running, sel_x]
  rfl

theorem State.sourceSet_out (x : OutId) (src : Source) (s : State) :
    (s.sourceSet x src).out x = { s.out x with source := src } := by
  rw [State.sourceSet, State.onOut_out, State.dropFreeze_out]

theorem State.sourceSet_out_other (x : OutId) (src : Source) (s : State) :
    (s.sourceSet x src).out (otherOut x) = s.out (otherOut x) := by
  rw [State.sourceSet, State.onOut_out_other, State.dropFreeze_out]

theorem State.sourceSet_slots (x : OutId) (src : Source) (s : State) :
    (s.sourceSet x src).slots = (s.dropFreeze x).slots := State.onOut_slots ..

theorem State.sourceSet_changesOnly (x : OutId) (src : Source) (s : State) :
    s.changesOnly [.outA, .outB, .slots] (s.sourceSet x src) := by
  intro b hb
  cases b with
  | outA | outB | slots => simp at hb
  | _ => simp [Block.same, State.sourceSet]

/-- R112: a RECALL that is taken marks its record and shows it. -/
def State.recallTaken (x : OutId) (useView : BitVec 8) (p : Nat) (s : State) : State :=
  ((s.dropFreeze x).onStore (·.onRec p (Rec.setRecall x true))).onOut x fun e =>
    { e with source := .recalled p, view := e.view.recalled useView (s.store.recAt p) }

section
variable {sel useView : BitVec 8} {pos : BitVec 16} (running : s.notice.halted = false) (sel_x : selected sel = some x)
include running sel_x

/-- R27: the refusals of RECALL in their order. -/
theorem exec_recall_of_refused {st : Status}
    (refused : firstRefusal [(decide ((s.out x).state ≠ .enabled ∨ s.store.state = .closed), .refusedState),
      (decide (s.store.state = .opening), .refusedBusy),
      (decide ((s.store.geom.map (·.e)).getD 0 ≤ pos.toNat), .refusedRange),
      (decide ((s.store.recAt pos.toNat).state ≠ .saved) || (s.store.recAt pos.toNat).wanted, .refusedEntry)] = some st) :
    exec (.recallEntry sel useView pos) s = .next (s.touch.answer (.recallEntry sel useView pos) st) := by
  simp only [exec, execRecall, State.unlessHalted_of_not running, sel_x, State.touch_out_state, State.touch_store, refused]

theorem exec_recall_of_taken (enabled : (s.out x).state = .enabled) (opened : s.store.state = .opened)
    (inside : pos.toNat < (s.store.geom.map (·.e)).getD 0) (saved : (s.store.recAt pos.toNat).state = .saved)
    (free : (s.store.recAt pos.toNat).wanted = false) : exec (.recallEntry sel useView pos) s =
      .next ((s.touch.recallTaken x useView pos.toNat).answer (.recallEntry sel useView pos) .done) := by
  simp only [exec, execRecall, State.unlessHalted_of_not running, sel_x, State.touch_out_state, State.touch_store,
    firstRefusal, enabled, opened, saved, free, inside.not_ge]
  simp [State.recallTaken]

end

theorem State.recallTaken_out (x : OutId) (useView : BitVec 8) (p : Nat) (s : State) :
    (s.recallTaken x useView p).out x = { s.out x with
      source := .recalled p, view := (s.out x).view.recalled useView (s.store.recAt p) } := by
  rw [State.recallTaken, State.onOut_out, State.onStore_out, State.dropFreeze_out]

theorem State.recallTaken_out_other (x : OutId) (useView : BitVec 8) (p : Nat) (s : State) :
    (s.recallTaken x useView p).out (otherOut x) = s.out (otherOut x) := by
  rw [State.recallTaken, State.onOut_out_other, State.onStore_out, State.dropFreeze_out]

theorem State.recallTaken_slots (x : OutId) (useView : BitVec 8) (p : Nat) (s : State) :
    (s.recallTaken x useView p).slots = (s.dropFreeze x).slots := by
  rw [State.recallTaken, State.onOut_slots, State.onStore_slots]

theorem State.recallTaken_recalled {p : Nat} (useView : BitVec 8) (inside : p < s.store.catalog.length) :
    ((s.recallTaken x useView p).store.recAt p).recalled x = true := by
  rw [State.recallTaken, State.onOut_store, State.onStore_store, State.dropFreeze_store,
    Store.recAt_onRec_self inside]
  cases x <;> rfl

theorem State.recallTaken_changesOnly (x : OutId) (useView : BitVec 8) (p : Nat) (s : State) :
    s.changesOnly [.outA, .outB, .slots, .store] (s.recallTaken x useView p) := by
  intro b hb
  cases b with
  | outA | outB | slots | store => simp at hb
  | _ => simp [Block.same, State.recallTaken]

theorem View.recalled_of_not_used {v : View} {useView : BitVec 8} {r : Rec} (h : useView = 0 ∨ r.view = none) :
    v.recalled useView r = v := by
  unfold View.recalled
  obtain rfl | none := h
  · cases r.view <;> rfl
  · rw [none]

theorem View.recalled_of_used {v : View} {useView : BitVec 8} {r : Rec} {sv : SavedView} (h : useView ≠ 0)
    (saved : r.view = some sv) : v.recalled useView r = v.applySaved sv := by
  simp only [View.recalled, saved, if_neg h]

/-- What the answer of a directive adds to the blocks changed. -/
theorem State.changesOnly.answer {bs : List Block} (h : s.changesOnly bs t) (c : Instr) (st : Status) :
    s.changesOnly (bs ++ [.ring, .recs]) (t.answer c st) := by
  intro b hb
  have before := h b fun mem => hb (List.mem_append_left _ mem)
  cases b with
  | ring | recs => simp at hb
  | _ => simpa [Block.same] using before

theorem exec_freeze_of_taken {sel : BitVec 8} (running : s.notice.halted = false) (sel_x : selected sel = some x)
    (enabled : (s.out x).state = .enabled) (shown : (s.out x).latchedSlot = some k) : exec (.freeze sel) s =
      .next (((s.touch.onSlots (·.takeFreeze x k)).onOut x fun e => { e with source := .frozen k }).answer
        (.freeze sel) .done) := by
  have shown' : (s.touch.out x).latchedSlot = some k := by rw [← shown, Engine.latchedSlot, State.touch_out_latch]; rfl
  simp only [exec, execFreeze, State.unlessHalted_of_not running, sel_x, State.touch_out_state, enabled, if_true, shown']

theorem SlotTable.takeFreeze_freezes {t : SlotTable} (ready : (t.slot k).state = .ready) (_ : k < t.slots.length) :
    (x = .a → ((t.takeFreeze x k).slot k).freezeA = true) ∧ (x = .b → ((t.takeFreeze x k).slot k).freezeB = true) :=
  Slot.freezes_eq_iff.1 (SlotTable.freezes_takeFreeze x ready)

/-- Settles O44: each directive by its equation, the selector above 1 by the order of the refusals. -/
theorem sourceDirectivesSetTheSource : Obligations.SourceDirectivesSetTheSource := by
  refine ⟨fun sel useView pos x s running sel_x => ?_, fun sel useView pos s running bad => ?_⟩
  · have chosen := selected_of_out x sel_x
    refine ⟨⟨_, exec_live running chosen, ?_, by simp, fun k src => ?_,
      State.changesOnly.answer (State.sourceSet_changesOnly x .live s.touch) _ _, ?_⟩,
      ⟨_, exec_blank running chosen, ?_, ?_, fun k src => ?_, by simp, ?_, ?_⟩, fun off => ?_, fun on nothing => ?_,
      fun k on shown => ⟨_, exec_freeze_of_taken running chosen ((State.touch_out_state ..).symm.trans on)
        (Engine.latchedSlot_eq_some_iff.2 ((congrArg _ (State.touch_out_latch x s)).symm.trans shown)), ?_, by simp,
        fun ready inside => ?_, ?_, ?_⟩, fun bad => ?_, fun on opening => ?_, fun on opened outside => ?_,
      fun on opened inside bad => ?_, fun on opened inside saved free => ⟨_, exec_recall_of_taken running chosen
        ((State.touch_out_state ..).symm.trans on) opened inside saved free, by simp, ?_, fun unused => ?_,
        fun sv used view => ?_, ?_, ?_, fun k src => ?_, fun k notFrozen notHeld => ?_, fun listed => ?_,
        State.changesOnly.answer (State.recallTaken_changesOnly x useView _ _) _ _⟩⟩
    · rw [State.answer_out, State.sourceSet_out]
    · rw [State.answer_slots, State.sourceSet_slots]
      exact State.dropFreeze_thaws (.inl src)
    · rw [State.answer_out, State.sourceSet_out_other]
    · rw [State.answer_out, State.onMon_out, State.sourceSet_out]
    · rw [State.answer_mon, State.onMon_mon]
      cases x <;> simp [State.sourceSet, Monitor.setHold]
    · rw [State.answer_slots, State.onMon_slots, State.sourceSet_slots]
      exact State.dropFreeze_thaws src
    · rw [State.answer_out, State.onMon_out, State.sourceSet_out_other]
    · intro b hb
      cases b with
      | outA | outB | slots | mon | ring | recs => simp at hb
      | _ => simp [Block.same, State.sourceSet]
    · simp only [exec, execFreeze, State.unlessHalted_of_not running, chosen, off, if_false]
    · have empty : (s.touch.out x).latchedSlot = none :=
        Option.eq_none_iff_forall_ne_some.2 fun k shown => nothing k (Engine.latchedSlot_eq_some_iff.1 shown)
      simp only [exec, execFreeze, State.unlessHalted_of_not running, chosen, on, if_true, empty]
    · rw [State.answer_out, State.onOut_out, State.onSlots_out]
    · rw [State.answer_slots, State.onOut_slots, State.onSlots_slots]
      exact SlotTable.takeFreeze_freezes ready inside
    · rw [State.answer_out, State.onOut_out_other, State.onSlots_out]
    · intro b hb
      cases b with
      | outA | outB | slots | ring | recs => simp at hb
      | _ => simp [Block.same]
    · rw [State.touch_out_state] at bad
      exact exec_recall_of_refused running chosen (by simp [firstRefusal, bad])
    · rw [State.touch_out_state] at on
      exact exec_recall_of_refused running chosen (by simp [firstRefusal, on, opening])
    · rw [State.touch_out_state] at on
      exact exec_recall_of_refused running chosen (by simp [firstRefusal, on, opened, outside])
    · rw [State.touch_out_state] at on
      exact exec_recall_of_refused running chosen (by simp [firstRefusal, on, opened, inside.not_ge, bad])
    · rw [State.answer_out, State.recallTaken_out]
    · rw [State.answer_out, State.recallTaken_out, State.touch_store]
      exact View.recalled_of_not_used unused
    · rw [State.answer_out, State.recallTaken_out, State.touch_store]
      exact View.recalled_of_used used view
    · rw [State.answer_out, State.recallTaken_out]
    · rw [State.answer_out, State.recallTaken_out_other]
    · rw [State.answer_slots, State.recallTaken_slots]
      exact State.dropFreeze_thaws src
    · rw [State.answer_slots, State.recallTaken_slots, State.dropFreeze_slot, if_neg]
      rw [Source.frozenSlot_eq_some_iff]
      exact not_or.2 ⟨notFrozen, notHeld⟩
    · rw [State.answer_store]
      exact State.recallTaken_recalled useView (by rwa [State.touch_store])

  · have none := selected_of_one_lt bad
    refine ⟨?_, ?_, ?_, fun closed => ?_, fun opening => ?_, fun opened => ?_⟩
    · simp only [exec, execLive, State.unlessHalted_of_not running, none]
    · simp only [exec, execFreeze, State.unlessHalted_of_not running, none]
    · simp only [exec, execBlank, State.unlessHalted_of_not running, none]
    · simp [exec, execRecall, State.unlessHalted_of_not running, none, firstRefusal, closed]
    · simp [exec, execRecall, State.unlessHalted_of_not running, none, firstRefusal, opening]
    · simp [exec, execRecall, State.unlessHalted_of_not running, none, firstRefusal, opened]

end Sys2Proof.Machine
end

section
/-! The RANGE conditions of CONFIGURE_OUTPUT (R106), CONFIGURE_CAPTURE (R31, R53, R140) and OPEN_STORE (R135) as the
conditions under which a geometry fits; CONFIGURE_CAPTURE. -/

namespace Sys2Proof.Machine

variable {s : State}

/-! ### Regions -/

theorem Region.overlaps_eq_false_iff {a b : Region} : a.overlaps b = false ↔ a.Apart b := by
  simp only [Region.overlaps, Region.Apart, Region.at, Bool.and_eq_false_iff, Bool.and_eq_true, decide_eq_false_iff_not,
    decide_eq_true_eq]
  constructor
  · intro h x
    omega
  · intro apart
    have := apart (max a.base b.base)
    omega

theorem Region.overlaps?_eq_false_iff {a : Region} {b : Option Region} :
    a.overlaps? b = false ↔ ∀ r, b = some r → a.Apart r := by
  cases b <;> simp [Region.overlaps?, Region.overlaps_eq_false_iff]

theorem Region.overlaps?_map {α : Type} {a : Region} {f : α → Region} {o : Option α} :
    a.overlaps? (o.map f) = false ↔ ∀ g, o = some g → a.Apart (f g) := by
  cases o <;> simp [Region.overlaps?, Region.overlaps_eq_false_iff]

theorem Region.overlaps?_store {a : Region} : a.overlaps? s.store? = false ↔
    (s.store.state ≠ .closed → ∀ g, s.store.geom = some g → a.Apart g.extent) := by
  unfold State.store?
  split
  next closed => simp [closed, Region.overlaps?]
  next opened => simp [opened, Region.overlaps?_map]

theorem Region.inSpace_iff {a : Region} : a.inSpace = true ↔ a.base + a.len ≤ 2 ^ 36 :=
  decide_eq_true_iff

theorem State.forall_out_iff {P : OutId → Prop} : (∀ x, P x) ↔ P .a ∧ P .b :=
  ⟨fun h => ⟨h .a, h .b⟩, fun ⟨a, b⟩ x => by cases x; exacts [a, b]⟩

theorem Region.apart_comm {a b : Region} : a.Apart b ↔ b.Apart a := by
  simp only [Region.Apart]
  refine forall_congr' fun x => ?_
  cases a.at x <;> cases b.at x <;> simp

/-! ### Geometries that fit -/

theorem State.outputRangeBad_eq_false_iff {x : OutId} {ow oh base : Nat} :
    s.outputRangeBad x ⟨base, ow, oh⟩ = false ↔ s.OutputFits x ow oh base := by
  simp only [State.outputRangeBad, Bool.or_eq_false_iff, decide_eq_false_iff_not, Bool.not_eq_false',
    Region.inSpace_iff, Region.overlaps_eq_false_iff, State.captureWindow?, State.slotRegion?, Engine.window?,
    Region.overlaps?_map, Region.overlaps?_store, State.OutputFits, OutGeom.window, frameBytes]
  constructor
  · rintro ⟨⟨⟨⟨⟨⟨⟨⟨width, height⟩, aligned⟩, space⟩, page⟩, capture⟩, slots⟩, other⟩, store⟩
    exact ⟨by omega, by omega, by omega, space, page, capture, slots, other, store⟩
  · rintro ⟨width, height, aligned, space, page, capture, slots, other, store⟩
    exact ⟨⟨⟨⟨⟨⟨⟨⟨by omega, by omega⟩, by omega⟩, space⟩, page⟩, capture⟩, slots⟩, other⟩, store⟩

theorem State.openRangeBad_eq_false_iff {policy resume : BitVec 8} {e base size : Nat} :
    s.openRangeBad policy resume ⟨base, e, size⟩ = false ↔
      policy.toNat ≤ 1 ∧ resume.toNat ≤ 1 ∧ s.StoreFits e base size := by
  simp only [State.openRangeBad, Bool.or_eq_false_iff, decide_eq_false_iff_not, Bool.not_eq_false',
    Region.inSpace_iff, Region.overlaps_eq_false_iff, State.captureWindow?, State.slotRegion?, Engine.window?,
    Region.overlaps?_map, State.StoreFits, StoreGeom.extent, State.forall_out_iff, State.out_a, State.out_b]
  constructor
  · rintro ⟨⟨⟨⟨⟨⟨⟨⟨⟨entries, policy⟩, resume⟩, aligned⟩, space⟩, page⟩, capture⟩, slots⟩, outA⟩, outB⟩
    exact ⟨by omega, by omega, by omega, by omega, by omega, space, page, capture, slots, outA, outB⟩
  · rintro ⟨policy, resume, some, few, aligned, space, page, capture, slots, outA, outB⟩
    exact ⟨⟨⟨⟨⟨⟨⟨⟨⟨by omega, by omega⟩, by omega⟩, by omega⟩, space⟩, page⟩, capture⟩, slots⟩, outA⟩, outB⟩

theorem frameSize_pos {w h : Nat} (wide : 640 ≤ w) (high : 480 ≤ h) : 0 < frameSize w h := by
  have area : 640 * 480 ≤ w * h := Nat.mul_le_mul wide high
  simp only [frameSize, roundPage, frameBytes, Config.page]
  omega

/-- R140: what is asked of the store's geometry is asked of one; a store without one would hold no frame. -/
theorem State.storeHolds_iff {win reg : Region} {size : Nat} (pos : 0 < size) :
    ((s.store.state ≠ .closed → ∀ g, s.store.geom = some g → win.Apart g.extent)
      ∧ (s.store.state ≠ .closed → ∀ g, s.store.geom = some g → reg.Apart g.extent)
      ∧ (s.store.state = .closed ∨ size ≤ (s.store.geom.map (·.entrySize)).getD 0)) ↔
    (s.store.state ≠ .closed → ∃ g, s.store.geom = some g ∧ win.Apart g.extent ∧ reg.Apart g.extent
      ∧ size ≤ g.entrySize) := by
  by_cases closed : s.store.state = .closed
  · simp [closed]
  · cases geom : s.store.geom with
    | none => simp [closed, pos.ne']
    | some g => simp [closed]

theorem State.captureRangeBad_eq_false_iff {w h base region : Nat} :
    s.captureRangeBad ⟨base, w, h⟩ ⟨region, 6 * frameSize w h⟩ = false ↔ s.CaptureFits w h base region := by
  simp only [State.captureRangeBad, Bool.or_eq_false_iff, Bool.and_eq_false_iff, decide_eq_false_iff_not, Bool.not_eq_false',
    Region.inSpace_iff, Region.overlaps_eq_false_iff, Engine.window?, Region.overlaps?_map, Region.overlaps?_store,
    State.CaptureFits, CapGeom.window, State.forall_out_iff, State.out_a, State.out_b, frameBytes, ne_eq, not_not, not_lt,
    and_assoc]
  constructor
  · rintro ⟨width, height, aligned, winSpace, winPage, winA, winB, winStore, regAligned, regSpace, regPage, apart, regA, regB,
      regStore, holds⟩
    refine ⟨by omega, by omega, by omega, by omega, by omega, by omega, aligned, regAligned, winSpace, regSpace, winPage,
      regPage, Region.apart_comm.1 apart, fun g h => ⟨winA g h, regA g h⟩, fun g h => ⟨winB g h, regB g h⟩, ?_⟩
    exact (State.storeHolds_iff (frameSize_pos (by omega) (by omega))).1 ⟨winStore, regStore, holds⟩
  · rintro ⟨wide, narrow, width, high, low, height, aligned, regAligned, winSpace, regSpace, winPage, regPage, apart, outA,
      outB, store⟩
    obtain ⟨winStore, regStore, holds⟩ := (State.storeHolds_iff (frameSize_pos wide high)).2 store
    exact ⟨by omega, by omega, aligned, winSpace, winPage, fun g h => (outA g h).1, fun g h => (outB g h).1, winStore,
      regAligned, regSpace, regPage, Region.apart_comm.1 apart, fun g h => (outA g h).2, fun g h => (outB g h).2, regStore,
      holds⟩

/-- Settles O29. -/
theorem configureCaptureIsRefusedOrTaken : Obligations.ConfigureCaptureIsRefusedOrTaken := by
  intro w h window region s running c busy fits
  have busy_iff : (s.cap.running || s.slots.slots.any Slot.isHeld) = true ↔ busy := by
    simp only [Bool.or_eq_true, List.any_eq_true, busy]
  have fits_iff : s.captureRangeBad ⟨window.toNat, w.toNat, h.toNat⟩ ⟨region.toNat, 6 * frameSize w.toNat h.toNat⟩ = false
    ↔ fits := State.captureRangeBad_eq_false_iff
  refine ⟨fun isBusy => ?_, fun free bad => ?_, fun free ok => ?_⟩
  · simp only [c, exec, execConfigureCapture, State.unlessHalted_of_not running, firstRefusal, busy_iff.2 isBusy, if_true]
  · rw [← busy_iff, Bool.not_eq_true] at free
    rw [← fits_iff, Bool.not_eq_false] at bad
    simp only [c, exec, execConfigureCapture, State.unlessHalted_of_not running, firstRefusal, free, bad, if_true,
      Bool.false_eq_true, if_false]
  · rw [← busy_iff, Bool.not_eq_true] at free
    simp only [c, exec, execConfigureCapture, State.unlessHalted_of_not running, firstRefusal, free, fits_iff.2 ok,
      Bool.false_eq_true, if_false]
    rfl

end Sys2Proof.Machine
end

section
/-! CONFIGURE_OUTPUT, ENABLE_OUTPUT and DISABLE_OUTPUT (R106 to R108); a directive accepted and answered in one step
(R25). -/

namespace Sys2Proof.Machine

variable {s t u : State} {c : Instr} {st : Status} {ty : Nat} {x : OutId} {k : Nat}

/-! ### Accepted and answered -/

/-- The type byte of a record of a directive that an owner may answer later (R25, R30). -/
theorem type_of_decodeDirective {rec : List Byte} (names : decodeDirective rec = c.bare) :
    (∀ die, c = .stopCapture die → fieldAt rec 0 1 = 3) ∧ (∀ x, c = .disableOutput x → fieldAt rec 0 1 = 7)
      ∧ (∀ po re wl e b, c = .openStore po re wl e b → fieldAt rec 0 1 = 15)
      ∧ (∀ die, c = .restart die → fieldAt rec 0 1 = 26) := by
  refine ⟨?_, ?_, ?_, ?_⟩
  all_goals
    intros
    subst c
    revert names
    unfold decodeDirective Instr.bare
    split <;> simp [*]

/-- A directive accepted and answered in the same step. -/
theorem State.answersNow_answerAccepted (type : ∀ rec, decodeDirective rec = c.bare → fieldAt rec 0 1 = ty)
    (flight : u.ring.flight = (s.accept c).ring.flight) (st : Status) : s.AnswersNow c st (u.answerAccepted ty st) := by
  refine ⟨State.answerAccepted_lastStatus .., fun i rec dispatched names => ?_⟩
  have accepted : u.ring.flight = some ⟨i, .accepted rec⟩ :=
    flight.trans ((State.accepts_accept rfl).2 i rec dispatched names)
  rw [State.answerAccepted_of_accepted accepted (type rec names)]
  exact State.answered_answerRecord i rec st _
/-! ### An output leaves -/

theorem State.leaveOutput_slot (x : OutId) (s : State) (j : Nat) :
    (s.leaveOutput x).slots.slot j = ((s.dropShow x).dropFreeze x).slots.slot j := by
  simp [State.leaveOutput]

theorem SlotTable.slot_dropShow (x : OutId) (k j : Nat) (t : SlotTable) :
    (t.dropShow x k).slot j = if j = k then (t.slot j).setShow x false else t.slot j := by
  rw [SlotTable.dropShow, SlotTable.slot_onSlot]
  by_cases same : j = k
  · subst same
    by_cases inside : j < t.slots.length
    · simp [inside]
    · cases x <;> simp [inside, SlotTable.slot_of_length_le (Nat.le_of_not_lt inside), Slot.setShow, Slot.reset]
  · simp [same]

theorem State.dropShow_slot (x : OutId) (s : State) (j : Nat) : (s.dropShow x).slots.slot j =
    if (s.out x).latchedSlot = some j then (s.slots.slot j).setShow x false else s.slots.slot j := by
  unfold State.dropShow
  cases latched : (s.out x).latchedSlot with
  | none => simp
  | some k => simp [SlotTable.slot_dropShow, eq_comm]

/-- R108: the output that leaves gives its SHOW tag up. -/
theorem State.leaveOutput_shows (h : (s.out x).latchedSlot = some k) :
    ((s.leaveOutput x).slots.slot k).shows x = false := by
  rw [State.leaveOutput_slot, State.dropFreeze_shows, State.dropShow_slot, if_pos h, Slot.setShow_shows, if_pos rfl]

/-- R108: the output that leaves gives its FREEZE tag up. -/
theorem State.leaveOutput_freezes (h : (s.out x).source.frozenSlot = some k) :
    ((s.leaveOutput x).slots.slot k).freezes x = false := by
  rw [State.leaveOutput_slot, State.dropFreeze_slot, State.dropShow_out, if_pos h, Slot.setFreeze_freezes, if_pos rfl]

/-! ### The RECALL marks of an output -/

/-- A copy that starts rewrites one record at most. -/
theorem State.startCopy_recAt (p q : Nat) (s : State) : (s.startCopy p).store.recAt q = s.store.recAt q
    ∨ q = p ∧ ∃ r n, (s.startCopy p).store.recAt q = Request.copyingRec r n := by
  cases queue : s.store.queue with
  | nil => rw [State.startCopy_of_empty queue]; exact .inl rfl
  | cons r rest =>
    cases next : s.store.nextSeq with
    | none => rw [State.startCopy_of_exhausted next]; exact .inl rfl
    | some n =>
      obtain ⟨e, _, store⟩ := State.startCopy_store (p := p) queue next
      have same : (s.startCopy p).store.recAt q = (s.store.onRec p fun _ => r.copyingRec n).recAt q := by
        rw [store]
        rfl
      rw [same, Store.recAt_onRec]
      split
      next here => exact .inr ⟨here.1, r, n, rfl⟩
      next => exact .inl rfl

theorem State.handover_recAt (p q : Nat) (s : State) : (s.handover p).store.recAt q = s.store.recAt q
    ∨ q = p ∧ ∃ r n, (s.handover p).store.recAt q = Request.copyingRec r n := by
  unfold State.handover
  dsimp only
  split
  · exact s.startCopy_recAt p q
  · exact .inl rfl

theorem Rec.recalled_setRecall (x : OutId) (v : Bool) (r : Rec) : (r.setRecall x v).recalled x = v := by
  cases x <;> rfl

theorem Store.recalled_onRec_setRecall (x : OutId) (p q : Nat) (st : Store)
    (h : q = p ∨ (st.recAt q).recalled x = false) :
    ((st.onRec p (Rec.setRecall x false)).recAt q).recalled x = false := by
  rw [Store.recAt_onRec]
  split
  · exact Rec.recalled_setRecall ..
  next outside =>
    obtain rfl | free := h
    · rw [Store.recAt_of_length_le (Nat.le_of_not_lt fun inside => outside ⟨rfl, inside⟩)]
      cases x <;> rfl
    · exact free

/-- A removal that hands a record over starts its copy, and a copy's record carries no mark. -/
theorem State.unmark_recalled {p q : Nat} (h : q = p ∨ (s.store.recAt q).recalled x = false) :
    ((s.unmark p (Rec.setRecall x false)).store.recAt q).recalled x = false := by
  obtain same | ⟨-, r, n, copying⟩ := (s.onStore (·.onRec p (Rec.setRecall x false))).handover_recAt p q
  · rw [State.unmark, same]
    exact Store.recalled_onRec_setRecall x p q s.store h
  · rw [State.unmark, copying]
    cases x <;> rfl

theorem State.dropRecalls_recalled {p : Nat} : ∀ (l : List Nat) {s : State},
    p ∈ l ∨ (s.store.recAt p).recalled x = false → ((s.dropRecalls x l).store.recAt p).recalled x = false
  | [], _, h => h.resolve_left List.not_mem_nil
  | q :: l, s, h => by
    rw [State.dropRecalls]
    refine State.dropRecalls_recalled l ?_
    split
    next =>
      obtain mem | free := h
      · obtain rfl | mem := List.mem_cons.1 mem
        · exact .inr (State.unmark_recalled (.inl rfl))
        · exact .inl mem
      · exact .inr (State.unmark_recalled (.inr free))
    next free =>
      obtain mem | free := h
      · obtain rfl | mem := List.mem_cons.1 mem
        · exact .inr (by simpa using free)
        · exact .inl mem
      · exact .inr free

theorem Store.mem_positionsBut_none {st : Store} {p : Nat} : p ∈ st.positionsBut none ↔ p < st.catalog.length := by
  simp [Store.positionsBut]

/-- R108: the output that leaves gives its RECALL marks up. -/
theorem State.leaveOutput_recalled (x : OutId) (s : State) (p : Nat) :
    ((s.leaveOutput x).store.recAt p).recalled x = false := by
  rw [State.leaveOutput, State.onOut_store]
  refine State.dropRecalls_recalled _ ?_
  rw [Store.mem_positionsBut_none]
  refine (Nat.lt_or_ge _ _).imp_right fun outside => ?_
  rw [Store.recAt_of_length_le outside]
  cases x <;> rfl

/-! ### The three directives -/

section
variable {sel : BitVec 8} (running : s.notice.halted = false) (sel_x : selected sel = some x)
include running sel_x

theorem exec_enableOutput : exec (.enableOutput sel) s = .next (if (s.out x).state = .disabled then
      (s.touch.onOut x fun e => { e.emptied with state := .enabled, queue := [] }).answer (.enableOutput sel) .done
    else s.touch.answer (.enableOutput sel) .refusedState) := by
  simp only [exec, execEnableOutput, State.unlessHalted_of_not running, sel_x, State.touch_out_state]

theorem exec_disableOutput : exec (.disableOutput sel) s = .next (
    if (s.out x).state = .enabled ∧ (s.out x).leaving = false then
      ((s.accept (.disableOutput sel)).onOut x fun e => { e with leaving := true }).finishLeaving x
    else s.answer (.disableOutput sel) .refusedState) := by
  simp only [exec, execDisableOutput, State.unlessHalted_of_not running, sel_x]

end

theorem State.finishLeaving_of_busy (busy : (s.out x).queue ≠ []) : s.finishLeaving x = s := by
  simp [State.finishLeaving, busy]

theorem State.finishLeaving_of_done (leaving : (s.out x).leaving = true) (done : (s.out x).queue = [])
    (alone : s.ring.restarting = false) : s.finishLeaving x = (s.leaveOutput x).answerAccepted 7 .done := by
  simp [State.finishLeaving, leaving, done, alone]

end Sys2Proof.Machine
end

section
/-! CONFIGURE_OUTPUT, ENABLE_OUTPUT and DISABLE_OUTPUT (R106 to R108): the obligation. -/

namespace Sys2Proof.Machine

variable {s t u : State} {x : OutId}

/-! ### A DISABLE_OUTPUT that ends at once -/

/-- The output is accepted to leave. -/
def State.leaves (x : OutId) (c : Instr) (s : State) : State := (s.accept c).onOut x fun e => { e with leaving := true }

theorem State.leaves_out (x : OutId) (c : Instr) (s : State) :
    (s.leaves x c).out x = { s.out x with leaving := true } := by
  rw [State.leaves, State.onOut_out, State.accept_out]

theorem State.leaves_out_other (x : OutId) (c : Instr) (s : State) :
    (s.leaves x c).out (otherOut x) = s.out (otherOut x) := by
  rw [State.leaves, State.onOut_out_other, State.accept_out]

theorem State.leaves_left_out (c : Instr) (alone : s.ring.restarting = false) :
    ((s.leaves x c).leaveOutput x).out x = { (s.out x).emptied with
      source := (s.out x).source.afterDisable, state := .disabled, leaving := false } := by
  rw [State.leaveOutput_out, State.leaves_out]
  simp [State.leaves, alone, Engine.emptied]

theorem Source.afterDisable_eq (src : Source) : src.afterDisable = (match src with
    | .frozen _ => .live
    | .recalled _ => .live
    | .held _ => .heldNone
    | src => src) := by
  cases src <;> rfl

/-- Settles O43. -/
theorem outputsAreConfiguredEnabledAndDisabled : Obligations.OutputsAreConfiguredEnabledAndDisabled := by
  refine ⟨fun sel ow oh window s running => ⟨fun bad => ?_, fun x sel_x => ⟨fun on => ?_, fun off bad => ?_,
    fun off fits => ?_⟩⟩, fun sel s running => ⟨fun bad => ?_, fun x sel_x => ⟨fun other => ?_, fun disabled => ?_⟩⟩,
    fun sel s running => ⟨fun bad => ?_, fun x sel_x => ⟨fun off => ?_, fun on stays busy => ?_,
    fun on stays done alone => ?_⟩⟩⟩
  · simp only [exec, execConfigureOutput, State.unlessHalted_of_not running, selected_of_one_lt bad]
  · simp only [exec, execConfigureOutput, State.unlessHalted_of_not running, selected_of_out x sel_x, firstRefusal, on,
      decide_true, if_true]
  · rw [← State.outputRangeBad_eq_false_iff, Bool.not_eq_false] at bad
    simp only [exec, execConfigureOutput, State.unlessHalted_of_not running, selected_of_out x sel_x, firstRefusal, off,
      bad, decide_false, Bool.false_eq_true, if_false, if_true]
  · simp only [exec, execConfigureOutput, State.unlessHalted_of_not running, selected_of_out x sel_x, firstRefusal, off,
      State.outputRangeBad_eq_false_iff.2 fits, decide_false, Bool.false_eq_true, if_false]
  · simp only [exec, execEnableOutput, State.unlessHalted_of_not running, selected_of_one_lt bad]
  · rw [exec_enableOutput running (selected_of_out x sel_x), if_neg other]
  · rw [exec_enableOutput running (selected_of_out x sel_x), if_pos disabled]
    obtain ⟨src, out⟩ := s.touch_out x
    refine ⟨_, rfl, ?_⟩
    simp only [State.answer_out, State.onOut_out, State.onOut_out_other, out]
    simp [Engine.emptied, PlaneCache.empty]
  · simp only [exec, execDisableOutput, State.unlessHalted_of_not running, selected_of_one_lt bad]
  · rw [exec_disableOutput running (selected_of_out x sel_x), if_neg fun h => off h.1]
  · rw [exec_disableOutput running (selected_of_out x sel_x), if_pos ⟨on, stays⟩]
    have waits : (s.leaves x (.disableOutput sel)).finishLeaving x = s.leaves x (.disableOutput sel) :=
      State.finishLeaving_of_busy (by rwa [State.leaves_out])
    refine ⟨_, congrArg _ waits, State.leaves_out .., State.leaves_out_other ..,
      State.accepts_accept (by simp [State.leaves]), fun b hb => ?_⟩
    cases b with
    | ring | outA | outB => simp at hb
    | _ => simp [Block.same, State.leaves]
  · rw [exec_disableOutput running (selected_of_out x sel_x), if_pos ⟨on, stays⟩]
    have leaves : (s.leaves x (.disableOutput sel)).finishLeaving x =
        ((s.leaves x (.disableOutput sel)).leaveOutput x).answerAccepted 7 .done :=
      State.finishLeaving_of_done (by rw [State.leaves_out]) (by rwa [State.leaves_out]) (by simpa [State.leaves] using alone)
    have out := State.leaves_left_out (x := x) (.disableOutput sel) alone
    refine ⟨_, congrArg _ leaves, ?_⟩
    simp only [State.answerAccepted_out, out, State.leaveOutput_out_other, State.leaves_out_other,
      State.answerAccepted_slots, State.answerAccepted_store]
    refine ⟨trivial, trivial, rfl, rfl, rfl, rfl, Source.afterDisable_eq _, fun k latched => ?_, fun k frozen => ?_,
      fun p _ => State.leaveOutput_recalled .., rfl, rfl, rfl, rfl, ?_, ?_, trivial, ?_, fun b hb => ?_⟩
    · rw [← Slot.shows_eq_iff]
      refine State.leaveOutput_shows ?_
      rw [State.leaves_out]
      exact Engine.latchedSlot_eq_some_iff.2 latched
    · rw [← Slot.freezes_eq_iff]
      refine State.leaveOutput_freezes ?_
      rw [State.leaves_out]
      exact Source.frozenSlot_eq_some_iff.2 frozen
    · simp [State.leaves]
    · refine State.answersNow_answerAccepted (fun rec names => ?_) (by simp [State.leaves]) _
      exact (type_of_decodeDirective names).2.1 sel rfl
    · have same := ((s.leaves x (.disableOutput sel)).sameBut_leaveOutput x).1.2.1
      rw [same]
      simp [State.leaves]
    · cases b with
      | outA | outB | slots | store | recs | ring => simp at hb
      | _ => simp [Block.same, State.leaves]

end Sys2Proof.Machine
end

section
/-! The store's directives that act at once: CLAIM, RELEASE, KEEP, UNKEEP and DELETE (R159, R160), CLOSE_STORE,
BEGIN_LESSON and END_LESSON (R139, R144, R145). -/

namespace Sys2Proof.Machine

variable {s t u : State} {pos : BitVec 16}

/-! ### The gate of the store's directives -/

theorem State.storeGate_refuses (rest : List (Bool × Status)) (s : State) :
    (s.store.state = .closed → firstRefusal (s.storeGate ++ rest) = some .refusedState)
      ∧ (s.store.state = .opening → firstRefusal (s.storeGate ++ rest) = some .refusedBusy)
      ∧ (s.store.state = .opened → firstRefusal (s.storeGate ++ rest) = firstRefusal rest) := by
  refine ⟨fun h => ?_, fun h => ?_, fun h => ?_⟩ <;> simp [State.storeGate, firstRefusal, h]

theorem State.storeGate_closed (h : s.store.state = .closed) : firstRefusal s.storeGate = some .refusedState := by
  simpa using (s.storeGate_refuses []).1 h

theorem State.storeGate_opening (h : s.store.state = .opening) : firstRefusal s.storeGate = some .refusedBusy := by
  simpa using (s.storeGate_refuses []).2.1 h

theorem State.storeGate_opened (h : s.store.state = .opened) : firstRefusal s.storeGate = none := by
  simpa [firstRefusal] using (s.storeGate_refuses []).2.2 h

/-! ### Entry directives -/

/-- R133: the refusals every entry directive has before its own. -/
theorem exec_entry_of_gate {c : Instr} {st : Status} (running : s.notice.halted = false)
    (entry : c = .claim pos ∨ c = .release pos ∨ c = .keep pos ∨ c = .unkeep pos ∨ c = .delete pos)
    (refused : ∀ rest, firstRefusal (s.storeGate ++ (s.badPosition pos, .refusedRange) :: rest) = some st) :
    exec c s = .next (s.answer c st) := by
  obtain rfl | rfl | rfl | rfl | rfl := entry <;>
    simp only [exec, execClaim, execRelease, execKeep, execUnkeep, execDelete, State.unlessHalted_of_not running, refused]

theorem State.badPosition_iff {pos : BitVec 16} {s : State} :
    s.badPosition pos = true ↔ (s.store.geom.map (·.e)).getD 0 ≤ pos.toNat := decide_eq_true_iff

section
variable (opened : s.store.state = .opened) (inside : pos.toNat < (s.store.geom.map (·.e)).getD 0)
include opened inside

theorem State.entryGate (rest : List (Bool × Status)) :
    firstRefusal (s.storeGate ++ (s.badPosition pos, .refusedRange) :: rest) = firstRefusal rest := by
  have ok : s.badPosition pos = false := by
    rw [← Bool.not_eq_true, State.badPosition_iff]
    exact inside.not_ge
  rw [(s.storeGate_refuses _).2.2 opened, firstRefusal, ok]
  rfl

variable (running : s.notice.halted = false)
include running

theorem exec_claim {refused : Bool} (h : (decide ((s.store.recAt pos.toNat).state ≠ .saved)
      || (s.store.recAt pos.toNat).claimed || (s.store.recAt pos.toNat).wanted) = refused) :
    exec (.claim pos) s = .next (if refused then s.answer (.claim pos) .refusedEntry
      else (s.onStore (·.onRec pos.toNat fun r => { r with claimed := true })).answer (.claim pos) .done) := by
  simp only [exec, execClaim, State.unlessHalted_of_not running, State.entryGate opened inside, firstRefusal, h]
  cases refused <;> rfl

theorem exec_release : exec (.release pos) s = .next ((if (s.store.recAt pos.toNat).claimed = true then
      s.unmark pos.toNat fun r => { r with claimed := false } else s).answer (.release pos) .done) := by
  simp only [exec, execRelease, State.unlessHalted_of_not running, State.entryGate opened inside, firstRefusal]

theorem exec_keep_of_free (free : (s.store.recAt pos.toNat).state = .free) :
    exec (.keep pos) s = .next (s.answer (.keep pos) .refusedEntry) := by
  simp only [exec, execKeep, State.unlessHalted_of_not running, State.entryGate opened inside, firstRefusal, free,
    decide_true, if_true]

theorem exec_unkeep_of_free (free : (s.store.recAt pos.toNat).state = .free) :
    exec (.unkeep pos) s = .next (s.answer (.unkeep pos) .refusedEntry) := by
  simp only [exec, execUnkeep, State.unlessHalted_of_not running, State.entryGate opened inside, firstRefusal, free,
    decide_true, if_true]

theorem exec_keep_of_used (used : (s.store.recAt pos.toNat).state ≠ .free) : exec (.keep pos) s =
    .next ((((s.onStore (·.onRec pos.toNat fun r => { r with kept := true })).request (.catalog pos.toNat)).endWaitBy
      pos.toNat).answer (.keep pos) .done) := by
  simp only [exec, execKeep, State.unlessHalted_of_not running, State.entryGate opened inside, firstRefusal, used,
    decide_false, Bool.false_eq_true, if_false]

theorem exec_unkeep_of_used (used : (s.store.recAt pos.toNat).state ≠ .free) : exec (.unkeep pos) s =
    .next (((s.onStore (·.onRec pos.toNat fun r => { r with kept := false })).request (.catalog pos.toNat)).answer
      (.unkeep pos) .done) := by
  simp only [exec, execUnkeep, State.unlessHalted_of_not running, State.entryGate opened inside, firstRefusal, used,
    decide_false, Bool.false_eq_true, if_false]

theorem exec_delete {refused : Bool} (h : (decide ((s.store.recAt pos.toNat).state ≠ .saved)
      || (s.store.recAt pos.toNat).marked || (s.store.recAt pos.toNat).wanted) = refused) :
    exec (.delete pos) s = .next (if refused then s.answer (.delete pos) .refusedEntry
      else (((s.onStore (·.freeRec pos.toNat)).request (.catalog pos.toNat)).requestStatus).answer (.delete pos) .done) := by
  simp only [exec, execDelete, State.unlessHalted_of_not running, State.entryGate opened inside, firstRefusal, h]
  cases refused <;> rfl

end

/-! ### The WANTED record -/

theorem Store.wanted_onRec (st : Store) (p : Nat) (f : Rec → Rec) (h : ∀ r, (f r).wanted = r.wanted) :
    ((st.onRec p f).recAt p).wanted = (st.recAt p).wanted := Store.recAt_onRec_field h p p st

/-- A record that is not WANTED hands nothing over. -/
theorem State.handover_of_not_wanted {p : Nat} (h : (s.store.recAt p).wanted = false) : s.handover p = s := by
  simp [State.handover, h]

/-- A record that is not WANTED ends no wait. -/
theorem State.endWaitBy_of_not_wanted {p : Nat} (h : (s.store.recAt p).wanted = false) : s.endWaitBy p = s := by
  simp [State.endWaitBy, h]

theorem State.endWaitBy_of_wanted {p : Nat} (h : (s.store.recAt p).wanted = true)
    (due : s.store.engine.waitCount < s.store.waitLimit) :
    s.endWaitBy p = (s.onStore (·.onRec p fun r => { r with wanted := false })).nextRequest := by
  simp [State.endWaitBy, State.waitOver, h, due.not_ge]

theorem State.onRec_onRec (p : Nat) (f g : Rec → Rec) (s : State) :
    (s.onStore (·.onRec p f)).onStore (·.onRec p g) = s.onStore (·.onRec p fun r => g (f r)) := by
  simp only [State.onStore, Store.onRec, List.modify_modify_eq]
  rfl

theorem State.onStore_request (k : Target) (f : Store → Store) (s : State) :
    (s.request k).onStore f = (s.onStore f).request k := rfl

/-- Settles O54: the refusals in their order, and each directive by its equation. -/
theorem entryDirectivesActOnTheirRecord : Obligations.EntryDirectivesActOnTheirRecord := by
  intro pos s running
  dsimp only
  refine ⟨fun c entry => ⟨fun closed => ?_, fun opening => ?_, fun opened outside => ?_⟩, fun opened inside =>
    ⟨fun bad => ?_, fun saved free unwanted => ?_, fun free => ?_, fun claimed unwanted => ?_, fun free => ⟨?_, ?_⟩,
      fun used unwanted => ?_, fun used wanted waits => ?_, fun used => ?_, fun bad => ?_, fun saved free unwanted => ?_⟩⟩
  · exact exec_entry_of_gate running entry fun rest => (s.storeGate_refuses _).1 closed
  · exact exec_entry_of_gate running entry fun rest => (s.storeGate_refuses _).2.1 opening
  · refine exec_entry_of_gate running entry fun rest => ?_
    rw [(s.storeGate_refuses _).2.2 opened, firstRefusal, if_pos (State.badPosition_iff.2 outside)]
  · rw [exec_claim opened inside running (refused := true)]
    · rfl
    · simpa [or_assoc] using bad
  · rw [exec_claim opened inside running (refused := false)]
    · rfl
    · simp [saved, free, unwanted]
  · rw [exec_release opened inside running, free]
    rfl
  · rw [exec_release opened inside running, claimed, if_pos rfl, State.unmark, State.handover_of_not_wanted]
    · rfl
    · refine (Store.wanted_onRec s.store _ _ ?_).trans unwanted
      exact fun _ => rfl
  · exact exec_keep_of_free opened inside running free
  · exact exec_unkeep_of_free opened inside running free
  · rw [exec_keep_of_used opened inside running used, State.endWaitBy_of_not_wanted]
    · rfl
    · refine (Store.wanted_onRec s.store _ _ ?_).trans unwanted
      exact fun _ => rfl
  · rw [exec_keep_of_used opened inside running used, State.endWaitBy_of_wanted]
    · rw [State.onStore_request, State.onRec_onRec]
      rfl
    · refine (Store.wanted_onRec s.store _ _ ?_).trans wanted
      exact fun _ => rfl
    · exact waits
  · exact exec_unkeep_of_used opened inside running used
  · rw [exec_delete opened inside running (refused := true)]
    · rfl
    · simpa [or_assoc] using bad
  · rw [exec_delete opened inside running (refused := false)]
    · refine ⟨_, rfl, State.answer_store .., State.record_mem_answer _ _ ?_, State.record_mem_answer _ _ (by simp),
        by simp, fun b hb => ?_⟩
      · simp [RecordWriter.mem_request_of_mem]
      · cases b with
        | store | recs | ring => simp at hb
        | _ => simp [Block.same]
    · simp [saved, free, unwanted]

/-! ### CLOSE_STORE -/

theorem RecordWriter.getElem?_request {x : RecWork} {w : RecordWriter} {i : Nat} (h : w.waiting[i]? = some x)
    (k : Target) : (w.request k).waiting[i]? = some x := by
  unfold RecordWriter.request
  split
  · exact h
  · exact List.getElem?_append_left (List.getElem?_eq_some_iff.1 h).1 ▸ h

theorem RecordWriter.getElem?_give {x : RecWork} {w : RecordWriter} {i : Nat} (h : w.waiting[i]? = some x) {k : Target}
    (other : x.isGiven k = false) (d : List Byte) : (w.give k d).waiting[i]? = some x := by
  unfold RecordWriter.give
  split
  · simp [List.getElem?_map, h, other]
  · exact List.getElem?_append_left (List.getElem?_eq_some_iff.1 h).1 ▸ h

theorem State.getElem?_answer {x : RecWork} {i : Nat} (h : s.recs.waiting[i]? = some x)
    (other : ∀ i, x.isGiven (.directive i) = false) (c : Instr) (st : Status) :
    (s.answer c st).recs.waiting[i]? = some x := by
  obtain ⟨j, _, _, _, eq⟩ | eq := State.answer_cases c st s
  · rw [eq]
    exact RecordWriter.getElem?_give h (other j) _
  · rwa [eq]

/-- R139: a CLOSE_STORE that is taken. -/
def State.storeClosed (s : State) : State :=
  (((s.onRecs fun w => { w with waiting := w.waiting.map (RecWork.fixFor s) }).onStore fun st =>
    { st with state := .closed, geom := none, catalog := [], order := [], lesson := none }).requestStatus).answer
      .closeStore .done

theorem State.getElem?_storeClosed {i : Nat} {w x : RecWork} (h : s.recs.waiting[i]? = some w) (fixed : w.fixFor s = x)
    (other : ∀ i, x.isGiven (.directive i) = false) : s.storeClosed.recs.waiting[i]? = some x := by
  refine State.getElem?_answer (RecordWriter.getElem?_request ?_ _) other _ _
  simp [List.getElem?_map, h, fixed]

theorem RecWork.fixFor_of_other {w : RecWork} (header : w ≠ .record .header) (catalog : ∀ p, w ≠ .record (.catalog p)) :
    w.fixFor s = w := by
  cases w with
  | record k => cases k <;> simp_all [RecWork.fixFor]
  | _ => rfl

theorem RecWork.isGiven_eq_false {w : RecWork} {k : Target} (h : ∀ d, w ≠ .given k d) : w.isGiven k = false := by
  cases w with
  | given j d =>
    have ne : j ≠ k := fun same => h d (by rw [same])
    simp [RecWork.isGiven, ne]
  | _ => rfl

theorem exec_closeStore (running : s.notice.halted = false) (opened : s.store.state = .opened) {busy : Bool}
    (h : (!s.store.queue.isEmpty || s.store.catalog.any fun r => r.recallA || r.recallB) = busy) :
    exec .closeStore s = .next (if busy then s.answer .closeStore .refusedBusy else s.storeClosed) := by
  simp only [exec, execCloseStore, State.unlessHalted_of_not running, (s.storeGate_refuses _).2.2 opened, firstRefusal, h]
  cases busy <;> rfl

/-! ### Notices to the monitor -/

/-- A notice that is no answer is heard at once when nothing is on its way (R90). -/
theorem State.tellMonitor_of_empty {n : MonNotice} (empty : s.mon.inbox = []) (notice : n.isAnswer = false) :
    s.tellMonitor n = s.onMon fun m => { m.hear n with inbox := [] } := by
  simp [State.tellMonitor, State.onMon, empty, Monitor.hearLeading, notice]

/-- A notice waits behind the answers on their way (R90). -/
theorem State.tellMonitor_of_waiting {n : MonNotice} (sound : s.mon.InboxSound)
    (waits : s.mon.inbox ≠ [] ∨ n.isAnswer = true) :
    s.tellMonitor n = s.onMon fun m => { m with inbox := m.inbox ++ [n] } := by
  unfold State.tellMonitor State.onMon
  cases inbox : s.mon.inbox with
  | nil => simp [inbox, Monitor.hearLeading, waits.resolve_left fun h => h inbox]
  | cons k rest =>
    have answer : k.isAnswer = true := sound k (by rw [inbox]; rfl)
    simp [inbox, Monitor.hearLeading, answer]

/-- Settles O52: the gate of the store's directives, then each directive's effect. -/
theorem storeClosesAndLessonsBeginAndEnd : Obligations.StoreClosesAndLessonsBeginAndEnd := by
  intro s running
  refine ⟨fun c lesson => ⟨fun closed => ?_, fun opening => ?_⟩, fun opened busy => ?_, fun opened empty free => ?_,
    fun opened sound => ?_, fun opened => ?_⟩
  · obtain rfl | rfl | rfl := lesson <;>
      simp only [exec, execCloseStore, execBeginLesson, execEndLesson, State.unlessHalted_of_not running,
        (s.storeGate_refuses _).1 closed, State.storeGate_closed closed]
  · obtain rfl | rfl | rfl := lesson <;>
      simp only [exec, execCloseStore, execBeginLesson, execEndLesson, State.unlessHalted_of_not running,
        (s.storeGate_refuses _).2.1 opening, State.storeGate_opening opening]
  · refine exec_closeStore running opened (busy := true) ?_
    simp only [Bool.or_eq_true, Bool.not_eq_true', List.isEmpty_eq_false_iff, List.any_eq_true]
    exact busy
  · have taken : exec .closeStore s = .next s.storeClosed := by
      refine exec_closeStore running opened (busy := false) ?_
      simp only [empty, List.isEmpty_nil, Bool.not_true, Bool.false_or, List.any_eq_false, Bool.or_eq_true, not_or,
        Bool.not_eq_true]
      exact free
    refine ⟨_, taken, fun sg geom => ⟨fun i waits => ?_, fun i p waits => ?_⟩, fun i w waits header catalog directive => ?_,
      ?_, ?_, ?_, fun b hb => ?_⟩
    · refine State.getElem?_storeClosed waits ?_ fun _ => rfl
      simp [RecWork.fixFor, recordAddr, recordContent, geom]
    · refine State.getElem?_storeClosed waits ?_ fun _ => rfl
      simp [RecWork.fixFor, recordAddr, recordContent, geom]
    · refine State.getElem?_storeClosed waits (RecWork.fixFor_of_other header catalog)
        fun k => RecWork.isGiven_eq_false (directive k)
    · exact State.answer_store ..
    · exact State.answer_lastStatus ..
    · exact State.record_mem_answer _ _ (by simp)
    · cases b with
      | store | recs | ring => simp at hb
      | _ => simp [Block.same, State.storeClosed]
  · simp only [exec, execBeginLesson, State.unlessHalted_of_not running, State.storeGate_opened opened]
    refine ⟨_, rfl, by simp, State.record_mem_answer _ _ (by simp), fun empty => ?_, fun waits => ?_, by simp,
      fun b hb => ?_⟩
    · rw [State.answer_mon, State.tellMonitor_of_empty (by simpa using empty) rfl]
      simp [Monitor.hear, empty]
    · rw [State.answer_mon, State.tellMonitor_of_waiting (by simpa using sound) (.inl (by simpa using waits))]
      simp
    · cases b with
      | store | mon | recs | ring => simp at hb
      | _ => simp [Block.same]
  · simp only [exec, execEndLesson, State.unlessHalted_of_not running, State.storeGate_opened opened]
    rfl

end Sys2Proof.Machine
end

section
/-! The response of a luma write (R79): the fault it logs and the frame it degrades. -/

namespace Sys2Proof.Machine

variable {s t u : State} {k : Nat}

/-! ### Faults logged -/

theorem State.mem_logFault_of_mem {x : RecWork} (kind : FaultKind) (b : BlockId) (addr : Nat) (frame : Count) (pos : FaultPos)
    (h : x ∈ s.recs.waiting) (other : ∀ i, x.isGiven (.fault i) = false) :
    x ∈ (s.logFault kind b addr frame pos).recs.waiting := by
  rw [State.logFault_eq]
  exact RecordWriter.mem_request_of_mem _ (RecordWriter.mem_request_of_mem _ (RecordWriter.mem_give_of_mem h (other _) _))

/-- R181: the fault record waits to be written at its place. -/
theorem State.fault_mem_logFault (kind : FaultKind) (b : BlockId) (addr : Nat) (frame : Count) (pos : FaultPos) (s : State) :
    .given (.fault s.notice.place) (faultRecord (s.notice.faults + 1) kind b addr frame pos)
      ∈ (s.logFault kind b addr frame pos).recs.waiting := by
  rw [State.logFault_eq]
  exact RecordWriter.mem_request_of_mem _ (RecordWriter.mem_request_of_mem _ (RecordWriter.mem_give ..))

@[simp] theorem State.logFault_faults (kind : FaultKind) (b : BlockId) (addr : Nat) (frame : Count) (pos : FaultPos)
    (s : State) :
    (s.logFault kind b addr frame pos).notice.faults = s.notice.faults + 1 := by
  rw [State.logFault_eq]

/-! ### The frame is degraded -/

@[simp] theorem State.degradeFrame_faults (s : State) : s.degradeFrame.notice.faults = s.notice.faults := by
  unfold State.degradeFrame
  split <;> simp

theorem Capture.degraded_again {c : Capture} (h : c.degraded = true) : { c with degraded := true } = c := by
  cases c
  cases h
  rfl

theorem State.degradeFrame_cap (s : State) : s.degradeFrame.cap = { s.cap with
    degraded := true
    degradedCount := if s.cap.degraded then s.cap.degradedCount else s.cap.degradedCount + 1 } := by
  unfold State.degradeFrame
  split
  next done => exact (Capture.degraded_again done).symm
  next first => simp

theorem State.isPending_degradeFrame_of (kind : EventKind) (h : s.notice.isPending kind = true) :
    s.degradeFrame.notice.isPending kind = true := by
  unfold State.degradeFrame
  split
  · exact h
  · simpa using .inl h

theorem State.degradeFrame_slots (s : State) :
    s.degradeFrame.slots = if s.cap.degraded then s.slots else s.slots.degrade := by
  unfold State.degradeFrame
  split <;> simp

theorem State.mem_degradeFrame_of_mem {x : RecWork} (h : x ∈ s.recs.waiting) : x ∈ s.degradeFrame.recs.waiting := by
  unfold State.degradeFrame
  split
  · exact h
  · exact State.mem_raise_of_mem (s := s.onCap _) _ h

theorem State.degradeFrame_raises (first : s.cap.degraded = false) :
    s.degradeFrame.notice.isPending .frameDegraded = true := by
  simp [State.degradeFrame, first]

theorem SlotTable.degrade_kind {t : SlotTable} (fills : t.filling = some k) : (t.degrade.slot k).kind = .degraded := by
  rw [SlotTable.degrade, fills]
  dsimp only
  rw [SlotTable.slot_onSlot_self (SlotTable.filling_eq_some.1 fills).1]

/-- Settles O37. -/
theorem lumaWriteErrorDegradesTheFrameOnce : Obligations.LumaWriteErrorDegradesTheFrameOnce := by
  refine ⟨fun addr w s running found => ⟨?_, fun tearing => ?_, fun k whole slot => ?_⟩, fun addr r s none => ?_⟩
  · simp [exec, execLumaWriteResponse, State.unlessHalted_of_not running, found, State.onCap]
  · simp [exec, execLumaWriteResponse, State.unlessHalted_of_not running, found, State.onCap, State.lumaError, tearing]
  · simp only [exec, execLumaWriteResponse, State.unlessHalted_of_not running, found, if_true, State.lumaError,
      State.onCap_cap, whole, slot, Bool.false_eq_true, if_false]
    refine ⟨_, rfl, by rw [State.degradeFrame_cap]; simp [whole, slot], by simp,
      State.isPending_degradeFrame_of _ (by simp),
      State.mem_degradeFrame_of_mem (State.fault_mem_logFault ..),
      fun first => State.degradeFrame_raises (by simpa using first),
      fun done => by simp [State.degradeFrame_slots, done], fun first j inside fills none => ?_, fun b hb => ?_⟩
    · simp only [State.degradeFrame_slots, State.logFault_cap, State.onCap_cap, first, Bool.false_eq_true, if_false,
        State.logFault_slots, State.onCap_slots]
      exact SlotTable.degrade_kind (SlotTable.filling_eq_some.2 ⟨inside, fills, none⟩)
    · cases b with
      | cap | notice | recs | slots => simp at hb
      | _ => simp [Block.same]
  · have missing : s.cap.lumaFlight.find? (fun w => decide (w.addr = addr)) = Option.none :=
      List.find?_eq_none.2 fun w mem => by simpa using none w mem
    simp [exec, execLumaWriteResponse, State.unlessHalted, missing]

end Sys2Proof.Machine
end

section
/-! AUTO requests and their answers (R90, R100, R148), SNAPSHOT (R146, R147). -/

namespace Sys2Proof.Machine

variable {s t u : State} {k : Nat}

/-! ### A request is taken -/

/-- R147: what a request taken makes of the part before an IDLE engine begins it. -/
def State.requestTaken (r : Request) (s : State) : State :=
  ((s.onStore fun st => { st with
      page := if st.lesson.isSome then st.nextPage else st.page, queue := st.queue ++ [r] }).onSlots
    (·.takeCopy r.slot)).requestStatus

theorem State.takeRequest_of_idle (idle : s.store.engine.state = .idle) (k : Nat) (auto keep : Bool) :
    s.takeRequest k auto keep = (s.requestTaken (s.buildRequest k auto keep)).nextRequest := if_pos idle

theorem State.takeRequest_of_busy (busy : s.store.engine.state ≠ .idle) (k : Nat) (auto keep : Bool) :
    s.takeRequest k auto keep = s.requestTaken (s.buildRequest k auto keep) := if_neg busy

theorem SlotTable.copies_takeCopy {t : SlotTable} (inside : k < t.slots.length) :
    ((t.takeCopy k).slot k).copies = (t.slot k).copies + 1 := by
  rw [SlotTable.takeCopy, SlotTable.slot_onSlot_self inside]

/-! ### AUTO requests -/

theorem State.autoRefused_iff : s.autoRefused = true ↔
    s.store.state ≠ .opened ∨ s.store.lesson = none ∨ s.slots.ready = [] ∨ 4 ≤ s.store.queue.length := by
  have full : decide (Config.snapshotDepth ≤ s.store.queue.length) = true ↔ 4 ≤ s.store.queue.length := decide_eq_true_iff
  simp [State.autoRefused, SlotTable.newest, full, or_assoc]

theorem exec_autoRequest {a : AutoRequest} {rest : List AutoRequest} (running : s.notice.halted = false)
    (first : s.mon.autoRequests = a :: rest) : exec .autoRequest s = .next (if s.autoRefused then
      (s.onMon fun m => { m with autoRequests := rest }).tellMonitor .refused
    else ((s.onMon fun m => { m with autoRequests := rest }).takeRequest (s.slots.newest.getD 0) true false).tellMonitor
      (.taken a.means a.stale)) := by
  simp only [exec, execAutoRequest, State.unlessHalted_of_not running, first]

/-! ### Answers heard -/

/-- What a notice makes of the saved signature, with the last signature `last`. -/
def MonNotice.heardOn (last : Option Signature) (saved : Option (List Nat)) : MonNotice → Option (List Nat)
  | .taken means stale => if stale then saved else some means
  | .refused => saved
  | .lessonBegun => none
  | .newestSaved stale => if stale then saved else (last.map (·.means)).or saved

theorem Monitor.hear_eq_saved (n : MonNotice) (m : Monitor) :
    m.hear n = { m with saved := n.heardOn m.last m.saved } := by
  cases n with
  | taken means stale => cases stale <;> rfl
  | newestSaved stale =>
    obtain ⟨_, _ | sig, _⟩ := m <;> cases stale <;> rfl
  | _ => rfl

theorem Monitor.foldl_hear : ∀ (l : List MonNotice) (m : Monitor), l.foldl (fun m n => m.hear n) m =
    { m with saved := l.foldl (fun saved n => n.heardOn m.last saved) m.saved }
  | [], _ => rfl
  | n :: l, m => by
    rw [List.foldl_cons, Monitor.foldl_hear l, Monitor.hear_eq_saved]
    rfl

/-- The notices up to the next answer are heard. -/
theorem Monitor.hearLeading_upto {notices tail : List MonNotice} {m : Monitor} (heard : ∀ n ∈ notices, n.isAnswer = false)
    (waits : ∀ n ∈ tail.head?, n.isAnswer = true) : Monitor.hearLeading (notices ++ tail) m =
      { m with inbox := tail, saved := notices.foldl (fun saved n => n.heardOn m.last saved) m.saved } := by
  rw [Monitor.hearLeading_append tail notices m heard, Monitor.foldl_hear]
  cases tail with
  | nil => rfl
  | cons n rest => simp [Monitor.hearLeading, waits n rfl]

/-- AUTO_ANSWER hears the answer at the front and the notices behind it. -/
theorem exec_autoAnswer {answer : MonNotice} {notices tail : List MonNotice} (running : s.notice.halted = false)
    (inbox : s.mon.inbox = answer :: (notices ++ tail)) (heard : ∀ n ∈ notices, n.isAnswer = false)
    (waits : ∀ n ∈ tail.head?, n.isAnswer = true) : exec .autoAnswer s =
      .next (if answer = .refused then State.raise .snapMissed (s.onMon fun m => { m with
          inbox := tail, saved := (answer :: notices).foldl (fun saved n => n.heardOn s.mon.last saved) s.mon.saved })
        else s.onMon fun m => { m with
          inbox := tail, saved := (answer :: notices).foldl (fun saved n => n.heardOn s.mon.last saved) s.mon.saved }) := by
  simp only [exec, execAutoAnswer, State.unlessHalted_of_not running, inbox, State.onMon,
    Monitor.hearLeading_upto heard waits, Monitor.hear_eq_saved, List.foldl_cons]

theorem SlotTable.newest_of_ready {t : SlotTable} {pre : List Nat} (ready : t.ready = pre ++ [k]) :
    t.newest = some k := by
  simp [SlotTable.newest, ready]

/-- R147, R148: the request an AUTO request in lesson `n` makes. -/
theorem State.buildRequest_of_lesson {n : Nat} (lesson : s.store.lesson = some n) (k : Nat) (auto keep : Bool) :
    s.buildRequest k auto keep = ⟨k, (s.slots.slot k).frame, (s.slots.slot k).kind, (s.slots.slot k).width,
      (s.slots.slot k).height, auto, keep, n, if s.store.page = 65535 then 1 else s.store.page + 1, s.viewOfA⟩ := by
  simp [State.buildRequest, lesson, Store.nextPage]

theorem State.requestTaken_of_lesson {n : Nat} (lesson : s.store.lesson = some n) (r : Request) :
    s.requestTaken r = { s with
      store := { s.store with
        page := if s.store.page = 65535 then 1 else s.store.page + 1, queue := s.store.queue ++ [r] }
      slots := s.slots.takeCopy r.slot, recs := s.recs.request .status } := by
  simp [State.requestTaken, State.requestStatus, State.request, State.onRecs, State.onSlots, State.onStore, lesson,
    Store.nextPage]

/-- Settles O42: the controller's answer to the oldest request, and what the monitor hears of it. -/
theorem autoRequestsAreAnswered : Obligations.AutoRequestsAreAnswered := by
  intro s running sound
  refine ⟨fun none => ?_, fun a rest first => ⟨fun bad => ?_, fun n pre k opened lesson ready room busy => ?_,
    fun n pre k opened lesson ready room idle => ?_⟩, fun none => ?_, fun means inbox => ?_, fun means inbox => ?_,
    fun inbox => ?_, fun answer notices tail inbox heard waits => ?_⟩
  · simp only [exec, execAutoRequest, State.unlessHalted_of_not running, none]
  · rw [exec_autoRequest running first, if_pos (State.autoRefused_iff.2 bad), State.tellMonitor_of_waiting ?_ (.inr rfl)]
    · rfl
    · exact sound
  · have taken : ¬s.autoRefused = true := by
      rw [State.autoRefused_iff]
      simp [opened, lesson, ready, room.not_ge]
    rw [exec_autoRequest running first, if_neg taken, State.takeRequest_of_busy (s := s.onMon _) busy,
      State.tellMonitor_of_waiting ?_ (.inr rfl), SlotTable.newest_of_ready ready,
      State.buildRequest_of_lesson (s := s.onMon _) lesson,
      State.requestTaken_of_lesson (s := s.onMon _) lesson]
    · refine ⟨_, _, rfl, rfl, rfl, fun inside => SlotTable.copies_takeCopy inside, rfl, fun b hb => ?_⟩
      cases b with
      | mon | store | slots | recs => simp at hb
      | _ => rfl
    · exact sound
  · have taken : ¬s.autoRefused = true := by
      rw [State.autoRefused_iff]
      simp [opened, lesson, ready, room.not_ge]
    rw [exec_autoRequest running first, if_neg taken, State.takeRequest_of_idle (s := s.onMon _) idle,
      State.tellMonitor_of_waiting ?_ (.inr rfl), SlotTable.newest_of_ready ready,
      State.buildRequest_of_lesson (s := s.onMon _) lesson,
      State.requestTaken_of_lesson (s := s.onMon _) lesson]
    · rfl
    · rw [State.nextRequest_mon]
      exact sound
  · simp only [exec, execAutoAnswer, State.unlessHalted_of_not running, none]
  · rw [exec_autoAnswer (notices := []) (tail := []) running inbox (by simp) (by simp)]
    rfl
  · rw [exec_autoAnswer (notices := []) (tail := []) running inbox (by simp) (by simp)]
    rfl
  · rw [exec_autoAnswer (notices := []) (tail := []) running inbox (by simp) (by simp)]
    rfl
  · have silent : ∀ n ∈ notices, n.isAnswer = false := fun n mem => by
      obtain rfl | rfl | rfl := heard n mem <;> rfl
    have next : ∀ n ∈ tail.head?, n.isAnswer = true := fun n mem => by
      obtain rfl | ⟨_, _, rfl⟩ := waits n mem <;> rfl
    intro hears t
    have same : (fun saved (n : MonNotice) => n.heardOn s.mon.last saved) = hears := by
      funext saved n
      cases n <;> rfl
    rw [exec_autoAnswer running inbox silent next, same]
    rfl

end Sys2Proof.Machine
end

section
/-! SNAPSHOT (R146, R147). -/

namespace Sys2Proof.Machine

variable {s t u : State} {k : Nat}

/-! ### What the wake or idle reset leaves as it is -/

theorem State.touch_slot (s : State) (j : Nat) :
    ∃ a b, s.touch.slots.slot j = { s.slots.slot j with freezeA := a, freezeB := b } := by
  unfold State.touch State.wakeActive
  split
  · rw [State.requestStatus_slots, State.unholdAll_slot, State.raise_slots, State.onMon_slots]
    exact ⟨_, _, rfl⟩
  · exact ⟨_, _, rfl⟩

theorem State.touch_mon_last (s : State) : s.touch.mon.last = s.mon.last ∧ s.touch.mon.inbox = s.mon.inbox := by
  unfold State.touch
  split <;> simp

theorem State.touch_viewOfA (s : State) : s.touch.viewOfA = s.viewOfA := by
  obtain ⟨src, out⟩ := s.touch_out .a
  have outA : s.touch.outA = { s.outA with source := src } := out
  simp [State.viewOfA, outA]

theorem State.touch_buildRequest (k : Nat) (auto keep : Bool) (s : State) :
    s.touch.buildRequest k auto keep = s.buildRequest k auto keep := by
  obtain ⟨a, b, slot⟩ := s.touch_slot k
  simp [State.buildRequest, slot, State.touch_viewOfA]

theorem State.touch_snapshotSlot (source : BitVec 8) (s : State) :
    s.touch.snapshotSlot source = s.snapshotSlot source := by
  have latched (x : OutId) : (s.touch.out x).latchedSlot = (s.out x).latchedSlot := by
    simp only [Engine.latchedSlot, State.touch_out_latch]
  simp only [State.snapshotSlot, SlotTable.newest, s.touch_recordsTo.ready, Engine.shownSlot]
  rw [← State.out_a, ← State.out_b, latched, latched]
  rfl

theorem State.snapshotSlot_eq (source : BitVec 8) (s : State) : s.snapshotSlot source =
    if source = 0 then s.slots.ready.getLast?
    else (match (if source = 1 then s.outA.latch else s.outB.latch).map Latch.what with
      | some (.slot k) => some k
      | _ => none) := by
  have shown (e : Engine) : e.shownSlot = (match e.latch.map Latch.what with
      | some (.slot k) => some k
      | _ => none) := by
    unfold Engine.shownSlot Engine.latchedSlot
    cases e.latch with
    | none => rfl
    | some l => cases what : l.what <;> simp [what]
  unfold State.snapshotSlot
  split
  · rfl
  · rw [shown, shown]
    split <;> rfl

/-! ### The request -/

theorem State.buildRequest_eq (k : Nat) (auto keep : Bool) (s : State) : s.buildRequest k auto keep =
    ⟨k, (s.slots.slot k).frame, (s.slots.slot k).kind, (s.slots.slot k).width, (s.slots.slot k).height, auto, keep,
      s.store.lesson.getD 0, if s.store.lesson = none then 0
        else if s.store.lesson = none then s.store.page else if s.store.page = 65535 then 1 else s.store.page + 1,
      s.viewOfA⟩ := by
  cases lesson : s.store.lesson <;> simp [State.buildRequest, lesson, Store.nextPage]

theorem State.requestTaken_eq (r : Request) (s : State) : s.requestTaken r = { s with
    store := { s.store with
      page := if s.store.lesson = none then s.store.page else if s.store.page = 65535 then 1 else s.store.page + 1
      queue := s.store.queue ++ [r] }
    slots := s.slots.takeCopy r.slot, recs := s.recs.request .status } := by
  cases lesson : s.store.lesson <;>
    simp [State.requestTaken, State.requestStatus, State.request, State.onRecs, State.onSlots, State.onStore, lesson,
      Store.nextPage]

section
variable {source keep : BitVec 8} (running : s.notice.halted = false)
include running

/-- R27: a SNAPSHOT refused. -/
theorem exec_snapshot_of_refused {st : Status}
    (refused : firstRefusal (s.storeGate ++ [(decide (2 < source.toNat ∨ 1 < keep.toNat), .refusedRange),
      ((s.snapshotSlot source).isNone, .refusedNoFrame),
      (decide (Config.snapshotDepth ≤ s.store.queue.length), .refusedFull)]) = some st) :
    exec (.snapshot source keep) s = .next (s.touch.answer (.snapshot source keep) st) := by
  have gate : s.touch.storeGate = s.storeGate := by simp [State.storeGate]
  simp only [exec, execSnapshot, State.unlessHalted_of_not running, gate, State.touch_snapshotSlot, State.touch_store,
    refused]

/-- R146, R147: a SNAPSHOT taken. -/
theorem exec_snapshot_of_taken (opened : s.store.state = .opened) (range : ¬(2 < source.toNat ∨ 1 < keep.toNat))
    (slot : s.snapshotSlot source = some k) (room : s.store.queue.length < 4) : exec (.snapshot source keep) s =
      .next ((if source = 0 then
          (s.touch.takeRequest k false (decide (keep = 1))).tellMonitor (.newestSaved false)
        else s.touch.takeRequest k false (decide (keep = 1))).answer (.snapshot source keep) .done) := by
  have full : decide (Config.snapshotDepth ≤ s.store.queue.length) = false := decide_eq_false room.not_ge
  simp only [exec, execSnapshot, State.unlessHalted_of_not running, State.touch_snapshotSlot, slot,
    (State.storeGate_refuses _ s.touch).2.2 (by rwa [State.touch_store]), firstRefusal, State.touch_store, range, full,
    decide_false, Option.isNone_some, Bool.false_eq_true, if_false, Option.getD_some]

end

/-- Settles O53: the refusals in their order, the request built after the wake or idle reset, and output A's view. -/
theorem snapshotQueuesARequest : Obligations.SnapshotQueuesARequest := by
  refine ⟨fun source keep s running => ?_, fun s => ⟨fun off => ?_, fun on => ?_⟩⟩
  · intro c s' slot bad
    have slot_eq : s.snapshotSlot source = slot := State.snapshotSlot_eq source s
    refine ⟨fun closed => ?_, fun opening => ?_, fun opened isBad => ?_, fun opened ok empty => ?_,
      fun opened ok shown full => ?_, fun k opened ok shown room busy empty => ?_, fun k opened ok shown room idle => ?_⟩
    · exact exec_snapshot_of_refused running ((State.storeGate_refuses _ s).1 closed)
    · exact exec_snapshot_of_refused running ((State.storeGate_refuses _ s).2.1 opening)
    · refine exec_snapshot_of_refused running (((State.storeGate_refuses _ s).2.2 opened).trans ?_)
      rw [firstRefusal, decide_eq_true isBad]
      rfl
    · refine exec_snapshot_of_refused running (((State.storeGate_refuses _ s).2.2 opened).trans ?_)
      rw [firstRefusal, decide_eq_false ok, slot_eq, empty]
      rfl
    · refine exec_snapshot_of_refused running (((State.storeGate_refuses _ s).2.2 opened).trans ?_)
      obtain ⟨k, shown⟩ := Option.ne_none_iff_exists'.1 shown
      have full : Config.snapshotDepth ≤ s.store.queue.length := full
      rw [firstRefusal, decide_eq_false ok, slot_eq, shown, decide_eq_true full]
      rfl
    · rw [exec_snapshot_of_taken running opened ok (slot_eq.trans shown) room,
        State.takeRequest_of_busy (by rwa [State.touch_store]), State.touch_buildRequest, State.requestTaken_eq]
      refine ⟨_, s.buildRequest k false (decide (keep = 1)), rfl, ?_, rfl, rfl, rfl, rfl, rfl, rfl,
        rfl, rfl, ?_, rfl, fun inside => ?_, fun newest sig last => ?_,
        fun other => ?_, State.answer_lastStatus .., fun b hb => ?_⟩
      · rw [State.answer_store, apply_ite State.store, State.tellMonitor_store, ite_self, State.touch_store]
      · rw [State.answer_store, apply_ite State.store, State.tellMonitor_store, ite_self, State.touch_store]
        cases lesson : s.store.lesson <;> simp [State.buildRequest, Store.nextPage, lesson]
      · have outside : k < s.touch.slots.slots.length := by rwa [s.touch_recordsTo.length]
        obtain ⟨a, b, same⟩ := s.touch_slot k
        have copies := SlotTable.copies_takeCopy outside
        rw [same] at copies
        rw [State.answer_slots]
        split
        · rwa [State.tellMonitor_slots]
        · exact copies
      · rw [State.answer_mon, if_pos newest, State.tellMonitor_of_empty (by exact s.touch_mon_last.2.trans empty) rfl]
        simp [Monitor.hear, s.touch_mon_last.1, last]
      · rw [State.answer_mon, if_neg other]
      · cases b with
        | store | slots | mon | recs | ring => simp at hb
        | _ =>
          simp only [Block.same, State.answer_path, State.answer_cap, State.answer_outA, State.answer_outB, State.answer_gov,
            State.answer_notice, State.answer_pending]
          split <;> simp [s']
    · rw [exec_snapshot_of_taken running opened ok (slot_eq.trans shown) room,
        State.takeRequest_of_idle (by rwa [State.touch_store]), State.touch_buildRequest, State.buildRequest_eq,
        State.requestTaken_eq, State.touch_store]
  · simp [State.viewOfA, off]
  · refine ⟨_, if_pos on, rfl, ?_, ?_, rfl⟩
    · cases s.outA.view.cx <;> rfl
    · cases s.outA.view.cy <;> rfl

end Sys2Proof.Machine
end

section
/-! OPEN_STORE (R135 to R137). -/

namespace Sys2Proof.Machine

variable {s t u : State} {c : Instr} {st : Status} {g : StoreGeom}

/-! ### What is requested -/

theorem State.mem_request_of_mem {x : RecWork} (k : Target) (h : x ∈ s.recs.waiting) : x ∈ (s.request k).recs.waiting :=
  RecordWriter.mem_request_of_mem k h

theorem State.mem_requestRecords_of_mem {x : RecWork} : ∀ (l : List Nat) {s : State}, x ∈ s.recs.waiting →
    x ∈ (State.requestRecords l s).recs.waiting
  | [], _, h => h
  | p :: l, s, h => State.mem_requestRecords_of_mem l (s.mem_request_of_mem (.catalog p) h)

theorem State.mem_requestRecords {p : Nat} : ∀ (l : List Nat) (s : State), p ∈ l →
    .record (.catalog p) ∈ (State.requestRecords l s).recs.waiting
  | [], _, h => absurd h List.not_mem_nil
  | q :: l, s, h => by
    rw [State.requestRecords]
    obtain rfl | h := List.mem_cons.1 h
    · exact State.mem_requestRecords_of_mem l (RecordWriter.mem_request (.catalog p) s.recs)
    · exact State.mem_requestRecords l _ h

/-- An answer stands when more is requested after it. -/
theorem State.AnswersNow.requested (h : s.AnswersNow c st u) (ring : t.ring = u.ring)
    (recs : ∀ x ∈ u.recs.waiting, x ∈ t.recs.waiting) : s.AnswersNow c st t := by
  obtain ⟨status, answered⟩ := h
  refine ⟨by rw [ring, status], fun i rec dispatched names => ?_⟩
  obtain ⟨flight, write⟩ := answered i rec dispatched names
  refine ⟨by rw [ring, flight], fun long => ?_⟩
  obtain ⟨d, mem, form⟩ := write long
  exact ⟨d, recs _ mem, form⟩

theorem State.mem_writeNewStore_of_mem {x : RecWork} (h : x ∈ s.recs.waiting) : x ∈ (s.writeNewStore g).recs.waiting :=
  State.mem_requestRecords_of_mem _ (s.mem_request_of_mem .header h)

/-! ### The directive -/

theorem firstRefusal_openStore {refused bad : Bool} (closed : s.store.state = .closed) (notRefused : refused = false) :
    firstRefusal [(refused, .refusedState), (decide (s.store.state = .opening), .refusedBusy), (bad, .refusedRange)] =
      if bad then some .refusedRange else none := by
  simp [firstRefusal, closed, notRefused]

theorem waitLimit_eq (wait : BitVec 8) : clamp 1 255 wait.toNat = max 1 wait.toNat := by
  rw [clamp_eq_max_min (by decide), Nat.min_eq_right (by omega)]

theorem waitLimit_clamped (wait : BitVec 8) : decide (max 1 wait.toNat ≠ wait.toNat) = decide (wait = 0) := by
  refine decide_eq_decide.2 ⟨fun h => BitVec.eq_of_toNat_eq (by simp; omega), ?_⟩
  rintro rfl
  decide

/-- R135: OPEN_STORE's policy and wait limit are stored. -/
def State.storeSet (policy wait : BitVec 8) (s : State) : State :=
  s.onStore fun st => { st with keepAll := decide (policy = 1), waitLimit := max 1 wait.toNat }

theorem exec_openStore_of_fits {policy resume wait : BitVec 8} {e : BitVec 16} {base : BitVec 64} {cg : CapGeom}
    (running : s.notice.halted = false) (closed : s.store.state = .closed) (geom : s.cap.geom = some cg) {bad : Bool}
    (h : s.openRangeBad policy resume ⟨base.toNat, e.toNat, frameSize cg.w cg.h⟩ = bad) :
    exec (.openStore policy resume wait e base) s = .next (
      if bad then s.answer (.openStore policy resume wait e base) .refusedRange
      else if resume = 0 then ((((s.storeSet policy wait).openEmpty ⟨base.toNat, e.toNat, frameSize cg.w cg.h⟩).answer
          (.openStore policy resume wait e base) (if wait = 0 then .adjusted else .done)).writeNewStore
            ⟨base.toNat, e.toNat, frameSize cg.w cg.h⟩)
        else State.storeSet policy wait ((s.accept (.openStore policy resume wait e base)).beginResume
          ⟨base.toNat, e.toNat, frameSize cg.w cg.h⟩ (decide (wait = 0)))) := by
  have size : s.captureFrameSize = frameSize cg.w cg.h := by simp [State.captureFrameSize, geom]
  have status : doneOr (decide (wait = 0)) = if wait = 0 then .adjusted else .done := by simp [doneOr]
  simp only [exec, execOpenStore, State.unlessHalted_of_not running, size, waitLimit_clamped, waitLimit_eq, status,
    firstRefusal_openStore (refused := decide (s.store.state = .opened) || decide (s.store.state = .closed)
      && s.cap.geom.isNone)
      closed (by simp [closed, geom]), h]
  cases bad <;> rfl

/-- Settles O50: the refusals in their order, and the two ways an OPEN_STORE is taken. -/
theorem openStoreOpensOrResumes : Obligations.OpenStoreOpensOrResumes := by
  intro policy resume wait e base s running c limit fits
  refine ⟨fun refused => ?_, fun opening => ?_, fun g closed geom => ⟨fun bad => ?_, fun ok fresh => ?_, fun ok resumes => ?_⟩⟩
  · have first : (decide (s.store.state = .opened) || decide (s.store.state = .closed) && s.cap.geom.isNone) = true := by
      simpa using refused
    simp only [c, exec, execOpenStore, State.unlessHalted_of_not running, firstRefusal, first, if_true]
  · simp [c, exec, execOpenStore, State.unlessHalted_of_not running, firstRefusal, opening]
  · exact exec_openStore_of_fits running closed geom (bad := true)
      (by rw [← Bool.not_eq_false, State.openRangeBad_eq_false_iff]; exact bad)
  · rw [exec_openStore_of_fits running closed geom (State.openRangeBad_eq_false_iff.2 ok),
      if_neg Bool.false_ne_true, if_pos fresh]
    refine ⟨_, rfl, ?_, ?_, fun p inside => ?_, ?_, ?_, fun b hb => ?_⟩
    · rw [State.writeNewStore_store, State.answer_store]
      rfl
    · exact State.mem_requestRecords_of_mem _ (RecordWriter.mem_request ..)
    · exact State.mem_requestRecords _ _ (List.mem_range.2 inside)
    · exact State.mem_writeNewStore_of_mem (State.record_mem_answer _ _ (RecordWriter.mem_request ..))
    · refine State.AnswersNow.requested (State.answersNow_answer ?_ _ _) (State.writeNewStore_ring ..)
        fun x mem => State.mem_writeNewStore_of_mem mem
      rw [State.openEmpty_ring]
      rfl
    · cases b with
      | store | recs | ring => simp at hb
      | _ => simp [Block.same, State.storeSet]
  · rw [exec_openStore_of_fits running closed geom (State.openRangeBad_eq_false_iff.2 ok), if_neg Bool.false_ne_true,
      if_neg (by rw [resumes]; decide)]
    have resume : (State.beginResume ⟨base.toNat, e.toNat, frameSize g.w g.h⟩ (decide (wait = 0)) (s.accept c)).store.resume
        = some ⟨[], decide (wait = 0), s.store.keepAll, s.store.waitLimit⟩ := by
      simp [State.beginResume, State.raiseResume]
    refine ⟨_, rfl, rfl, rfl, rfl, rfl, resume, ?_, State.accepts_accept ?_, fun b hb => ?_⟩
    · exact List.mem_append_right _ (List.mem_singleton_self _)
    · rw [State.storeSet, State.onStore_ring, State.beginResume_ring]
    · cases b with
      | store | recs | ring => simp at hb
      | _ => simp [Block.same, State.storeSet]

end Sys2Proof.Machine
end

section
/-! A resume read returns (R137, R138). -/

namespace Sys2Proof.Machine

variable {s t u : State} {st : Status} {g : StoreGeom} {re : Resume} {got : List Byte}

/-! ### The response -/

/-- The resume read at `a` is out of flight. -/
def State.resumeTaken (a n : Nat) (s : State) : State :=
  s.onRecs fun w => { w with flight := w.flight.erase (.resume a n) }

section
variable {a n : Nat} {data : List Byte} (running : s.notice.halted = false) (read : s.recs.resumeInFlight = some (a, n))
  (resume : s.store.resume = some re) (geom : s.store.geom = some g)
include running read resume geom

theorem exec_resumeRead_error : exec (.resumeReadResponse .error data) s =
    .next (((s.resumeTaken a n).logFault .catalogRead .store a s.cap.frameNo .none).resumeClosed .refusedState) := by
  simp [exec, execResumeReadResponse, read, State.unlessHalted_of_not running, State.resumeReturned, resume, geom,
    State.resumeTaken]

theorem exec_resumeRead_okay (whole : data.length = n) : exec (.resumeReadResponse .okay data) s = .next (
    if re.got = [] ∧ headerMatches g (re.got ++ data) = false then (s.resumeTaken a n).resumeClosed .refusedFormat
    else if (re.got ++ data).length < resumeTotal g.e then
      ((s.resumeTaken a n).onStore fun st => { st with resume := some { re with got := re.got ++ data } }).raiseResume g
        (re.got ++ data).length
    else (s.resumeTaken a n).resumeOpened g (re.got ++ data) re.clamped) := by
  simp [exec, execResumeReadResponse, read, State.unlessHalted_of_not running, State.resumeReturned, resume, geom,
    State.resumeTaken, whole]

end

/-! ### A resume that ends CLOSED -/

theorem State.resumeClosed_store (resume : s.store.resume = some re) (st : Status) : (s.resumeClosed st).store =
    { s.store with state := .closed, geom := none, catalog := [], order := [], resume := none
                   keepAll := re.keepAll, waitLimit := re.waitLimit } := by
  simp [State.resumeClosed, resume]

theorem headerMatches_iff : headerMatches g got = true ↔
    fieldAt got 0 4 = 0x20405354 ∧ fieldAt got 4 2 = g.e ∧ fieldAt got 8 4 = g.entrySize := by
  have marker : decide (fieldAt got 0x00 4 = Config.storeMarker) = true ↔ fieldAt got 0 4 = 0x20405354 := decide_eq_true_iff
  simp [headerMatches, marker, and_assoc]

/-! ### The records rebuilt -/

/-- R138 corrections 1 and 2: the record read at position `p` says it is SAVED there, with a sequence. -/
theorem keepsSaved_iff {b : List Byte} {p : Nat} :
    keepsSaved b p = true ↔ fieldAt b 2 1 = 2 ∧ fieldAt b 0 2 = p ∧ fieldAt b 4 4 ≠ 0 := by
  simp [keepsSaved, and_assoc]

theorem survives_iff {bytes : List Byte} {p : Nat} : survives bytes p = true ↔ keepsSaved (recordBytes bytes p) p = true
    ∧ ∀ q, q < p → keepsSaved (recordBytes bytes q) q = true →
      fieldAt (recordBytes bytes q) 4 4 ≠ fieldAt (recordBytes bytes p) 4 4 := by
  simp [survives, duplicated]

theorem byteAt_getLsbD {b : List Byte} {off i : Nat} (small : i < 8) :
    (byteAt b off).getLsbD i = decide (fieldAt b off 1 / 2 ^ i % 2 = 1) := by
  rw [byteAt, BitVec.getLsbD_ofNat, Nat.testBit_eq_decide_div_mod_eq]
  simp [small]

/-- R190: the fields of a record read back. -/
theorem savedFrom_fields (b : List Byte) :
    let flag := fun (i : Nat) => decide (fieldAt b 3 1 / 2 ^ i % 2 = 1)
    savedFrom b = ⟨.saved, fieldAt b 4 4, fieldAt b 12 2, fieldAt b 14 2, BitVec.ofNat 32 (fieldAt b 8 4), flag 1,
      if fieldAt b 16 1 = 0 then .enhanced else if fieldAt b 16 1 = 1 then .plain else .degraded, fieldAt b 0x12 2,
      fieldAt b 0x14 2, flag 0, if flag 2 then some ⟨max 256 (min 2048 (fieldAt b 22 2)), fieldAt b 24 2, fieldAt b 26 2,
        flag 3⟩ else none, false, false, false, false⟩ := by
  simp only [savedFrom, byteAt_getLsbD (by decide : 0 < 8), byteAt_getLsbD (by decide : 1 < 8),
    byteAt_getLsbD (by decide : 2 < 8), byteAt_getLsbD (by decide : 3 < 8), kindOfCode,
    clamp_eq_max_min (by decide : 256 ≤ 2048)]

/-- R138: the next sequence is one more than the highest. -/
theorem nextSeqOf_of_highest {cat : List Rec} {p : Nat} (highest : ∀ q, seqAt cat q ≤ seqAt cat p) :
    nextSeqOf cat = seqAfter (seqAt cat p) := by
  have attained : (cat.map (·.seq)).foldl max 0 = seqAt cat p := by
    refine Nat.le_antisymm ?_ (seqAt_le_max cat p)
    obtain zero | ⟨n, mem, here⟩ := foldl_max_attained id (cat.map (·.seq)) 0
    · exact zero.trans_le (Nat.zero_le _)
    · obtain ⟨r, inside, rfl⟩ := List.mem_map.1 mem
      obtain ⟨q, found⟩ := List.getElem?_of_mem inside
      have seq : seqAt cat q = r.seq := by simp [seqAt, List.getD_eq_getElem?_getD, found]
      exact here.trans_le (seq ▸ highest q)
  rw [nextSeqOf, attained]

/-! ### A resume that ends OPEN -/

theorem State.resumeOpened_store (g : StoreGeom) (bytes : List Byte) (clamped : Bool) (s : State) :
    (s.resumeOpened g bytes clamped).store = { s.store with
      state := .opened, catalog := rebuiltCatalog g.e bytes, order := orderOf (rebuiltCatalog g.e bytes)
      nextSeq := nextSeqOf (rebuiltCatalog g.e bytes), nextLesson := max 1 (fieldAt bytes 12 2)
      lesson := none, page := 0, resume := none } := by
  have lesson : (if fieldAt bytes 0x0C 2 = 0 then 1 else fieldAt bytes 0x0C 2) = max 1 (fieldAt bytes 12 2) := by
    split <;> omega
  simp [State.resumeOpened, lesson]

theorem State.resumeOpened_recAt (g : StoreGeom) (bytes : List Byte) (clamped : Bool) (s : State) (p : Nat) :
    (s.resumeOpened g bytes clamped).store.recAt p =
      if p < g.e ∧ survives bytes p = true then savedFrom (recordBytes bytes p) else Rec.blank := by
  rw [Store.recAt, State.resumeOpened_store, rebuiltCatalog_getD]

theorem State.resumeOpened_saved {clamped : Bool} {p : Nat} :
    ((s.resumeOpened g got clamped).store.recAt p).state = .saved ↔ p < g.e ∧ survives got p = true := by
  rw [State.resumeOpened_recAt]
  split
  next both => simp [both, savedFrom]
  next other => simp [Rec.blank, other]

theorem State.seqAt_resumeOpened (g : StoreGeom) (bytes : List Byte) (clamped : Bool) (s : State) (p : Nat) :
    seqAt (rebuiltCatalog g.e bytes) p = ((s.resumeOpened g bytes clamped).store.recAt p).seq := by
  rw [Store.recAt, State.resumeOpened_store]
  rfl

/-- A record that is not SAVED has sequence 0. -/
theorem State.resumeOpened_seq_of_other {clamped : Bool} {p : Nat}
    (other : ((s.resumeOpened g got clamped).store.recAt p).state ≠ .saved) :
    (s.resumeOpened g got clamped).store.recAt p = Rec.blank := by
  rw [State.resumeOpened_recAt, if_neg fun both => other (State.resumeOpened_saved.2 both)]

theorem State.resumeOpened_of_saved {clamped : Bool} {p : Nat}
    (saved : ((s.resumeOpened g got clamped).store.recAt p).state = .saved) :
    (s.resumeOpened g got clamped).store.recAt p = savedFrom (recordBytes got p) := by
  rw [State.resumeOpened_recAt, if_pos (State.resumeOpened_saved.1 saved)]

/-- Settles O51: the response by its equations; the catalog rebuilt record by record, in the order of `orderOf`. -/
theorem resumeReadRebuildsTheCatalog : Obligations.ResumeReadRebuildsTheCatalog := by
  intro a n data re g s running read resume geom got header rec? flag good
  refine ⟨⟨_, exec_resumeRead_error running read resume geom, ?_⟩, fun whole first bad => ?_, fun whole ok short => ?_,
    fun whole ok complete => ?_⟩
  · refine ⟨?_, ?_, ?_, ?_, ?_, fun b hb => ?_⟩
    · rw [State.resumeClosed_store (by simpa [State.resumeTaken] using resume)]
      simp [State.resumeTaken]
    · simp [State.resumeClosed, State.resumeTaken]
    · simp [State.resumeClosed]
    · exact State.mem_answerAccepted_of_mem _ _ (State.mem_request_of_mem _ (State.fault_mem_logFault ..)) fun _ => rfl
    · refine State.answersLater_answerAccepted ?_ _ _
      simp [State.resumeTaken]
    · cases b with
      | store | notice | recs | ring => simp at hb
      | _ => simp [Block.same, State.resumeClosed, State.resumeTaken]
  · have mismatch : headerMatches g got = false := by
      rw [← Bool.not_eq_true, headerMatches_iff]
      exact bad
    rw [exec_resumeRead_okay running read resume geom whole, if_pos ⟨first, mismatch⟩]
    refine ⟨_, rfl, ?_, ?_, fun b hb => ?_⟩
    · rw [State.resumeClosed_store (by simpa [State.resumeTaken] using resume)]
      simp [State.resumeTaken]
    · refine State.answersLater_answerAccepted ?_ _ _
      simp [State.resumeTaken]
    · cases b with
      | store | recs | ring => simp at hb
      | _ => simp [Block.same, State.resumeClosed, State.resumeTaken]
  · rw [exec_resumeRead_okay running read resume geom whole, if_neg, if_pos (by exact short)]
    · refine ⟨_, rfl, rfl, List.mem_append_right _ (List.mem_singleton_self _), fun b hb => ?_⟩
      cases b with
      | store | recs => simp at hb
      | _ => rfl
    · rintro ⟨first, mismatch⟩
      exact Bool.false_ne_true (mismatch.symm.trans (headerMatches_iff.2 (ok first)))
  · rw [exec_resumeRead_okay running read resume geom whole, if_neg, if_neg (by exact complete.not_gt)]
    · have store := State.resumeOpened_store g got re.clamped (s.resumeTaken a n)
      have seq := State.seqAt_resumeOpened g got re.clamped (s.resumeTaken a n)
      refine ⟨_, rfl, by rw [store], by rw [store], by rw [store], by rw [store], by rw [store],
        by rw [store, length_rebuiltCatalog], fun p inside => ?_, fun p inside saved => ?_,
        fun p inside other => State.resumeOpened_seq_of_other other, by rw [store]; exact nodup_orderOf _, fun p => ?_, ?_,
        fun none => ?_, fun p inside saved highest => ?_, fun p inside other notFree => ?_, ?_, by rw [store]; exact geom,
        by rw [store]; rfl, by rw [store]; rfl, by rw [store]; rfl, by rw [store]; rfl, ?_, fun b hb => ?_⟩
      · rw [State.resumeOpened_saved, survives_iff, keepsSaved_iff]
        simp only [keepsSaved_iff, inside, true_and]
        rfl
      · rw [State.resumeOpened_of_saved saved, savedFrom_fields]
        exact ⟨rfl, rfl, rfl, rfl, rfl, rfl, rfl, rfl, rfl, rfl, rfl⟩
      · rw [State.resumeOpened_saved, store, mem_orderOf, length_rebuiltCatalog, rebuiltCatalog_saved]
      · rw [store]
        exact List.pairwise_map.2 (orderOf_sorted (rebuiltCatalog_apart g.e got))
      · have zero (q : Nat) : seqAt (rebuiltCatalog g.e got) q = 0 := by
          rw [seq q, State.resumeOpened_seq_of_other fun saved => ?_]
          · rfl
          · exact none q (State.resumeOpened_saved.1 saved).1 saved
        rw [store]
        exact (nextSeqOf_of_highest (p := 0) fun q => by rw [zero q]; exact Nat.zero_le _).trans (by rw [zero 0]; rfl)
      · rw [← seq p, store]
        refine nextSeqOf_of_highest fun q => ?_
        rw [seq q, seq p]
        by_cases other : ((State.resumeOpened g got re.clamped (s.resumeTaken a n)).store.recAt q).state = .saved
        · exact highest q (State.resumeOpened_saved.1 other).1 other
        · rw [State.resumeOpened_seq_of_other other]
          exact Nat.zero_le _
      · refine State.record_mem_answerAccepted _ _ (State.mem_requestRecords _ _ (List.mem_filter.2
          ⟨List.mem_range.2 inside, ?_⟩))
        have dead : survives got p = false := by
          rw [← Bool.not_eq_true]
          exact fun lives => other (State.resumeOpened_saved.2 ⟨inside, lives⟩)
        have corrected : readsFree (recordBytes got p) p = false := by
          rw [← Bool.not_eq_true, readsFree, Bool.and_eq_true, decide_eq_true_eq, decide_eq_true_eq]
          exact notFree
        rw [dead, corrected]
        rfl
      · exact State.record_mem_answerAccepted _ _ (State.mem_requestRecords_of_mem _ (RecordWriter.mem_request ..))
      · refine State.answersLater_answerAccepted ?_ _ _
        simp [State.resumeTaken]
      · cases b with
        | store | recs | ring => simp at hb
        | _ => simp [Block.same, State.resumeOpened, State.resumeTaken]
    · rintro ⟨first, mismatch⟩
      exact Bool.false_ne_true (mismatch.symm.trans (headerMatches_iff.2 (ok first)))

end Sys2Proof.Machine
end

section
/-! The score of two signatures and what an evaluated frame does in each monitor state (R85 to R95, R101). -/

namespace Sys2Proof.Machine

variable {s t u : State} {x : OutId} {sig : Signature}

/-! ### The score -/

/-- R86: the tiles whose means differ by more than the threshold. -/
theorem score_eq (delta : Nat) {a b : List Nat} {n : Nat} (la : a.length = n) (lb : b.length = n) : score delta a b =
    ((List.range n).filter fun i => decide ((delta : Int) < |(a.getD i 0 : Int) - (b.getD i 0 : Int)|)).length := by
  have zipped : a.zip b = (List.range n).map fun i => (a.getD i 0, b.getD i 0) := by
    refine List.ext_getElem (by simp [la, lb]) fun i hi _ => ?_
    simp only [List.length_zip, la, lb, Nat.min_self] at hi
    simp [List.getD_eq_getElem?_getD, la, lb, hi]
  rw [score, zipped, List.filter_map, List.length_map]
  congr 2
  funext i
  simp only [Function.comp_apply]
  refine decide_eq_decide.2 ?_
  rw [lt_abs]
  omega

theorem score_le (delta : Nat) {a b : List Nat} {n : Nat} (la : a.length = n) (lb : b.length = n) :
    score delta a b ≤ n := by
  rw [score_eq delta la lb]
  exact (List.length_filter_le _ _).trans_eq List.length_range

theorem score_comm (delta : Nat) {a b : List Nat} {n : Nat} (la : a.length = n) (lb : b.length = n) :
    score delta b a = score delta a b := by
  rw [score_eq delta la lb, score_eq delta lb la]
  simp only [abs_sub_comm]

theorem score_self (delta : Nat) (a : List Nat) : score delta a a = 0 := by
  rw [score_eq delta rfl rfl]
  simp

/-! ### The signature record -/

/-- What the signature record says of the monitor. -/
def Monitor.signatureView (m : Monitor) : Count × Nat × MonState × Nat × Nat :=
  (m.compares, m.lastScore, m.state, m.stable, m.idle)

theorem signatureRecord_of_view {m m' : Monitor} (same : m'.signatureView = m.signatureView) (sig : Signature) (a : Against) :
    signatureRecord m' sig a = signatureRecord m sig a := by
  simp only [Monitor.signatureView, Prod.mk.injEq] at same
  obtain ⟨compares, score, state, stable, idle⟩ := same
  simp only [signatureRecord, compares, score, state, stable, idle]

/-- The signature record waits to be written with what it says now. -/
def State.SignatureWritten (sig : Signature) (a : Against) (s : State) : Prop :=
  .given .signature (signatureRecord s.mon sig a) ∈ s.recs.waiting

namespace State.SignatureWritten

variable {a : Against}

theorem writeSignature (sig : Signature) (a : Against) (s : State) : (s.writeSignature sig a).SignatureWritten sig a :=
  RecordWriter.mem_give ..

theorem of_mem (h : s.SignatureWritten sig a) (view : t.mon.signatureView = s.mon.signatureView)
    (recs : ∀ d, .given .signature d ∈ s.recs.waiting → .given .signature d ∈ t.recs.waiting) :
    t.SignatureWritten sig a := by
  rw [State.SignatureWritten, signatureRecord_of_view view]
  exact recs _ h

theorem raise (k : EventKind) (h : s.SignatureWritten sig a) : (s.raise k).SignatureWritten sig a :=
  h.of_mem (by rw [State.raise_mon]) fun _ => State.mem_raise_of_mem k

theorem requestStatus (h : s.SignatureWritten sig a) : s.requestStatus.SignatureWritten sig a :=
  h.of_mem rfl fun _ => State.mem_request_of_mem .status

theorem requestAuto (h : s.SignatureWritten sig a) : (s.requestAuto sig).SignatureWritten sig a :=
  h.of_mem rfl fun _ => id

end State.SignatureWritten

/-! ### A settling page -/

/-- R89: the auto test with no AUTO setting or no open lesson. -/
theorem State.autoTest_of_off (h : s.mon.settings.auto = false ∨ s.store.lesson = none) : s.autoTest sig = s := by
  obtain h | h := h <;> simp [State.autoTest, h]

/-- R89: the auto test of the first page of a lesson. -/
theorem State.autoTest_of_first (auto : s.mon.settings.auto = true) (lesson : s.store.lesson ≠ none)
    (first : s.mon.saved = none) : s.autoTest sig = s.requestAuto sig := by
  simp [State.autoTest, auto, Option.isSome_iff_ne_none.2 lesson, first]

/-- R89: the auto test against the saved signature. -/
theorem State.autoTest_of_saved {saved : List Nat} (auto : s.mon.settings.auto = true) (lesson : s.store.lesson ≠ none)
    (before : s.mon.saved = some saved) : s.autoTest sig =
      if s.mon.settings.k ≤ score s.mon.settings.delta sig.means saved then
        ((s.onMon (·.tookScore (score s.mon.settings.delta sig.means saved))).writeSignature sig .saved).requestAuto sig
      else (s.onMon (·.tookScore (score s.mon.settings.delta sig.means saved))).writeSignature sig .saved := by
  simp [State.autoTest, auto, Option.isSome_iff_ne_none.2 lesson, before]

/-- R88: the monitor as the page settles, before the auto test. -/
def Monitor.settled (sig : Signature) (sc stable : Nat) (m : Monitor) : Monitor :=
  { m with
    last := some sig, lastScore := sc, compares := m.compares + 1, stable := stable, previous := some sig.means
    reference := some sig.means, state := .active, idle := 0 }

/-- R88: the part as the page settles, before the auto test. -/
def State.settles (sig : Signature) (sc stable : Nat) (s : State) : State :=
  ((s.onMon (.settled sig sc stable)).writeSignature sig .previous).raise .pageSettled

end Sys2Proof.Machine
end

section
/-! What an evaluated frame does in MOTION, ACTIVE and STANDBY (R88, R91 to R95). -/

namespace Sys2Proof.Machine

variable {s t u : State} {x : OutId} {sig : Signature}

/-! ### The auto test -/

theorem State.autoTest_cases (sig : Signature) (s : State) :
    ((s.mon.settings.auto = false ∨ s.store.lesson = none) ∧ s.autoTest sig = s)
    ∨ (s.mon.settings.auto = true ∧ s.store.lesson ≠ none ∧ s.mon.saved = none ∧ s.autoTest sig = s.requestAuto sig)
    ∨ ∃ saved, s.mon.settings.auto = true ∧ s.store.lesson ≠ none ∧ s.mon.saved = some saved ∧ s.autoTest sig =
      if s.mon.settings.k ≤ score s.mon.settings.delta sig.means saved then
        ((s.onMon (·.tookScore (score s.mon.settings.delta sig.means saved))).writeSignature sig .saved).requestAuto sig
      else (s.onMon (·.tookScore (score s.mon.settings.delta sig.means saved))).writeSignature sig .saved := by
  by_cases off : s.mon.settings.auto = false ∨ s.store.lesson = none
  · exact .inl ⟨off, State.autoTest_of_off off⟩
  · obtain ⟨auto, lesson⟩ := not_or.1 off
    rw [Bool.not_eq_false] at auto
    cases before : s.mon.saved with
    | none => exact .inr (.inl ⟨auto, lesson, rfl, State.autoTest_of_first auto lesson before⟩)
    | some saved => exact .inr (.inr ⟨saved, auto, lesson, rfl, State.autoTest_of_saved auto lesson before⟩)

/-- R89: of the monitor the auto test touches the last score, the compare count and the requests alone. -/
theorem State.autoTest_mon (sig : Signature) (s : State) : ∃ sc n l, (s.autoTest sig).mon =
    { s.mon with lastScore := sc, compares := n, autoRequests := l } := by
  obtain ⟨_, eq⟩ | ⟨_, _, _, eq⟩ | ⟨saved, _, _, _, eq⟩ := s.autoTest_cases sig <;> rw [eq]
  · exact ⟨_, _, _, rfl⟩
  · exact ⟨_, _, _, rfl⟩
  · split <;> exact ⟨_, _, _, rfl⟩

theorem State.autoTest_autoRequests (sig : Signature) (s : State) : (s.autoTest sig).mon.autoRequests =
    if s.mon.settings.auto = true ∧ s.store.lesson ≠ none
      ∧ (∀ saved, s.mon.saved = some saved → s.mon.settings.k ≤ score s.mon.settings.delta sig.means saved)
    then s.mon.autoRequests ++ [⟨sig.means, false⟩] else s.mon.autoRequests := by
  obtain ⟨off, eq⟩ | ⟨auto, lesson, first, eq⟩ | ⟨saved, auto, lesson, before, eq⟩ := s.autoTest_cases sig <;> rw [eq]
  · obtain off | off := off <;> simp [off]
  · simp [auto, lesson, first, State.requestAuto]
  · simp only [auto, lesson, before, ne_eq, not_false_eq_true, true_and, Option.some.injEq, forall_eq']
    split <;> rfl

/-- R89, R101: the score the auto test takes, with its signature record. -/
theorem State.autoTest_scored {saved : List Nat} (auto : s.mon.settings.auto = true) (lesson : s.store.lesson ≠ none)
    (before : s.mon.saved = some saved) :
    (s.autoTest sig).mon.lastScore = score s.mon.settings.delta sig.means saved
      ∧ (s.autoTest sig).mon.compares = s.mon.compares + 1 ∧ (s.autoTest sig).SignatureWritten sig .saved := by
  have written := SignatureWritten.writeSignature sig .saved
    (s.onMon (·.tookScore (score s.mon.settings.delta sig.means saved)))
  rw [State.autoTest_of_saved auto lesson before]
  split
  · exact ⟨rfl, rfl, written.requestAuto⟩
  · exact ⟨rfl, rfl, written⟩

/-- R89: without a score of its own the auto test leaves the settling score and its record. -/
theorem State.autoTest_unscored {a : Against} (h : s.mon.settings.auto = false ∨ s.store.lesson = none ∨ s.mon.saved = none)
    (written : s.SignatureWritten sig a) : (s.autoTest sig).mon.lastScore = s.mon.lastScore
      ∧ (s.autoTest sig).mon.compares = s.mon.compares ∧ (s.autoTest sig).SignatureWritten sig a := by
  obtain ⟨_, eq⟩ | ⟨_, _, _, eq⟩ | ⟨saved, auto, lesson, before, _⟩ := s.autoTest_cases sig
  · rw [eq]
    exact ⟨rfl, rfl, written⟩
  · rw [eq]
    exact ⟨rfl, rfl, written.requestAuto⟩
  · simp [auto, lesson, before] at h

/-! ### MOTION -/

theorem State.receiveSignature_first (motion : s.mon.state = .motion) (first : s.mon.previous = none) :
    s.receiveSignature sig = s.onMon fun m => { m with last := some sig, previous := some sig.means } := by
  simp [State.receiveSignature, motion, State.motionFrame, first, State.onMon]

theorem State.receiveSignature_motion {old : List Nat} (motion : s.mon.state = .motion) (before : s.mon.previous = some old)
    {sc stable : Nat} (hsc : score s.mon.settings.delta sig.means old = sc)
    (hstable : (if sc < s.mon.settings.k then s.mon.stable + 1 else 0) = stable) : s.receiveSignature sig =
      if s.mon.settings.hold ≤ stable then ((s.settles sig sc stable).autoTest sig).requestStatus
      else (s.onMon fun m => { m with
        last := some sig, previous := some sig.means, stable := stable, lastScore := sc
        compares := m.compares + 1 }).writeSignature sig .previous := by
  subst hstable hsc
  simp only [State.receiveSignature, motion, State.motionFrame, State.onMon_mon, before, State.settles]
  rfl

/-! ### ACTIVE -/

/-- R91: the monitor after a score in ACTIVE. -/
def Monitor.compared (sig : Signature) (sc idle : Nat) (m : Monitor) : Monitor :=
  { m with last := some sig, lastScore := sc, compares := m.compares + 1, idle := idle }

theorem State.receiveSignature_active {ref : List Nat} (active : s.mon.state = .active) (reference : s.mon.reference = some ref)
    {sc : Nat} (hsc : score s.mon.settings.delta sig.means ref = sc) : s.receiveSignature sig =
      if s.mon.settings.k ≤ sc then
        (((s.onMon fun m => { m with
          last := some sig, lastScore := sc, compares := m.compares + 1, state := .motion, stable := 0
          previous := some sig.means }).writeSignature sig .reference).raise .pageMotion).requestStatus
      else if s.mon.settings.idle ≠ 0 ∧ s.mon.settings.standby = true
          ∧ s.mon.settings.idle ≤ min (s.mon.idle + 1) 65535 then
        (s.onMon (.compared sig sc (min (s.mon.idle + 1) 65535))).enterStandby.writeSignature sig .reference
      else (s.onMon (.compared sig sc (min (s.mon.idle + 1) 65535))).writeSignature sig .reference := by
  subst hsc
  simp only [State.receiveSignature, active, State.activeFrame, State.onMon_mon, reference]
  rfl

/-! ### STANDBY -/

theorem State.receiveSignature_unscanned (standby : s.mon.state = .standby) (early : s.mon.scan + 1 < s.mon.settings.scan) :
    s.receiveSignature sig = s.onMon fun m => { m with last := some sig, scan := m.scan + 1 } := by
  simp [State.receiveSignature, standby, State.standbyFrame, early.not_ge, State.onMon]

/-- R94: the monitor after a score in STANDBY. -/
def Monitor.scanned (sig : Signature) (sc presence : Nat) (m : Monitor) : Monitor :=
  { m with last := some sig, lastScore := sc, compares := m.compares + 1, scan := 0, presence := presence }

theorem State.receiveSignature_standby {ref : List Nat} (standby : s.mon.state = .standby)
    (due : s.mon.settings.scan ≤ s.mon.scan + 1) (reference : s.mon.reference = some ref)
    {sc : Nat} (hsc : score s.mon.settings.delta sig.means ref = sc) : s.receiveSignature sig =
      if s.mon.settings.k ≤ sc then
        ((s.onMon (.scanned sig sc s.mon.presence)).wakeMotion sig).writeSignature sig .reference
      else if s.mon.settings.presence ≠ 0 ∧ s.mon.settings.presence ≤ min (s.mon.presence + 1) 65535 then
        ((s.onMon (.scanned sig sc 0)).raise .presence).writeSignature sig .reference
      else (s.onMon (.scanned sig sc (min (s.mon.presence + 1) 65535))).writeSignature sig .reference := by
  subst hsc
  simp only [State.receiveSignature, standby, State.standbyFrame, State.onMon_mon, due, if_true, reference]
  rfl

end Sys2Proof.Machine
end

section
/-! Evaluated frames move the monitor (R85 to R95): the standby hold, the wake, the obligation. -/

namespace Sys2Proof.Machine

variable {s t u : State} {x : OutId} {sig : Signature}

/-! ### The standby hold (R93) -/

/-- The source the standby hold gives an output that is LIVE. -/
def Engine.holdSource (e : Engine) : Source :=
  match e.latchedSlot with
  | some k => .held k
  | none => .heldNone

theorem Engine.holdSource_eq (e : Engine) : e.holdSource = (match e.latch.map (·.what) with
    | some (.slot k) => .held k
    | _ => .heldNone) := by
  unfold Engine.holdSource Engine.latchedSlot
  cases e.latch with
  | none => rfl
  | some l => cases what : l.what <;> simp [what]

theorem State.holdOutput_out (x y : OutId) (s : State) : (s.holdOutput x).out y =
    if y = x ∧ (s.out x).source = .live then { s.out y with source := (s.out y).holdSource } else s.out y := by
  unfold State.holdOutput Engine.holdSource
  by_cases same : y = x
  · subst same
    cases src : (s.out y).source with
    | live => cases (s.out y).latchedSlot <;> simp
    | _ => simp
  · rw [if_neg fun h => same h.1]
    split
    · split
      · rw [State.onMon_out, State.onSlots_out, State.onOut_out_ne _ _ _ _ same]
      · rw [State.onMon_out, State.onOut_out_ne _ _ _ _ same]
    · rfl

theorem State.holdOutput_mon (x : OutId) (s : State) :
    (s.holdOutput x).mon = if (s.out x).source = .live then s.mon.setHold x true else s.mon := by
  unfold State.holdOutput
  split
  next live =>
    rw [if_pos live]
    split <;> simp
  next other => rw [if_neg other]

theorem State.enterStandby_out (x : OutId) (s : State) : s.enterStandby.out x =
    if (s.out x).source = .live then { s.out x with source := (s.out x).holdSource } else s.out x := by
  unfold State.enterStandby
  cases x <;> simp only [State.requestStatus_out, State.holdOutput_out, State.raise_out, State.onMon_out, reduceCtorEq,
    false_and, true_and, if_false]

theorem State.enterStandby_mon (s : State) : ∃ a b, s.enterStandby.mon =
    { s.mon with state := .standby, scan := 0, presence := 0, holdA := a, holdB := b } := by
  unfold State.enterStandby
  rw [State.requestStatus_mon, State.holdOutput_mon, State.holdOutput_mon, State.raise_mon, State.onMon_mon]
  split <;> split <;> exact ⟨_, _, rfl⟩

theorem Monitor.onHold_hold (x y : OutId) (p : Prop) [Decidable p] (m : Monitor) :
    (if p then m.setHold x true else m).onHold y = if y = x ∧ p then true else m.onHold y := by
  by_cases h : p <;> simp [h, Monitor.onHold_setHold]

theorem State.enterStandby_onHold (x : OutId) (s : State) : s.enterStandby.mon.onHold x =
    if (s.out x).source = .live then true else s.mon.onHold x := by
  unfold State.enterStandby
  cases x <;> simp only [State.requestStatus_mon, State.holdOutput_mon, Monitor.onHold_hold, State.holdOutput_out,
    State.raise_out, State.onMon_out, State.raise_mon, State.onMon_mon, reduceCtorEq, false_and, true_and, if_false] <;> rfl

/-- R97: the outputs after the wake to MOTION. -/
theorem State.wakeMotion_out (x : OutId) (s : State) : (s.wakeMotion sig).out x =
    if s.mon.onHold x = true ∧ (s.out x).source.isHold = true then { s.out x with source := .live } else s.out x := by
  unfold State.wakeMotion
  rw [State.requestStatus_out, State.unholdAll_out, State.raise_out, State.onMon_out, State.raise_mon, State.onMon_mon]
  cases x <;> rfl

theorem Source.released_eq (src : Source) : (if src.isHold = true then .live else src) = (match src with
    | .held _ => .live
    | .heldNone => .live
    | src => src) := by
  cases src <;> rfl

@[simp] theorem State.writeSignature_out (sig : Signature) (a : Against) (x : OutId) (s : State) :
    (s.writeSignature sig a).out x = s.out x := by cases x <;> rfl

/-- R88, R89: the page settles: the monitor, its auto test and the signature record. -/
theorem State.settled_effect {sc stable : Nat} : let t := ((s.settles sig sc stable).autoTest sig).requestStatus
    t.mon.state = .active ∧ t.mon.idle = 0 ∧ t.mon.reference = some sig.means ∧ t.mon.stable = stable
    ∧ t.mon.previous = some sig.means ∧ t.mon.last = some sig ∧ t.mon.saved = s.mon.saved
    ∧ t.notice.isPending .pageSettled = true
    ∧ t.mon.autoRequests = (if s.mon.settings.auto = true ∧ s.store.lesson ≠ none
        ∧ (∀ saved, s.mon.saved = some saved → s.mon.settings.k ≤ score s.mon.settings.delta sig.means saved)
        then s.mon.autoRequests ++ [⟨sig.means, false⟩] else s.mon.autoRequests)
    ∧ (∀ saved, s.mon.settings.auto = true → s.store.lesson ≠ none → s.mon.saved = some saved →
        t.mon.lastScore = score s.mon.settings.delta sig.means saved ∧ t.mon.compares = s.mon.compares + 1 + 1
        ∧ t.SignatureWritten sig .saved)
    ∧ (s.mon.settings.auto = false ∨ s.store.lesson = none ∨ s.mon.saved = none →
        t.mon.lastScore = sc ∧ t.mon.compares = s.mon.compares + 1 ∧ t.SignatureWritten sig .previous)
    ∧ s.changesOnly [.mon, .notice, .recs] t := by
  intro t
  have mon : (s.settles sig sc stable).mon = s.mon.settled sig sc stable := by simp [State.settles]
  have store : (s.settles sig sc stable).store = s.store := by simp [State.settles, State.writeSignature]
  have written : (s.settles sig sc stable).SignatureWritten sig .previous :=
    (State.SignatureWritten.writeSignature ..).raise _
  obtain ⟨_, _, _, kept⟩ := (s.settles sig sc stable).autoTest_mon sig
  have mon_t : t.mon = ((s.settles sig sc stable).autoTest sig).mon := State.requestStatus_mon ..
  have requests := (s.settles sig sc stable).autoTest_autoRequests sig
  rw [mon, store] at requests
  refine ⟨by rw [mon_t, kept, mon]; rfl, by rw [mon_t, kept, mon]; rfl, by rw [mon_t, kept, mon]; rfl,
    by rw [mon_t, kept, mon]; rfl, by rw [mon_t, kept, mon]; rfl, by rw [mon_t, kept, mon]; rfl,
    by rw [mon_t, kept, mon]; rfl, by simp [t, State.settles], by rw [mon_t, requests]; rfl, fun saved auto lesson before => ?_,
    fun unscored => ?_, fun b hb => ?_⟩
  · obtain ⟨score, compares, signature⟩ := State.autoTest_scored (sig := sig) (s := s.settles sig sc stable)
      (by rw [mon]; exact auto) (by rw [store]; exact lesson) (by rw [mon]; exact before)
    rw [mon_t, score, compares, mon]
    exact ⟨rfl, rfl, signature.requestStatus⟩
  · obtain ⟨score, compares, signature⟩ := State.autoTest_unscored (sig := sig) (s := s.settles sig sc stable)
      (by rw [mon, store]; exact unscored) written
    rw [mon_t, score, compares, mon]
    exact ⟨rfl, rfl, signature.requestStatus⟩
  · cases b with
    | mon | notice | recs => simp at hb
    | _ => simp [Block.same, t, State.settles, State.writeSignature]

/-- Settles O40: the score, then the equation of each monitor state and what it makes of the part. -/
theorem evaluatedFramesAreScoredAndMoveTheMonitor : Obligations.EvaluatedFramesAreScoredAndMoveTheMonitor := by
  refine ⟨fun delta a b la lb => ⟨score_eq delta la lb, score_le delta la lb, score_comm delta la lb, score_self delta a⟩,
    fun sig s => ?_⟩
  refine ⟨fun off => ?_, fun motion first => State.receiveSignature_first motion first, fun old motion before => ?_,
    fun ref active reference => ?_, fun standby early => State.receiveSignature_unscanned standby early,
    fun ref standby due reference => ?_⟩
  · simp [State.receiveSignature, off]
  · refine ⟨fun moves => ?_, fun settles => ?_⟩
    · rw [State.receiveSignature_motion motion before rfl rfl, if_neg moves.not_ge]
      refine ⟨rfl, State.SignatureWritten.writeSignature .., fun b hb => ?_⟩
      cases b with
      | mon | recs => simp at hb
      | _ => rfl
    · rw [State.receiveSignature_motion motion before rfl rfl, if_pos settles]
      exact State.settled_effect
  · refine ⟨fun moved => ?_, fun still stays => ?_, fun still on able due => ?_⟩
    · rw [State.receiveSignature_active active reference rfl, if_pos moved]
      refine ⟨by simp, by simp [State.writeSignature], ((State.SignatureWritten.writeSignature ..).raise _).requestStatus,
        fun b hb => ?_⟩
      cases b with
      | mon | notice | recs => simp at hb
      | _ => simp [Block.same, State.writeSignature]
    · rw [State.receiveSignature_active active reference rfl, if_neg still.not_ge, if_neg]
      · refine ⟨rfl, State.SignatureWritten.writeSignature .., fun b hb => ?_⟩
        cases b with
        | mon | recs => simp at hb
        | _ => rfl
      · rintro ⟨on, able, due⟩
        obtain none | off | early := stays
        · exact on none
        · simp [able] at off
        · exact early.not_ge due
    · rw [State.receiveSignature_active active reference rfl, if_neg still.not_ge, if_pos ⟨on, able, due⟩]
      obtain ⟨a, b, mon⟩ := State.enterStandby_mon (s.onMon (.compared sig (score s.mon.settings.delta sig.means ref)
        (min (s.mon.idle + 1) 65535)))
      have written := State.SignatureWritten.writeSignature sig .reference ((s.onMon (.compared sig
        (score s.mon.settings.delta sig.means ref) (min (s.mon.idle + 1) 65535))).enterStandby)
      have pending : (State.enterStandby (s.onMon (.compared sig (score s.mon.settings.delta sig.means ref)
          (min (s.mon.idle + 1) 65535)))).notice.isPending .standby = true := by
        simp [State.enterStandby]
      refine ⟨by simp [mon], by simp [mon, Monitor.compared], by simp [mon], by simp [mon],
        by simp [mon, Monitor.compared, reference], pending, written, by simp [mon, Monitor.compared],
        by simp [mon, Monitor.compared], fun x live => ?_, fun x other => ?_, fun b hb => ?_⟩
      · rw [State.writeSignature_mon, State.writeSignature_out, State.enterStandby_onHold, State.enterStandby_out,
          State.onMon_out, if_pos live, if_pos live]
        exact ⟨rfl, Engine.holdSource_eq _, rfl⟩
      · rw [State.writeSignature_mon, State.writeSignature_out, State.enterStandby_onHold, State.enterStandby_out,
          State.onMon_out, if_neg other, if_neg other]
        exact ⟨rfl, by cases x <;> rfl⟩
      · cases b with
        | mon | notice | recs | outA | outB | slots => simp at hb
        | _ => simp [Block.same, State.writeSignature]
  · refine ⟨fun moved => ?_, fun still => ⟨fun seen => ?_, fun unseen => ?_⟩⟩
    · rw [State.receiveSignature_standby standby due reference rfl, if_pos moved]
      have written := State.SignatureWritten.writeSignature sig .reference ((s.onMon (.scanned sig
        (score s.mon.settings.delta sig.means ref) s.mon.presence)).wakeMotion sig)
      have onHold (x : OutId) : (s.mon.scanned sig (score s.mon.settings.delta sig.means ref) s.mon.presence).onHold x
          = s.mon.onHold x := by cases x <;> rfl
      refine ⟨by simp, by simp, by simp, by simp, by simp, by simp, by simp, by simp, by simp [State.wakeMotion], written,
        by simp [Monitor.scanned], by simp [Monitor.scanned], fun x held => ?_, fun x free => ?_, fun b hb => ?_⟩
      · rw [State.writeSignature_out, State.wakeMotion_out, State.onMon_out, State.onMon_mon, onHold, held]
        refine .trans ?_ (Source.released_eq _)
        simp only [true_and]
        split <;> rfl
      · rw [State.writeSignature_out, State.wakeMotion_out, State.onMon_out, State.onMon_mon, onHold, free]
        rfl
      · cases b with
        | mon | notice | recs | outA | outB | slots => simp at hb
        | _ => simp [Block.same, State.writeSignature, State.wakeMotion]
    · rw [State.receiveSignature_standby standby due reference rfl, if_neg still.not_ge, if_pos seen]
      refine ⟨by simp [State.writeSignature], by simp [State.writeSignature, Monitor.scanned],
        State.SignatureWritten.writeSignature .., fun b hb => ?_⟩
      cases b with
      | mon | notice | recs => simp at hb
      | _ => simp [Block.same, State.writeSignature]
    · rw [State.receiveSignature_standby standby due reference rfl, if_neg still.not_ge, if_neg]
      · refine ⟨rfl, State.SignatureWritten.writeSignature .., fun b hb => ?_⟩
        cases b with
        | mon | recs => simp at hb
        | _ => rfl
      · rintro ⟨on, due⟩
        obtain none | early := unseen
        · exact on none
        · exact early.not_ge due

end Sys2Proof.Machine
end

section
/-! Samples and observed status reads reach the governor (R10, R11, R165 to R168, R170). -/

namespace Sys2Proof.Machine

variable {s t : State} {before after : TempState} {k : EventKind}

/-! ### What a change of state does (R167) -/

theorem clampSample_eq (t : Int) : clampSample t = max (-40) (min 150 t) := by
  unfold clampSample
  split
  · omega
  · split <;> omega

/-- What an event leaves in the Notice Unit depends on the Notice Unit alone. -/
theorem State.raise_notice_congr (same : t.notice = s.notice) : (t.raise k).notice = (s.raise k).notice := by
  simp only [State.raise, same, apply_ite State.notice, State.request_notice, State.onNotice_notice]

theorem State.thermalChange_of_hotter (hotter : before.rank < after.rank) :
    s.thermalChange before after = ((s.onGov fun g => { g with flag := true }).raise .thermal).requestStatus := by
  have hot : after ≠ .normal := by
    rintro rfl
    exact absurd hotter (Nat.not_lt_zero _)
  simp only [State.thermalChange, if_pos hotter, if_neg hot]

theorem State.thermalChange_of_cooler (cooler : after.rank < before.rank) (hot : after ≠ .normal) :
    s.thermalChange before after = (s.onGov fun g => { g with flag := true }).requestStatus := by
  simp only [State.thermalChange, if_neg cooler.not_gt, if_neg hot]

theorem State.thermalChange_of_normal :
    s.thermalChange before .normal = ((s.raise .thermalClear).copyResume).requestStatus := by
  have cooler : ¬before.rank < TempState.rank .normal := Nat.not_lt_zero _
  simp only [State.thermalChange, if_neg cooler, if_true]

/-- The rank tells the states apart. -/
theorem TempState.rank_inj {a b : TempState} : a.rank = b.rank ↔ a = b := by
  cases a <;> cases b <;> decide

theorem State.record_mem_thermalChange : .record .status ∈ (s.thermalChange before after).recs.waiting := by
  unfold State.thermalChange
  exact RecordWriter.mem_request _ _

theorem State.thermalChange_gov_sample (before after : TempState) (s : State) :
    (s.thermalChange before after).gov.sample = s.gov.sample := by
  unfold State.thermalChange
  repeat' split
  all_goals simp

/-- R170: away from the return to NORMAL the store is as it was. -/
theorem State.thermalChange_store_of_hot (hot : after ≠ .normal) :
    (s.thermalChange before after).store = s.store := by
  simp only [State.thermalChange, if_neg hot, State.requestStatus_store]
  split
  · rw [State.raise_store, State.onGov_store]
  · rw [State.onGov_store]

theorem State.copyResume_of_paused {p : Nat} (paused : s.store.engine.state = .paused p) :
    s.copyResume = s.raiseChunk p := by
  simp only [State.copyResume, paused]

theorem State.copyResume_of_not_paused (other : ∀ p, s.store.engine.state ≠ .paused p) : s.copyResume = s := by
  unfold State.copyResume
  split
  next p paused => exact absurd paused (other p)
  next => rfl

/-- R156, R170: the chunk raised is that of the head request, whose index stands. -/
theorem State.raiseChunk_of_queue {p : Nat} {r : Request} {rest : List Request}
    (queue : s.store.queue = r :: rest) : s.raiseChunk p = s.onStore (·.onEngine fun e =>
      { e with state := .copying p, buffer := [], writing := false, failAddr := none,
               waiting := chunkReads (s.slotAddr r.slot) e.chunk }) := by
  simp only [State.raiseChunk, queue]

/-- The reads of a chunk, piece by piece. -/
theorem chunkReads_eq (base k : Nat) :
    chunkReads base k = (List.range 16).map fun i => ⟨.read, base + k * 4096 + i * 256, [], false⟩ := by
  simp [chunkReads, chunkOffsets, Function.comp_def]

/-! ### The obligation -/

/-- R168: in NORMAL a read of the status record leaves the flag clear. -/
theorem State.statusReadSeen_flag (normal : s.gov.state = .normal) : s.statusReadSeen.gov.flag = false := by
  unfold State.statusReadSeen
  split
  next => simp
  next h => simpa [normal] using h

/-- The reading as the governor takes it, with the state before written as the sampled block has it. -/
theorem State.sampleDie_cases (reading : Int) (s : State) :
    (s.gov.state.after (clampSample reading) = s.gov.state
      ∧ s.sampleDie reading = s.onGov fun g => { g with sample := some (clampSample reading) })
    ∨ (s.gov.state.after (clampSample reading) ≠ s.gov.state
      ∧ s.sampleDie reading = (s.onGov fun g => { g with
          sample := some (clampSample reading), state := s.gov.state.after (clampSample reading) }).thermalChange
            s.gov.state (s.gov.state.after (clampSample reading))) := by
  by_cases stays : s.gov.state.after (clampSample reading) = s.gov.state
  · exact .inl ⟨stays, State.sampleDie_of_after_eq stays⟩
  · exact .inr ⟨stays, State.sampleDie_of_after_ne stays⟩

/-- The first part of O28: what a sample does. -/
theorem State.sampleDie_effect (reading : Int) (s : State) :
    let t := s.sampleDie reading
    let after := s.gov.state.after (clampSample reading)
    t.gov.sample = some (clampSample reading) ∧ t.gov.state = after
    ∧ (after = s.gov.state → t.notice = s.notice ∧ t.recs = s.recs ∧ t.gov.flag = s.gov.flag ∧ t.store = s.store)
    ∧ (s.gov.state.rank < after.rank → t.gov.flag = true ∧ t.notice = (s.raise .thermal).notice)
    ∧ (after.rank < s.gov.state.rank → after ≠ .normal → t.gov.flag = true ∧ t.notice = s.notice)
    ∧ (after = .normal → s.gov.state ≠ .normal →
        t.gov.flag = s.gov.flag ∧ t.notice = (s.raise .thermalClear).notice)
    ∧ (∀ p q rest, after = .normal → s.gov.state ≠ .normal → s.store.engine.state = .paused p →
        s.store.queue = q :: rest → t.store = { s.store with engine := t.store.engine }
        ∧ t.store.engine.state = .copying p ∧ t.store.engine.chunk = s.store.engine.chunk
        ∧ t.store.engine.waiting = (List.range 16).map fun i =>
            ⟨.read, s.slotAddr q.slot + s.store.engine.chunk * 4096 + i * 256, [], false⟩)
    ∧ (after ≠ .normal ∨ (∀ p, s.store.engine.state ≠ .paused p) → t.store = s.store)
    ∧ (after ≠ s.gov.state → .record .status ∈ t.recs.waiting) := by
  intro t after
  obtain ⟨stays, t_eq⟩ | ⟨moves, t_eq⟩ := State.sampleDie_cases reading s
  · have same : after = s.gov.state := stays
    have t_eq : t = s.onGov fun g => { g with sample := some (clampSample reading) } := t_eq
    rw [same, t_eq]
    exact ⟨rfl, rfl, fun _ => ⟨rfl, rfl, rfl, rfl⟩, fun h => absurd h (lt_irrefl _), fun h => absurd h (lt_irrefl _),
      fun h h' => absurd h h', fun _ _ _ h h' => absurd h h', fun _ => rfl, fun h => absurd rfl h⟩
  · have moves : after ≠ s.gov.state := moves
    have t_eq : t = (s.onGov fun g => { g with sample := some (clampSample reading), state := after }).thermalChange
        s.gov.state after := t_eq
    rw [t_eq]
    refine ⟨by rw [State.thermalChange_gov_sample]; rfl, by rw [State.thermalChange_gov_state]; rfl,
      fun same => absurd same moves, fun hotter => ?_, fun cooler hot => ?_, fun normal hot => ?_,
      fun p q rest normal hot paused queue => ?_, fun still => ?_, fun _ => State.record_mem_thermalChange⟩
    · rw [State.thermalChange_of_hotter hotter]
      exact ⟨by simp, State.raise_notice_congr rfl⟩
    · rw [State.thermalChange_of_cooler cooler hot]
      exact ⟨rfl, rfl⟩
    · rw [normal, State.thermalChange_of_normal]
      refine ⟨by simp, ?_⟩
      rw [State.requestStatus_notice, State.copyResume_notice]
      exact State.raise_notice_congr rfl
    · rw [normal, State.thermalChange_of_normal, State.requestStatus_store,
        State.copyResume_of_paused (by simpa using paused), State.raiseChunk_of_queue (by simpa using queue)]
      simp only [State.onStore_store, State.raise_store, State.onGov_store, State.slotAddr, State.raise_slots,
        State.onGov_slots, Store.onEngine, chunkReads_eq]
      exact ⟨trivial, trivial, trivial, trivial⟩
    · by_cases normal : after = .normal
      · have other := still.resolve_left (not_not.2 normal)
        rw [normal, State.thermalChange_of_normal, State.requestStatus_store,
          State.copyResume_of_not_paused (by simpa using other), State.raise_store]
        rfl
      · rw [State.thermalChange_store_of_hot normal]
        rfl

/-- Settles O28. -/
theorem samplesAndStatusReadsReachTheGovernor : Obligations.SamplesAndStatusReadsReachTheGovernor := by
  refine ⟨fun reading s => ?_, fun e data pre post s running queue first dir okay waiting => ?_, fun s notDue => ?_⟩
  · have effect := State.sampleDie_effect reading s
    rw [clampSample_eq] at effect
    obtain ⟨sample, state, stays, hotter, cooler, normal, resumed, store, status⟩ := effect
    refine ⟨sample, state, stays, hotter, cooler, normal, resumed, store, status, fun b hb => ?_⟩
    cases b with
    | gov | notice | recs | store => simp at hb
    | _ => simp [Block.same]
  · have handed (o : Obs) (ho : o ∈ e.obs) := State.relayObserved_all running queue first dir okay ho waiting
    refine ⟨fun obs => ?_, fun obs => ?_⟩
    · have row := handed .statusRead (by simp [obs])
      rw [obs] at row ⊢
      have row : exec .statusRecordRead s = .next (State.statusReadSeen _) := congrArg Host.Outcome.next row
      rw [row]
      refine ⟨fun normal set => congrArg _ (if_pos ⟨normal, set⟩), fun calm => congrArg _ (if_neg ?_)⟩
      rintro ⟨normal, set⟩
      exact calm.elim (fun hot => hot normal) fun clear => absurd (set.symm.trans clear) (by decide)
    · have status := handed .statusRead (by simp [obs])
      have notice := handed .noticeRead (by simp [obs])
      refine ⟨congrArg Host.Outcome.next (status.trans notice.symm), _, congrArg Host.Outcome.next status, ?_⟩
      rw [obs]
      simp only [State.handEach, State.hand]
      refine ⟨by simp, fun normal => State.statusReadSeen_flag (by simpa using normal), fun notWaiting notOut => ?_⟩
      rw [State.statusReadSeen_notice, State.noticeReadSeen, if_neg fun outstanding => ?_]
      · rfl
      · obtain h | ⟨a, d, h⟩ := RecordWriter.noticeOutstanding_iff.1 outstanding
        · exact notWaiting h
        · exact notOut a d h
  · exact congrArg _ (State.relayObserved_of_not_due notDue)

end Sys2Proof.Machine
end

section
/-! The enhancement arithmetic (R65, R70 to R75): a pixel from its neighbours, a line from three, the gains between the
tile centres, and the ranges they keep. -/

namespace Sys2Proof.Machine

variable {value : Nat → Nat} {n pitch pos : Nat}

/-! ### A pixel -/

theorem clampByte_eq (v : Int) : (clampByte v : Int) = max 0 (min 255 v) := by
  unfold clampByte
  split
  · omega
  · split <;> omega

/-- Of a flat area the blur is the value itself, so no detail is left to sharpen. -/
theorem blur_flat (v : Nat) : blur v v v v v v v v v = v := by
  unfold blur
  omega

theorem core_zero (c : Nat) : core c 0 = 0 := by
  unfold core
  split
  · omega
  · split <;> omega

theorem sharpen_of_no_detail (g c v : Nat) : sharpen g c v v = v := by
  simp [sharpen, core_zero]

theorem sharpen_zero (c v b : Nat) : sharpen 0 c v b = v := by
  simp [sharpen]

/-- A flat area is only levelled. -/
theorem enhancePixel_flat (g c gain v : Nat) :
    enhancePixel g c gain v v v v v v v v v = min 255 ((v * gain + 128) / 256) := by
  have level_eq : level (v : Int) gain = ((v * gain + 128) / 256 : Nat) := by
    simp [level]
  simp only [enhancePixel, blur_flat, sharpen_of_no_detail, level_eq]
  have := clampByte_eq ((v * gain + 128) / 256 : Nat)
  omega

/-- A gain of 0 with levelling OFF leaves the captured value. -/
theorem enhancePixel_plain {v : Nat} (byte : v ≤ 255) (c n1 n2 n3 n4 n5 n6 n7 n8 : Nat) :
    enhancePixel 0 c 256 n1 n2 n3 n4 v n5 n6 n7 n8 = v := by
  have level_eq : level (v : Int) 256 = v := by
    unfold level
    omega
  simp only [enhancePixel, sharpen_zero, level_eq]
  have := clampByte_eq v
  omega

/-! ### A line -/

theorem enhanceLine_length (w g c tw : Nat) (columns : Option (List Nat)) (up mid down : List Byte) :
    (enhanceLine w g c tw columns up mid down).length = w := by
  simp [enhanceLine]

/-- R65: the column to the right of `x`, with the last one repeated. -/
theorem rightColumn_eq {w x : Nat} (inside : x < w) : min (x + 1) (w - 1) = if x + 1 = w then x else x + 1 := by
  split <;> omega

/-! ### Between the centres (R74, R75) -/

theorem between_of_lt (first : pos < pitch / 2) : between value n pitch pos = value 0 := if_pos first

theorem between_of_ge (last : (n - 1) * pitch + pitch / 2 ≤ pos) (pos_pitch : 0 < pitch) (many : 1 < n) :
    between value n pitch pos = value (n - 1) := by
  have span : 1 * pitch ≤ (n - 1) * pitch := Nat.mul_le_mul_right _ (by omega)
  rw [between, if_neg (by omega), if_pos last]

/-- A mix lies between its two values. -/
theorem mix256_in_range {lo hi a b f : Nat} (ha : lo ≤ a ∧ a ≤ hi) (hb : lo ≤ b ∧ b ≤ hi) (hf : f ≤ 256) :
    lo ≤ mix256 a b f ∧ mix256 a b f ≤ hi := by
  obtain ⟨loA, hiA⟩ := ha
  obtain ⟨loB, hiB⟩ := hb
  have whole : ∀ v : Nat, v * (256 - f) + v * f = 256 * v := fun v => by
    rw [← Nat.mul_add, Nat.sub_add_cancel hf, Nat.mul_comm]
  have least : 256 * lo ≤ a * (256 - f) + b * f :=
    whole lo ▸ Nat.add_le_add (Nat.mul_le_mul_right _ loA) (Nat.mul_le_mul_right _ loB)
  have most : a * (256 - f) + b * f ≤ 256 * hi :=
    whole hi ▸ Nat.add_le_add (Nat.mul_le_mul_right _ hiA) (Nat.mul_le_mul_right _ hiB)
  unfold mix256
  omega

theorem between_in_range {lo hi : Nat} (range : ∀ i, lo ≤ value i ∧ value i ≤ hi) (pos_pitch : 0 < pitch) :
    lo ≤ between value n pitch pos ∧ between value n pitch pos ≤ hi := by
  unfold between
  split
  · exact range 0
  · split
    · exact range (n - 1)
    · rename_i first last
      refine mix256_in_range (range _) (range _) (Nat.le_of_lt_succ ?_)
      have part := Nat.div_add_mod (pos - pitch / 2) pitch
      have rest := Nat.mod_lt (pos - pitch / 2) pos_pitch
      rw [Nat.mul_comm] at part
      rw [Nat.div_lt_iff_lt_mul pos_pitch]
      omega

theorem columnGain_eq_between (gains : List Nat) (th y i : Nat) :
    columnGain gains th y i = between (fun j => gains.getD (16 * j + i) 256) 12 th y := by
  simp only [columnGain, Nat.mul_comm]

/-- A tile gain, or 256 for a tile there is none of, is in range. -/
theorem gain_in_range {gains : List Nat} (range : ∀ n ∈ gains, 256 ≤ n ∧ n ≤ 1024) (i : Nat) :
    256 ≤ gains.getD i 256 ∧ gains.getD i 256 ≤ 1024 := by
  rcases Nat.lt_or_ge i gains.length with inside | beyond
  · rw [List.getD_eq_getElem _ _ inside]
    exact range _ (List.getElem_mem inside)
  · rw [List.getD_eq_default _ _ beyond]
    decide

/-- The form of R74 and R75 that both statements have. -/
theorem between_cases (many : 1 < n) :
    (pos < 0 * pitch + pitch / 2 → between value n pitch pos = value 0)
    ∧ ((n - 1) * pitch + pitch / 2 ≤ pos → 0 < pitch → between value n pitch pos = value (n - 1))
    ∧ (∀ i, i < n - 1 → i * pitch + pitch / 2 ≤ pos → pos < (i + 1) * pitch + pitch / 2 →
        between value n pitch pos = (value i * (256 - (pos - (i * pitch + pitch / 2)) * 256 / pitch)
          + value (i + 1) * ((pos - (i * pitch + pitch / 2)) * 256 / pitch) + 128) / 256) :=
  ⟨fun first => between_of_lt (by omega), fun last pos_pitch => between_of_ge last pos_pitch many,
    fun _ inside low high => between_mid (by omega) low high⟩

/-- Settles O39. -/
theorem enhancementKeepsFlatAreasAndTheGainRange : Obligations.EnhancementKeepsFlatAreasAndTheGainRange := by
  refine ⟨fun g c gain nw n ne w m e sw s se => ?_, fun w g c tw x columns up mid down inside => ?_,
    fun gains th y i => ?_, fun columns tw x => between_cases (by decide), fun g c gain v _ => enhancePixel_flat g c gain v,
    fun c v n1 n2 n3 n4 n5 n6 n7 n8 byte => enhancePixel_plain byte c n1 n2 n3 n4 n5 n6 n7 n8,
    fun gains tw th x y wide high range => ?_⟩
  · exact clampByte_eq _
  · refine ⟨enhanceLine_length w g c tw columns up mid down, ?_⟩
    rw [List.getD_eq_getElem _ _ (by rwa [enhanceLine_length])]
    cases columns with
    | none => simp [enhanceLine, rightColumn_eq inside]
    | some gains => simp [enhanceLine, rightColumn_eq inside]
  · rw [columnGain_eq_between]
    exact between_cases (by decide)
  · refine between_in_range (fun i => gain_in_range (fun gain mem => ?_) i) wide
    obtain ⟨i, -, rfl⟩ := List.mem_map.1 mem
    exact between_in_range (fun j => gain_in_range range _) high

end Sys2Proof.Machine
end

section
/-! The scaler's output rows (R119 to R125): the fit step, the origins, each output byte, the source rows a row needs,
and the frame shown byte for byte. -/

namespace Sys2Proof.Machine

variable {v : PlaneView} {p : Plane} {l : Latch} {g : OutGeom} {ow r o c size out step : Nat} {a b : Nat → Nat}

/-! ### The fit step and the origins (R119, R120) -/

theorem ceilDiv_eq {a b : Nat} (pos : 0 < b) : ceilDiv a b = if a % b = 0 then a / b else a / b + 1 := by
  have parts := Nat.div_add_mod a b
  have small := Nat.mod_lt a pos
  have grown : a / b * b + b = (a / b + 1) * b := by rw [Nat.add_mul, Nat.one_mul]
  rw [Nat.mul_comm] at parts
  unfold ceilDiv
  rw [Nat.div_eq_iff pos]
  split <;> omega

theorem ceilDiv_mul (k : Nat) {a : Nat} (pos : 0 < a) : ceilDiv (a * k) a = k := by
  rw [ceilDiv_eq pos, if_pos (Nat.mul_mod_right a k), Nat.mul_div_cancel_left _ pos]

theorem clampInt_eq {lo hi x : Int} (range : lo ≤ hi) : clampInt lo hi x = max lo (min hi x) := by
  unfold clampInt
  split
  · omega
  · split <;> omega

theorem origin_of_letterboxed {centre : Option Nat} (boxed : ((size * 65536 : Nat) : Int) ≤ (step * out : Nat)) :
    origin size out step centre = (((size * 65536 : Nat) : Int) - (step * out : Nat)) / 2 := if_pos boxed

theorem origin_of_panned {centre : Option Nat} (panned : ((step * out : Nat) : Int) < (size * 65536 : Nat)) :
    origin size out step centre = max 0 (min (((size * 65536 : Nat) : Int) - (step * out : Nat))
      ((centrePos size centre : Nat) - ((step * out : Nat) : Int) / 2)) :=
  (if_neg panned.not_ge).trans (clampInt_eq (by omega))

/-- An axis of the output's own size, at step 1, begins at 0. -/
theorem origin_of_own_size (size : Nat) : origin size size 65536 none = 0 := by
  rw [origin_of_letterboxed (by omega)]
  omega

/-! ### Positions -/

theorem inside_iff {x : Int} : inside size x = true ↔ 0 ≤ x ∧ x < (size * 65536 : Nat) := by
  simp [inside]

theorem inside_eq_false_iff {x : Int} : inside size x = false ↔ x < 0 ∨ ((size * 65536 : Nat) : Int) ≤ x := by
  simp [inside]
  omega

/-- A position at a sample has no fraction. -/
theorem fraction_of_sample (i : Nat) : fraction ((i * 65536 : Nat) : Int) = 0 := by
  unfold fraction
  omega

theorem sampleIndex_of_sample (i : Nat) : sampleIndex ((i * 65536 : Nat) : Int) = i := by
  unfold sampleIndex
  omega

theorem inside_of_sample {i : Nat} (lt : i < size) : inside size ((i * 65536 : Nat) : Int) = true :=
  inside_iff.2 ⟨by omega, by omega⟩

theorem turned_lt {flip : Bool} (lt : o < size) : turned flip size o < size := by
  unfold turned
  split <;> omega

/-! ### One output byte (R122, R123) -/

/-- The offset in a source row of the byte `k` of sample `i`. -/
def Plane.byteOf : Plane → Nat → Nat → Nat
  | .luma, i, _ => i
  | .chroma, i, k => 2 * i + k

theorem outputByte_of_outside {f k : Nat} (outside : inside v.width (v.sx c) = false) :
    outputByte p v a b f c k = blackByte p := by
  simp [outputByte, outside]

theorem outputByte_of_inside {f k : Nat} (isInside : inside v.width (v.sx c) = true) :
    outputByte p v a b f c k = BitVec.ofNat 8 (bilinear
      (a (p.byteOf (sampleIndex (v.sx c)) k)) (a (p.byteOf (min (sampleIndex (v.sx c) + 1) (v.width - 1)) k))
      (b (p.byteOf (sampleIndex (v.sx c)) k)) (b (p.byteOf (min (sampleIndex (v.sx c) + 1) (v.width - 1)) k))
      (fraction (v.sx c)) f) := by
  cases p <;> simp only [outputByte, isInside, if_true, Plane.byteOf]

theorem outputRow_luma_getD (lt : o < ow) :
    (outputRow .luma v ow r a b).getD o 0 = outputByte .luma v a b (fraction (v.sy r)) o 0 := by
  rw [List.getD_eq_getElem _ _ (by simpa [outputRow] using lt)]
  simp [outputRow]

theorem outputRow_chroma_getD (lt : o < ow) :
    (outputRow .chroma v ow r a b).getD o 0 = outputByte .chroma v a b (fraction (v.sy r)) (o / 2) (o % 2) := by
  rw [List.getD_eq_getElem _ _ (by simpa [outputRow] using lt)]
  simp [outputRow]

/-! ### The source rows of an output row (R125) -/

theorem PlaneView.sourceRows_of_outside (outside : inside v.height (v.sy r) = false) : v.sourceRows r = [] := by
  simp [PlaneView.sourceRows, outside]

theorem PlaneView.sourceRows_of_inside (column : c < v.outWidth) (across : inside v.width (v.sx c) = true)
    (down : inside v.height (v.sy r) = true) : v.sourceRows r =
      if sampleIndex (v.sy r) + 1 < v.height then [sampleIndex (v.sy r), sampleIndex (v.sy r) + 1]
      else [sampleIndex (v.sy r)] := by
  have used : v.columns.isEmpty = false := by
    rw [List.isEmpty_eq_false_iff_exists_mem]
    exact ⟨c, List.mem_filter.2 ⟨List.mem_range.2 column, across⟩⟩
  obtain ⟨low, high⟩ := inside_iff.1 down
  have row : sampleIndex (v.sy r) < v.height := by
    unfold sampleIndex
    omega
  simp only [PlaneView.sourceRows, down, used, Bool.not_false, Bool.and_self, if_true]
  by_cases last : sampleIndex (v.sy r) + 1 < v.height
  · rw [if_pos last, Nat.min_eq_left (by omega), if_neg (by omega)]
  · rw [if_neg last, Nat.min_eq_right (by omega), if_pos (by omega)]

/-- R122: an output row that needs no source row is black. -/
theorem Engine.rowBytes?_of_no_rows {e : Engine} (latched : e.latch = some l) (geom : e.geom = some g)
    (none : (planeView l g p).sourceRows r = []) : e.rowBytes? p r = some (List.replicate g.ow (blackByte p)) := by
  simp only [Engine.rowBytes?, Engine.planeView?, latched, geom, none, blackRow]

/-- R123: the chroma plane of a frame of even sizes has half of them. -/
theorem planeView_chroma (wide : l.ws % 2 = 0) (high : l.hs % 2 = 0) : planeView l g .chroma =
    ⟨l.ws / 2, l.hs / 2, g.ow / 2, g.oh / 2, l.x0 / 2, l.y0 / 2, l.step, l.flip⟩ := by
  simp only [planeView, Config.half, if_pos wide, if_pos high]

/-! ### A frame of the output's own size -/

/-- The latch of a frame shown unzoomed and centred on an output of its own size. -/
theorem makeLatch_own_size {w : Latched} {addr oh zt ramp base : Nat} {frame : Count} {flip : Bool} (wide : 0 < ow)
    (high : 0 < oh) : makeLatch w (addr, ow, oh, frame) ⟨base, ow, oh⟩ ⟨zt, 256, ramp, none, none, flip⟩
      = ⟨w, addr, ow, oh, frame, 65536, 0, 0, flip⟩ := by
  have step : viewStep (fitStep ow oh ow oh) 256 = 65536 := by
    simp [viewStep, fitStep, ceilDiv_mul _ wide, ceilDiv_mul _ high]
  simp only [makeLatch, step, origin_of_own_size]

/-- With no fraction the mix of R122 is its first sample. -/
theorem bilinear_zero (x y z u : Nat) : bilinear x y z u 0 0 = x := by
  unfold bilinear mixByte
  omega

/-- A plane whose samples are shown one for one. -/
structure PlaneView.IsExact (v : PlaneView) : Prop where
  width : v.width = v.outWidth
  height : v.height = v.outHeight
  x0 : v.x0 = 0
  y0 : v.y0 = 0
  step : v.step = 65536

namespace PlaneView.IsExact

theorem sx (exact : v.IsExact) (c : Nat) : v.sx c = ((turned v.flip v.outWidth c * 65536 : Nat) : Int) := by
  rw [PlaneView.sx, exact.x0, exact.step, zero_add]

theorem sy (exact : v.IsExact) (r : Nat) : v.sy r = ((turned v.flip v.outHeight r * 65536 : Nat) : Int) := by
  rw [PlaneView.sy, exact.y0, exact.step, zero_add]

theorem across (exact : v.IsExact) (lt : c < v.outWidth) : inside v.width (v.sx c) = true := by
  rw [exact.sx, exact.width]
  exact inside_of_sample (turned_lt lt)

theorem down (exact : v.IsExact) (lt : r < v.outHeight) : inside v.height (v.sy r) = true := by
  rw [exact.sy, exact.height]
  exact inside_of_sample (turned_lt lt)

theorem outputByte_eq (exact : v.IsExact) (lt : c < v.outWidth) (r k : Nat) :
    outputByte p v a b (fraction (v.sy r)) c k = BitVec.ofNat 8 (a (p.byteOf (turned v.flip v.outWidth c) k)) := by
  rw [outputByte_of_inside (exact.across lt), exact.sx, exact.sy, fraction_of_sample, fraction_of_sample,
    sampleIndex_of_sample, bilinear_zero]

theorem sourceRows_eq (exact : v.IsExact) (column : c < v.outWidth) (row : r < v.outHeight) : v.sourceRows r =
    if turned v.flip v.outHeight r + 1 = v.outHeight then [turned v.flip v.outHeight r]
    else [turned v.flip v.outHeight r, turned v.flip v.outHeight r + 1] := by
  have lt := turned_lt (flip := v.flip) row
  rw [PlaneView.sourceRows_of_inside column (exact.across column) (exact.down row), exact.sy, sampleIndex_of_sample,
    exact.height]
  by_cases last : turned v.flip v.outHeight r + 1 = v.outHeight
  · rw [if_pos last, if_neg (by omega)]
  · rw [if_neg last, if_pos (by omega)]

end PlaneView.IsExact

/-- The first part of O49: a frame of the output's own size is shown byte for byte. -/
theorem ownSize_shown (w : Latched) (addr ow oh r o : Nat) (frame : Count) (base ramp zt : Nat) (flip : Bool)
    (luma luma' pairs pairs' : Nat → Nat) (wide : 0 < ow) (high : 0 < oh) (evenW : ow % 2 = 0) (evenH : oh % 2 = 0)
    (column : o < ow) :
    let g : OutGeom := ⟨base, ow, oh⟩
    let l := makeLatch w (addr, ow, oh, frame) g ⟨zt, 256, ramp, none, none, flip⟩
    l.step = 65536 ∧ l.x0 = 0 ∧ l.y0 = 0
    ∧ (r < oh → ∀ v, v = planeView l g .luma →
        v.sourceRows r = (let j := if flip then oh - 1 - r else r; if j + 1 = oh then [j] else [j, j + 1])
        ∧ (outputRow .luma v ow r luma luma').getD o 0 = BitVec.ofNat 8 (luma (if flip then ow - 1 - o else o)))
    ∧ (r < oh / 2 → ∀ v, v = planeView l g .chroma →
        (outputRow .chroma v ow r pairs pairs').getD o 0 =
          BitVec.ofNat 8 (pairs (if flip then 2 * (ow / 2 - 1 - o / 2) + o % 2 else o))) := by
  intro g l
  have l_eq : l = ⟨w, addr, ow, oh, frame, 65536, 0, 0, flip⟩ := makeLatch_own_size wide high
  rw [l_eq]
  refine ⟨rfl, rfl, rfl, fun row v view => ?_, fun _ v view => ?_⟩
  · have exact : v.IsExact := by
      subst view
      exact ⟨rfl, rfl, rfl, rfl, rfl⟩
    have column : o < v.outWidth := by rwa [view]
    refine ⟨?_, ?_⟩
    · rw [exact.sourceRows_eq column (by rwa [view]), view]
      rfl
    · rw [outputRow_luma_getD (by assumption), exact.outputByte_eq column, view]
      rfl
  · rw [planeView_chroma evenW evenH] at view
    have exact : v.IsExact := by
      subst view
      exact ⟨rfl, rfl, rfl, rfl, rfl⟩
    have pair : o / 2 < v.outWidth := by
      rw [view]
      dsimp only [g]
      omega
    rw [outputRow_chroma_getD column, exact.outputByte_eq pair, view]
    cases flip with
    | true => rfl
    | false =>
      refine congrArg (fun i => BitVec.ofNat 8 (pairs i)) ?_
      change 2 * (o / 2) + o % 2 = o
      omega

/-- Settles O49. -/
theorem unzoomedFrameIsShownByteForByte : Obligations.UnzoomedFrameIsShownByteForByte := by
  refine ⟨ownSize_shown, fun size out step centre => ?_, fun l g r o a b column => ?_, fun ws hs ow oh wide high => ?_⟩
  · refine ⟨origin_of_letterboxed, fun panned => ?_⟩
    rw [origin_of_panned panned]
    cases centre <;> rfl
  · refine ⟨fun row => ⟨fun outside => ?_, fun low high => ?_, fun outside => ?_, fun low high top bottom => ?_⟩,
      fun row evenG evenW evenH => ?_⟩
    · exact (outputRow_luma_getD column).trans (outputByte_of_outside (inside_eq_false_iff.2 outside))
    · exact (outputRow_luma_getD column).trans (outputByte_of_inside (inside_iff.2 ⟨low, high⟩))
    · have none := PlaneView.sourceRows_of_outside (v := planeView l g .luma) (inside_eq_false_iff.2 outside)
      exact ⟨none, fun e latched geom => Engine.rowBytes?_of_no_rows latched geom none⟩
    · exact PlaneView.sourceRows_of_inside (v := planeView l g .luma) column (inside_iff.2 ⟨low, high⟩)
        (inside_iff.2 ⟨top, bottom⟩)
    · intro v
      have view : v = ⟨l.ws / 2, l.hs / 2, g.ow / 2, g.oh / 2, l.x0 / 2, l.y0 / 2, l.step, l.flip⟩ :=
        planeView_chroma evenW evenH
      have pair : o / 2 < v.outWidth := by
        rw [view]
        dsimp only
        omega
      refine ⟨fun outside => ?_, fun low high => ?_, fun outside => ?_, fun low high top bottom => ?_⟩
      · rw [outputRow_chroma_getD column, outputByte_of_outside (by rw [view]; exact inside_eq_false_iff.2 outside)]
        rfl
      · rw [outputRow_chroma_getD column, outputByte_of_inside (by rw [view]; exact inside_iff.2 ⟨low, high⟩), view]
        rfl
      · have none : v.sourceRows r = [] :=
          PlaneView.sourceRows_of_outside (by rw [view]; exact inside_eq_false_iff.2 outside)
        exact ⟨none, fun e latched geom => Engine.rowBytes?_of_no_rows latched geom none⟩
      · rw [PlaneView.sourceRows_of_inside pair (by rw [view]; exact inside_iff.2 ⟨low, high⟩)
          (by rw [view]; exact inside_iff.2 ⟨top, bottom⟩), view]
        rfl
  · simp only [fitStep, ceilDiv_eq wide, ceilDiv_eq high]

end Sys2Proof.Machine
end

section
/-! Capture frame ends and stops (R55, R62, R63, R97, R152): what a frame end that is sampled leaves, what a stop that
proceeds leaves, and the end of a tear. -/

namespace Sys2Proof.Machine

variable {s t u : State} {die : Int}

/-! ### A capture frame end (R152, R165) -/

theorem State.WaitCounted.of_store (h : s.WaitCounted u) (store : t.store = u.store) : s.WaitCounted t := by
  unfold State.WaitCounted
  rwa [store]

/-- The store's engine waits on after a sample as before it, and a paused one counts no wait. -/
theorem State.sampleDie_engine (reading : Int) (s : State) :
    (s.sampleDie reading).store.engine.waitCount = s.store.engine.waitCount
      ∧ (s.sampleDie reading).store.engine.flight = s.store.engine.flight
      ∧ ((∀ p, s.store.engine.state ≠ .paused p) → (s.sampleDie reading).store = s.store)
      ∧ ∀ p, (s.sampleDie reading).store.engine.state = .waiting p → s.store.engine.state = .waiting p := by
  have raised (p : Nat) (u : State) : (u.raiseChunk p).store.engine.waitCount = u.store.engine.waitCount
      ∧ (u.raiseChunk p).store.engine.flight = u.store.engine.flight
      ∧ ∀ q, (u.raiseChunk p).store.engine.state = .waiting q → u.store.engine.state = .waiting q := by
    unfold State.raiseChunk
    split
    · exact ⟨rfl, rfl, fun _ h => h⟩
    · exact ⟨rfl, rfl, fun _ h => by cases h⟩
  have same {v : State} (store : v.store = s.store) : v.store.engine.waitCount = s.store.engine.waitCount
      ∧ v.store.engine.flight = s.store.engine.flight ∧ ((∀ p, s.store.engine.state ≠ .paused p) → v.store = s.store)
      ∧ ∀ p, v.store.engine.state = .waiting p → s.store.engine.state = .waiting p := by
    rw [store]
    exact ⟨rfl, rfl, fun _ => rfl, fun _ h => h⟩
  obtain ⟨-, eq⟩ | ⟨moves, eq⟩ := State.sampleDie_cases reading s
  · rw [eq]
    exact same rfl
  · rw [eq]
    generalize s.gov.state.after (clampSample reading) = after
    by_cases normal : after = .normal
    · rw [normal, State.thermalChange_of_normal, State.requestStatus_store]
      unfold State.copyResume
      split
      next p paused =>
        have before : s.store.engine.state = .paused p := by simpa using paused
        obtain ⟨waitCount, flight, waits⟩ := raised p ((s.onGov fun g => { g with
          sample := some (clampSample reading), state := .normal }).raise .thermalClear)
        refine ⟨by simpa using waitCount, by simpa using flight, fun none => absurd before (none p), fun q h => ?_⟩
        simpa using waits q h
      next => exact same (by simp)
    · exact same (by rw [State.thermalChange_store_of_hot normal]; rfl)

theorem State.captureFrameEnd_waitCounted (die : Int) (s : State) : s.WaitCounted (s.captureFrameEnd die) := by
  obtain ⟨waitCount, -, sampled, waits⟩ := State.sampleDie_engine die s
  unfold State.captureFrameEnd
  refine ⟨fun p waiting => ?_, fun none => ?_⟩
  · have store := sampled fun q paused => by rw [waiting] at paused; cases paused
    simp only [State.requestStatus_store, State.copyFrameEnd, store, waiting, State.onStore_store, Store.onEngine]
  · simp only [State.requestStatus_store, State.copyFrameEnd]
    split
    next p h => exact absurd (waits p h) (none p)
    next => exact waitCount

theorem State.captureFrameEnd_sample (die : Int) (s : State) :
    (s.captureFrameEnd die).gov.sample = some (max (-40) (min 150 die)) := by
  have sample := (State.sampleDie_effect die s).1
  rw [clampSample_eq] at sample
  simpa [State.captureFrameEnd] using sample

theorem State.captureFrameEnd_status (die : Int) (s : State) :
    .record .status ∈ (s.captureFrameEnd die).recs.waiting := RecordWriter.mem_request _ _

theorem State.captureFrameEnd_flight (die : Int) (s : State) :
    (s.captureFrameEnd die).store.engine.flight = s.store.engine.flight := by
  unfold State.captureFrameEnd State.copyFrameEnd
  split <;> simpa [Store.onEngine] using (State.sampleDie_engine die s).2.1

@[simp] theorem State.sampleDie_out (x : OutId) (s : State) : (s.sampleDie die).out x = s.out x := by
  cases x <;> simp [State.out]

@[simp] theorem State.captureFrameEnd_out (x : OutId) (s : State) : (s.captureFrameEnd die).out x = s.out x := by
  cases x <;> simp [State.out]

@[simp] theorem State.tearEnded_out (x : OutId) (s : State) : (s.tearEnded die).out x = s.out x := by
  cases x <;> simp [State.out]

/-- R63: the end of a tear leaves the tracker at rest and touches no block of the enhancer's neighbours. -/
theorem State.tearEnded_cap (die : Int) (s : State) :
    (s.tearEnded die).cap = { s.cap with tearing := false, tracker := .none } := by
  simp [State.tearEnded]

theorem State.tearEnded_sample (die : Int) (s : State) :
    (s.tearEnded die).gov.sample = some (max (-40) (min 150 die)) := State.captureFrameEnd_sample ..

theorem State.tearEnded_status (die : Int) (s : State) : .record .status ∈ (s.tearEnded die).recs.waiting :=
  State.captureFrameEnd_status ..

theorem State.tearEnded_waitCounted (die : Int) (s : State) : s.WaitCounted (s.tearEnded die) :=
  State.captureFrameEnd_waitCounted die (s.onCap _)

theorem State.tearEnded_flight (die : Int) (s : State) :
    (s.tearEnded die).store.engine.flight = s.store.engine.flight := State.captureFrameEnd_flight ..

/-! ### A stop that proceeds (R55, R97, R99) -/

@[simp] theorem State.monitorStop_out (x : OutId) (s : State) : s.monitorStop.out x = s.unholdAll.out x := by
  unfold State.monitorStop
  split <;> simp

@[simp] theorem State.monitorStop_slots (s : State) : s.monitorStop.slots = s.unholdAll.slots := by
  unfold State.monitorStop
  split <;> simp

theorem State.finishStop_out (x : OutId) (s : State) : s.finishStop.out x =
    ((s.onCap fun c => { c with running := false, tracker := .none, stopping := false, live := c.staged }).unholdAll).out
      x := by
  simp only [State.finishStop, State.answerAccepted_out, State.requestStatus_out, State.monitorStop_out]

theorem State.finishStop_slots (s : State) : s.finishStop.slots =
    ((s.onCap fun c => { c with running := false, tracker := .none, stopping := false, live := c.staged }).unholdAll).slots
      := by
  simp only [State.finishStop, State.answerAccepted_slots, State.requestStatus_slots, State.monitorStop_slots]

theorem State.finishStop_cap (s : State) : s.finishStop.cap =
    { s.cap with running := false, tracker := .none, stopping := false, live := s.cap.staged } := by
  simp [State.finishStop]

theorem State.finishStop_mon (s : State) : s.finishStop.mon =
    { s.mon with state := .off, previous := none, stable := 0, scan := 0, presence := 0
                 holdA := false, holdB := false } := by
  simp [State.finishStop]

theorem State.finishStop_status (s : State) : .record .status ∈ s.finishStop.recs.waiting :=
  State.record_mem_answerAccepted _ _ (RecordWriter.mem_request _ _)

theorem State.finishStop_answers (flight : u.ring.flight = s.ring.flight) : s.AnswersLater 3 .done u.finishStop :=
  State.answersLater_answerAccepted (by simpa using flight) 3 .done

theorem State.finishStop_recordsTo (s : State) : s.slots.RecordsTo s.finishStop.slots := by
  rw [State.finishStop_slots]
  exact State.unholdAll_recordsTo (s.onCap _)

theorem State.finishStop_holdsReleased (outs : ∀ x, u.out x = s.out x) (mon : ∀ x, u.mon.onHold x = s.mon.onHold x) :
    s.HoldsReleased u.slots.slot u.finishStop :=
  State.holdsReleased_of_unholdAll (u := u.onCap _) (fun x => (State.onCap_out ..).trans (outs x)) mon
    (fun x => State.finishStop_out x u) (State.finishStop_slots u)

theorem State.finishStopping_of_running (going : s.cap.stopping = false) : s.finishStopping = s := by
  simp [State.finishStopping, going]

theorem State.finishStopping_of_stopping (stops : s.cap.stopping = true) : s.finishStopping = s.finishStop := by
  simp [State.finishStopping, stops]

/-! ### RESTART's end (R30) -/

theorem State.finishRestart_of_not_restarting (idle : s.ring.restarting = false) : s.finishRestart = s := by
  simp [State.finishRestart, idle]

theorem State.finishRestart_of_settled (restarting : s.ring.restarting = true) (settled : s.restartSettled = true) :
    s.finishRestart = (s.onRing fun r => { r with restarting := false }).answerAccepted 26 .done := by
  simp [State.finishRestart, restarting, settled]

theorem State.finishRestart_of_not_settled (waits : s.restartSettled = false) : s.finishRestart = s := by
  simp [State.finishRestart, waits]

theorem State.restartSettled_iff : s.restartSettled = true ↔
    s.cap.tearing = false ∧ s.outA.leaving = false ∧ s.outB.leaving = false ∧ s.store.engine.flight = [] := by
  simp [State.restartSettled, and_assoc]

theorem State.finishRestart_answers (settled : u.restartSettled = true) (restarting : u.ring.restarting = true)
    (flight : u.ring.flight = s.ring.flight) :
    u.finishRestart.ring.restarting = false ∧ s.AnswersLater 26 .done u.finishRestart := by
  rw [State.finishRestart_of_settled restarting settled]
  exact ⟨by simp, State.answersLater_answerAccepted (by simpa using flight) 26 .done⟩

/-! ### The end of a tear (R63) -/

theorem State.chromaOut_eq_false_iff :
    s.chromaOut = false ↔ ∀ e ∈ s.path.fwd, e.chroma = true → e.resp ≠ none := by
  simp [State.chromaOut]

theorem State.tearSettled_iff : s.tearSettled = true ↔
    s.cap.lumaFlight = [] ∧ ∀ e ∈ s.path.fwd, e.chroma = true → e.resp ≠ none := by
  simp only [State.tearSettled, Bool.and_eq_true, List.isEmpty_iff, Bool.not_eq_true', State.chromaOut_eq_false_iff]

theorem exec_tearFinished_of_due (running : s.notice.halted = false) (tearing : s.cap.tearing = true)
    (settled : s.tearSettled = true) :
    exec (.tearFinished die) s = .next ((s.tearEnded die).finishStopping).finishRestart := by
  simp only [exec, execTearFinished, State.unlessHalted_of_not running, tearing, settled, Bool.and_self, if_true]

theorem exec_tearFinished_of_not_due (running : s.notice.halted = false)
    (early : (s.cap.tearing && s.tearSettled) = false) : exec (.tearFinished die) s = .next s := by
  simp only [exec, execTearFinished, State.unlessHalted_of_not running, early, Bool.false_eq_true, if_false]

/-- Settles O35. -/
theorem tearFinishesWhenItsResponsesHaveReturned : Obligations.TearFinishesWhenItsResponsesHaveReturned := by
  intro die s running due
  have row (isDue : due) : exec (.tearFinished die) s = .next ((s.tearEnded die).finishStopping).finishRestart :=
    exec_tearFinished_of_due running isDue.1 (State.tearSettled_iff.2 isDue.2)
  have cap := State.tearEnded_cap die s
  have sample := State.tearEnded_sample die s
  have status := State.tearEnded_status die s
  have counted := State.tearEnded_waitCounted die s
  refine ⟨fun isDue going idle => ?_, fun isDue stops idle => ?_, fun isDue going restarting => ?_, fun early => ?_⟩
  · refine ⟨_, row isDue, ?_⟩
    rw [State.finishStopping_of_running (by rwa [cap]), State.finishRestart_of_not_restarting (by simpa using idle)]
    refine ⟨cap, sample, status, counted, fun b hb => ?_⟩
    cases b with
    | cap | gov | notice | recs | store => simp at hb
    | _ => simp [Block.same]
  · refine ⟨_, row isDue, ?_⟩
    rw [State.finishStopping_of_stopping (by rwa [cap]), State.finishRestart_of_not_restarting ?idle]
    case idle => simpa [State.finishStop] using idle
    have records := State.finishStop_recordsTo (s.tearEnded die)
    refine ⟨by rw [State.finishStop_cap, cap], by simp [State.finishStop_mon], by simpa [State.finishStop] using sample,
      State.finishStop_answers (by simp), State.finishStop_status _, by simpa using records.ready,
      by simpa using records.drops, ?_, by simp, counted.of_store (by simp)⟩
    have released := State.finishStop_holdsReleased (s := s) (u := s.tearEnded die) (fun x => by simp) fun x => by simp
    simpa using released
  · refine ⟨_, row isDue, ?_⟩
    rw [State.finishStopping_of_running (by rwa [cap])]
    refine ⟨by simp [cap], fun outA outB noFlight => ?_, fun waits => ?_, counted.of_store (by simp), fun b hb => ?_⟩
    · refine State.finishRestart_answers (State.restartSettled_iff.2 ⟨by rw [cap], ?_, ?_, ?_⟩) ?_ ?_
      · simpa using outA
      · simpa using outB
      · rwa [State.tearEnded_flight]
      · simpa using restarting
      · simp
    · rw [State.finishRestart_of_not_settled]
      · simp
      · rw [← Bool.not_eq_true, State.restartSettled_iff, State.tearEnded_flight]
        rintro ⟨-, outA, outB, noFlight⟩
        simp_all
    · cases b with
      | cap | gov | notice | recs | store | ring => simp at hb
      | _ => simp [Block.same]
  · refine exec_tearFinished_of_not_due running (Bool.eq_false_iff.2 fun both => early ?_)
    obtain ⟨tearing, settled⟩ := Bool.and_eq_true_iff.1 both
    exact ⟨tearing, State.tearSettled_iff.1 settled⟩

end Sys2Proof.Machine
end

section
/-! The completion of a frame (R37, R62, R77, R78, R97, R99): the slot, the white map, the signature, the stop. -/

namespace Sys2Proof.Machine

variable {s t u v : State} {x : OutId} {sig : Signature} {die : Int}

/-! ### What the monitor makes of a signature depends on the monitor, the outputs and the store alone -/

/-- The monitor, the outputs and the store are the same. -/
structure State.SameMonitored (s u : State) : Prop where
  mon : u.mon = s.mon
  outs : ∀ x, u.out x = s.out x
  store : u.store = s.store

namespace State.SameMonitored

theorem onMon (h : s.SameMonitored u) (f : Monitor → Monitor) : (s.onMon f).SameMonitored (u.onMon f) :=
  ⟨congrArg f h.mon, fun x => by simpa using h.outs x, h.store⟩

/-- Operations that touch neither. -/
theorem of_same (h : s.SameMonitored u) {s' u' : State} (hs : s.SameMonitored s') (hu : u.SameMonitored u') :
    s'.SameMonitored u' :=
  ⟨hu.mon.trans (h.mon.trans hs.mon.symm), fun x => (hu.outs x).trans ((h.outs x).trans (hs.outs x).symm),
    hu.store.trans (h.store.trans hs.store.symm)⟩

theorem raise (h : s.SameMonitored u) (k : EventKind) : (s.raise k).SameMonitored (u.raise k) :=
  h.of_same ⟨by simp, by simp, by simp⟩ ⟨by simp, by simp, by simp⟩

theorem requestStatus (h : s.SameMonitored u) : s.requestStatus.SameMonitored u.requestStatus :=
  h.of_same ⟨by simp, by simp, by simp⟩ ⟨by simp, by simp, by simp⟩

theorem writeSignature (h : s.SameMonitored u) (a : Against) :
    (s.writeSignature sig a).SameMonitored (u.writeSignature sig a) :=
  h.of_same ⟨rfl, by simp, rfl⟩ ⟨rfl, by simp, rfl⟩

theorem holdOutput (h : s.SameMonitored u) (x : OutId) : (s.holdOutput x).SameMonitored (u.holdOutput x) :=
  ⟨by rw [State.holdOutput_mon, State.holdOutput_mon, h.outs, h.mon],
    fun y => by rw [State.holdOutput_out, State.holdOutput_out, h.outs, h.outs], by simpa using h.store⟩

theorem unholdAll (h : s.SameMonitored u) : s.unholdAll.SameMonitored u.unholdAll :=
  ⟨by rw [State.unholdAll_mon, State.unholdAll_mon, h.mon],
    fun y => by rw [State.unholdAll_out, State.unholdAll_out, h.outs, h.mon], by simpa using h.store⟩

theorem enterStandby (h : s.SameMonitored u) : s.enterStandby.SameMonitored u.enterStandby :=
  ((((h.onMon _).raise _).holdOutput .a).holdOutput .b).requestStatus

theorem wakeMotion (h : s.SameMonitored u) : (s.wakeMotion sig).SameMonitored (u.wakeMotion sig) :=
  ((((h.onMon _).raise _).unholdAll)).requestStatus

theorem autoTest (h : s.SameMonitored u) : (s.autoTest sig).SameMonitored (u.autoTest sig) := by
  have asks {s u : State} (h : s.SameMonitored u) : (s.requestAuto sig).SameMonitored (u.requestAuto sig) := h.onMon _
  simp only [State.autoTest, h.mon, h.store]
  split
  · cases s.mon.saved with
    | none => exact asks h
    | some saved =>
      dsimp only
      split
      · exact asks ((h.onMon _).writeSignature _)
      · exact (h.onMon _).writeSignature _
  · exact h

theorem motionFrame (h : s.SameMonitored u) : (s.motionFrame sig).SameMonitored (u.motionFrame sig) := by
  simp only [State.motionFrame, h.mon]
  cases s.mon.previous with
  | none => exact h.onMon _
  | some previous =>
    dsimp only
    generalize (if score s.mon.settings.delta sig.means previous < s.mon.settings.k then s.mon.stable + 1 else 0) = stable
    split
    · exact ((((h.onMon _).onMon _).writeSignature _).raise _).autoTest.requestStatus
    · exact (h.onMon _).writeSignature _

theorem activeFrame (h : s.SameMonitored u) : (s.activeFrame sig).SameMonitored (u.activeFrame sig) := by
  simp only [State.activeFrame, h.mon]
  cases s.mon.reference with
  | none => exact h
  | some ref =>
    dsimp only
    split
    · exact ((((h.onMon _).onMon _).writeSignature _).raise _).requestStatus
    · split
      · exact (((h.onMon _).onMon _).enterStandby).writeSignature _
      · exact ((h.onMon _).onMon _).writeSignature _

theorem standbyFrame (h : s.SameMonitored u) : (s.standbyFrame sig).SameMonitored (u.standbyFrame sig) := by
  simp only [State.standbyFrame, h.mon]
  split
  · cases s.mon.reference with
    | none => exact h.onMon _
    | some ref =>
      dsimp only
      split
      · exact ((h.onMon _).wakeMotion).writeSignature _
      · split
        · exact (((h.onMon _).onMon _).raise _).writeSignature _
        · exact ((h.onMon _).onMon _).writeSignature _
  · exact h.onMon _

theorem receiveSignature (h : s.SameMonitored u) : (s.receiveSignature sig).SameMonitored (u.receiveSignature sig) := by
  simp only [State.receiveSignature, h.mon]
  cases s.mon.state with
  | off => exact h
  | motion => exact (h.onMon _).motionFrame
  | active => exact (h.onMon _).activeFrame
  | standby => exact (h.onMon _).standbyFrame

end State.SameMonitored

/-! ### What a slot holds stays as it is under its tags -/

/-- The slots' states, frames and kinds, the READY list and the drop count are as before. -/
structure SlotTable.SameContent (t u : SlotTable) : Prop where
  records : t.RecordsTo u
  state : ∀ k, (u.slot k).state = (t.slot k).state
  frame : ∀ k, (u.slot k).frame = (t.slot k).frame
  kind : ∀ k, (u.slot k).kind = (t.slot k).kind

namespace SlotTable.SameContent

theorem refl (t : SlotTable) : t.SameContent t := ⟨.refl t, fun _ => rfl, fun _ => rfl, fun _ => rfl⟩

theorem trans {t u v : SlotTable} (h : t.SameContent u) (h' : u.SameContent v) : t.SameContent v :=
  ⟨h.records.trans h'.records, fun k => (h'.state k).trans (h.state k), fun k => (h'.frame k).trans (h.frame k),
    fun k => (h'.kind k).trans (h.kind k)⟩

theorem onSlot {f : Slot → Slot} (state : ∀ sl, (f sl).state = sl.state) (frame : ∀ sl, (f sl).frame = sl.frame)
    (kind : ∀ sl, (f sl).kind = sl.kind) (k : Nat) (t : SlotTable) : t.SameContent (t.onSlot k f) :=
  ⟨⟨rfl, rfl, rfl, SlotTable.length_onSlot ..⟩, fun j => SlotTable.slot_onSlot_field state j k t,
    fun j => SlotTable.slot_onSlot_field frame j k t, fun j => SlotTable.slot_onSlot_field kind j k t⟩

theorem setFreeze (x : OutId) (b : Bool) (k : Nat) (t : SlotTable) : t.SameContent (t.onSlot k (·.setFreeze x b)) :=
  .onSlot (by simp) (by cases x <;> exact fun _ => rfl) (by cases x <;> exact fun _ => rfl) k t

theorem holdOutput (x : OutId) (s : State) : s.slots.SameContent (s.holdOutput x).slots := by
  unfold State.holdOutput
  split
  · split
    · simp only [State.onMon_slots, State.onSlots_slots, State.onOut_slots, SlotTable.takeFreeze]
      split
      · exact .setFreeze x true _ _
      · exact .refl _
    · simpa using refl s.slots
  · exact .refl _

theorem unholdOutput (x : OutId) (s : State) : s.slots.SameContent (s.unholdOutput x).slots := by
  unfold State.unholdOutput
  split
  · cases src : (s.out x).source with
    | held k => simpa [SlotTable.dropFreeze] using setFreeze x false k s.slots
    | _ => simpa using refl s.slots
  · exact .refl _

theorem unholdAll (s : State) : s.slots.SameContent s.unholdAll.slots :=
  (unholdOutput .a s).trans (unholdOutput .b _)

theorem enterStandby (s : State) : s.slots.SameContent s.enterStandby.slots := by
  have held := (holdOutput .a ((s.onMon fun m => { m with state := .standby, scan := 0, presence := 0 }).raise
    .standby)).trans (holdOutput .b _)
  simpa [State.enterStandby] using held

theorem wakeMotion (s : State) : s.slots.SameContent (s.wakeMotion sig).slots := by
  have released := unholdAll ((s.onMon fun m => { m with
    state := .motion, previous := some sig.means, stable := 0, idle := 0, scan := 0, presence := 0 }).raise .woken)
  simpa [State.wakeMotion] using released

end SlotTable.SameContent

theorem State.activeFrame_sameContent (sig : Signature) (s : State) :
    s.slots.SameContent (s.activeFrame sig).slots := by
  unfold State.activeFrame
  split
  · exact .refl _
  · dsimp only
    split
    · simpa [State.writeSignature] using SlotTable.SameContent.refl s.slots
    · split
      · exact SlotTable.SameContent.enterStandby (State.onMon _ (State.onMon _ s))
      · exact .refl _

theorem State.standbyFrame_sameContent (sig : Signature) (s : State) :
    s.slots.SameContent (s.standbyFrame sig).slots := by
  unfold State.standbyFrame
  dsimp only
  split
  · split
    · exact .refl _
    · split
      · exact SlotTable.SameContent.wakeMotion (State.onMon _ s)
      · split
        · simpa [State.writeSignature] using SlotTable.SameContent.refl s.slots
        · exact .refl _
  · exact .refl _

theorem State.receiveSignature_sameContent (sig : Signature) (s : State) :
    s.slots.SameContent (s.receiveSignature sig).slots := by
  cases state : s.mon.state with
  | off =>
    simp only [State.receiveSignature, state]
    exact .refl _
  | motion => simpa [State.receiveSignature, state] using SlotTable.SameContent.refl s.slots
  | active =>
    simp only [State.receiveSignature, state]
    exact State.activeFrame_sameContent sig (s.onMon _)
  | standby =>
    simp only [State.receiveSignature, state]
    exact State.standbyFrame_sameContent sig (s.onMon _)

/-! ### The hold list, emptied, gives the same again (R97, R99) -/

/-- The outputs and the slots as they are once the hold list is emptied. -/
def State.unheldView (s : State) : Engine × Engine × (Nat → Slot) :=
  (s.unholdAll.out .a, s.unholdAll.out .b, s.unholdAll.slots.slot)

theorem State.unheldView_congr (outs : ∀ x, u.out x = s.out x) (onHold : ∀ x, u.mon.onHold x = s.mon.onHold x)
    (slots : u.slots = s.slots) : u.unheldView = s.unheldView := by
  have table : u.unholdAll.slots.slot = s.unholdAll.slots.slot :=
    funext fun k => by simp only [State.unholdAll_slot, outs, onHold, slots]
  simp only [State.unheldView, State.unholdAll_out, outs, onHold, table]

theorem State.unholdAll_of_empty (empty : ∀ x, s.mon.onHold x = false) : s.unholdAll = s := by
  have one (x : OutId) : s.unholdOutput x = s := by
    rw [State.unholdOutput, empty]
    rfl
  rw [State.unholdAll, one, one]

theorem State.unheldView_unholdAll (s : State) : s.unholdAll.unheldView = s.unheldView := by
  rw [State.unheldView, State.unholdAll_of_empty fun x => by cases x <;> simp [Monitor.unheld, Monitor.onHold]]
  rfl

/-- R99: what emptying the hold list of a state alike leaves. -/
theorem State.holdsReleased_of_unheldView (outs : ∀ x, u.out x = s.out x)
    (onHold : ∀ x, u.mon.onHold x = s.mon.onHold x) (outA : t.out .a = u.unheldView.1)
    (outB : t.out .b = u.unheldView.2.1) (slots : t.slots.slot = u.unheldView.2.2) :
    s.HoldsReleased u.slots.slot t := by
  have released : s.HoldsReleased u.slots.slot u.unholdAll :=
    State.holdsReleased_of_unholdAll outs onHold (fun _ => rfl) rfl
  have same (x : OutId) : t.out x = u.unholdAll.out x := by
    cases x
    · exact outA
    · exact outB
  have table (k : Nat) : t.slots.slot k = u.unholdAll.slots.slot k := congrFun slots k
  simpa only [State.HoldsReleased, same, table] using released

/-- A change of the monitor that leaves the hold list. -/
theorem State.unheldView_onMon {f : Monitor → Monitor} (keeps : ∀ x, (f s.mon).onHold x = s.mon.onHold x) :
    (s.onMon f).unheldView = s.unheldView := State.unheldView_congr (by simp) keeps rfl

theorem State.unheldView_raise (k : EventKind) (s : State) : (s.raise k).unheldView = s.unheldView :=
  State.unheldView_congr (by simp) (by simp) (by simp)

theorem State.unheldView_writeSignature (a : Against) (s : State) :
    (s.writeSignature sig a).unheldView = s.unheldView := State.unheldView_congr (by simp) (fun _ => rfl) rfl

theorem State.unheldView_requestStatus (s : State) : s.requestStatus.unheldView = s.unheldView :=
  State.unheldView_congr (by simp) (by simp) (by simp)

theorem State.unheldView_wakeMotion (s : State) : (s.wakeMotion sig).unheldView = s.unheldView := by
  rw [State.wakeMotion, State.unheldView_requestStatus, State.unheldView_unholdAll, State.unheldView_raise]
  exact State.unheldView_onMon fun x => by cases x <;> rfl

theorem State.unheldView_settles {sc stable : Nat} :
    ((s.settles sig sc stable).autoTest sig).unheldView = s.unheldView := by
  obtain ⟨_, _, _, mon⟩ := (s.settles sig sc stable).autoTest_mon sig
  have outs (x : OutId) : ((s.settles sig sc stable).autoTest sig).out x = s.out x := by
    cases x <;> simp [State.out, State.settles, State.writeSignature]
  refine State.unheldView_congr outs (fun x => ?_) (by simp [State.settles, State.writeSignature])
  rw [mon]
  cases x <;> simp [State.settles, Monitor.onHold, Monitor.settled, State.writeSignature]

/-- Away from the entry into STANDBY a signature brings no hold, and may empty the list. -/
theorem State.receiveSignature_unheldView (stays : s.mon.state ≠ .active ∨ s.mon.settings.standby = false) :
    (s.receiveSignature sig).unheldView = s.unheldView := by
  cases state : s.mon.state with
  | off => simp only [State.receiveSignature, state]
  | motion =>
    cases before : s.mon.previous with
    | none =>
      rw [State.receiveSignature_first state before]
      exact State.unheldView_onMon fun x => by cases x <;> rfl
    | some old =>
      generalize stable : (if score s.mon.settings.delta sig.means old < s.mon.settings.k then s.mon.stable + 1
        else 0) = n
      rw [State.receiveSignature_motion state before rfl stable]
      split
      · rw [State.unheldView_requestStatus, State.unheldView_settles]
      · rw [State.unheldView_writeSignature]
        exact State.unheldView_onMon fun x => by cases x <;> rfl
  | active =>
    have off : s.mon.settings.standby = false := stays.resolve_left (not_not.2 state)
    cases reference : s.mon.reference with
    | none =>
      simp only [State.receiveSignature, state, State.activeFrame, State.onMon_mon, reference]
      exact State.unheldView_onMon fun x => by cases x <;> rfl
    | some ref =>
      rw [State.receiveSignature_active state reference rfl]
      split
      · rw [State.unheldView_requestStatus, State.unheldView_raise, State.unheldView_writeSignature]
        exact State.unheldView_onMon fun x => by cases x <;> rfl
      · rw [if_neg fun h => absurd (h.2.1.symm.trans off) (by decide), State.unheldView_writeSignature]
        exact State.unheldView_onMon fun x => by cases x <;> rfl
  | standby =>
    by_cases due : s.mon.settings.scan ≤ s.mon.scan + 1
    · cases reference : s.mon.reference with
      | none =>
        simp only [State.receiveSignature, state, State.standbyFrame, State.onMon_mon, due, if_true, reference]
        exact (State.unheldView_onMon (s := s.onMon _) fun x => by cases x <;> rfl).trans
          (State.unheldView_onMon fun x => by cases x <;> rfl)
      | some ref =>
        rw [State.receiveSignature_standby state due reference rfl]
        split
        · rw [State.unheldView_writeSignature, State.unheldView_wakeMotion]
          exact State.unheldView_onMon fun x => by cases x <;> rfl
        · split
          · rw [State.unheldView_writeSignature, State.unheldView_raise]
            exact State.unheldView_onMon fun x => by cases x <;> rfl
          · rw [State.unheldView_writeSignature]
            exact State.unheldView_onMon fun x => by cases x <;> rfl
    · rw [State.receiveSignature_unscanned state (Nat.lt_of_not_le due)]
      exact State.unheldView_onMon fun x => by cases x <;> rfl

end Sys2Proof.Machine
end

section
/-! The completion of a frame (R37, R62, R77, R78): the obligation. -/

namespace Sys2Proof.Machine

variable {s t u v : State} {x : OutId} {sig : Signature} {die : Int} {k : Nat}

/-! ### The slot that completes (R37) -/

theorem State.complete_slot (s : State) (k : Nat) : s.slots.complete.slot k = s.completedSlot k := by
  unfold SlotTable.complete State.completedSlot
  split
  next j found =>
    obtain ⟨inside, fills, first⟩ := SlotTable.filling_eq_some.1 found
    have same : SlotTable.slot { s.slots.onSlot j fun sl => { sl with state := .ready } with
        ready := s.slots.ready ++ [j] } k = (s.slots.onSlot j fun sl => { sl with state := .ready }).slot k := rfl
    rw [same, SlotTable.slot_onSlot]
    by_cases here : k = j
    · subst here
      rw [if_pos ⟨rfl, inside⟩, if_pos ⟨fills, first⟩]
    · rw [if_neg fun h => here h.1, if_neg]
      rintro ⟨fillsK, firstK⟩
      rcases Nat.lt_or_gt_of_ne here with before | after
      · exact first k before fillsK
      · exact firstK j after fills
  next none => rw [if_neg fun h => SlotTable.filling_eq_none.1 none k h.1]

theorem SlotTable.complete_ready {t : SlotTable} (found : t.filling = some k) :
    t.complete.ready = t.ready ++ [k] := by
  simp only [SlotTable.complete, found]

theorem SlotTable.complete_drops (t : SlotTable) : t.complete.drops = t.drops := by
  unfold SlotTable.complete
  split <;> rfl

/-! ### The end of a completed frame (R62, R77, R78) -/

theorem State.updateWhiteMap_cap (s : State) : s.updateWhiteMap.cap = { s.cap with
    whiteMap := if s.cap.degraded = true ∨ s.cap.frameLevelling = .hold then s.cap.whiteMap
      else updateWhites s.cap.whiteMap s.cap.whites } := by
  unfold State.updateWhiteMap
  by_cases keeps : s.cap.degraded = true ∨ s.cap.frameLevelling = .hold
  · rw [if_pos keeps, if_pos (by simpa using keeps)]
  · rw [if_neg keeps, if_neg (by simpa using keeps)]
    rfl

theorem State.frameEnded_cap (die : Int) (s : State) :
    (s.frameEnded die).cap = { s.updateWhiteMap.cap with tracker := .none, slot := none } := by
  simp [State.frameEnded]

@[simp] theorem State.updateWhiteMap_out (x : OutId) (s : State) : s.updateWhiteMap.out x = s.out x := by
  cases x <;> simp [State.out]

theorem State.frameEnded_out (die : Int) (x : OutId) (s : State) :
    (s.frameEnded die).out x = s.updateWhiteMap.giveSignature.out x := by
  simp [State.frameEnded]

theorem State.frameEnded_mon (die : Int) (s : State) : (s.frameEnded die).mon = s.updateWhiteMap.giveSignature.mon := by
  simp [State.frameEnded]

theorem State.frameEnded_slots (die : Int) (s : State) :
    (s.frameEnded die).slots = s.updateWhiteMap.giveSignature.slots := by
  simp [State.frameEnded]

theorem State.frameEnded_sample (die : Int) (s : State) :
    (s.frameEnded die).gov.sample = some (max (-40) (min 150 die)) := State.captureFrameEnd_sample ..

theorem State.frameEnded_status (die : Int) (s : State) : .record .status ∈ (s.frameEnded die).recs.waiting :=
  State.captureFrameEnd_status ..

theorem State.frameEnded_waitCounted (die : Int) (s : State) : s.WaitCounted (s.frameEnded die) := by
  have counted := State.captureFrameEnd_waitCounted die s.updateWhiteMap.giveSignature
  simp only [State.WaitCounted, State.giveSignature_store, State.updateWhiteMap_store] at counted
  exact counted

theorem State.giveSignature_of_degraded (degraded : s.cap.degraded = true) : s.giveSignature = s := if_pos degraded

theorem State.giveSignature_of_whole (whole : s.cap.degraded = false) :
    s.giveSignature = s.receiveSignature s.cap.signature := if_neg (Bool.eq_false_iff.1 whole)

theorem State.giveSignature_sameContent (s : State) : s.slots.SameContent s.giveSignature.slots := by
  unfold State.giveSignature
  split
  · exact .refl _
  · exact State.receiveSignature_sameContent ..

theorem State.frameEnded_sameContent (die : Int) (s : State) : s.slots.SameContent (s.frameEnded die).slots := by
  rw [State.frameEnded_slots]
  simpa using s.updateWhiteMap.giveSignature_sameContent

/-- R78: the signature the monitor hears, told of the state before the completion. -/
theorem State.frameEnded_mon_of_whole (whole : u.cap.degraded = false) (same : s.SameMonitored u) :
    (u.frameEnded die).mon = (s.receiveSignature u.cap.signature).mon := by
  have cap := State.updateWhiteMap_cap u
  rw [State.frameEnded_mon, State.giveSignature_of_whole (by rw [cap]; exact whole),
    show u.updateWhiteMap.cap.signature = u.cap.signature by rw [cap]; rfl]
  have same : s.SameMonitored u.updateWhiteMap :=
    ⟨by simpa using same.mon, by simpa using same.outs, by simpa using same.store⟩
  exact same.receiveSignature.mon

/-- R97, R99: unless the frame may begin STANDBY, what its end leaves of the hold list, emptied, is what it was before. -/
theorem State.frameEnded_unheldView (stays : s.cap.degraded = true ∨ s.mon.state ≠ .active
    ∨ s.mon.settings.standby = false) : (s.frameEnded die).unheldView = s.unheldView := by
  have cap := State.updateWhiteMap_cap s
  have given : s.updateWhiteMap.giveSignature.unheldView = s.unheldView := by
    have kept : s.updateWhiteMap.unheldView = s.unheldView := State.unheldView_congr (by simp) (by simp) (by simp)
    by_cases degraded : s.cap.degraded = true
    · rwa [State.giveSignature_of_degraded (by rw [cap]; exact degraded)]
    · rw [State.giveSignature_of_whole (by rw [cap]; exact Bool.eq_false_iff.2 degraded),
        State.receiveSignature_unheldView (by simpa using stays.resolve_left degraded), kept]
  rw [← given]
  exact State.unheldView_congr (State.frameEnded_out die · s) (by simp [State.frameEnded_mon]) (State.frameEnded_slots ..)

/-! ### A stop that waited (R55) -/

theorem State.unholdAll_sameContent (s : State) : s.slots.SameContent s.unholdAll.slots := .unholdAll s

theorem State.finishStopping_sameContent (s : State) : s.slots.SameContent s.finishStopping.slots := by
  unfold State.finishStopping
  split
  · rw [State.finishStop_slots]
    exact SlotTable.SameContent.unholdAll (s.onCap _)
  · exact .refl _

theorem State.finishStop_unheldView (s : State) :
    (s.finishStop.out .a, s.finishStop.out .b, s.finishStop.slots.slot) = s.unheldView := by
  rw [State.finishStop_out, State.finishStop_out, State.finishStop_slots]
  exact State.unheldView_congr (s := s) (u := s.onCap _) (by simp) (by simp) rfl

theorem State.finishStopping_whiteMap (s : State) : s.finishStopping.cap.whiteMap = s.cap.whiteMap := by
  unfold State.finishStopping
  split
  · rw [State.finishStop_cap]
  · rfl

theorem State.finishStopping_status (h : .record .status ∈ s.recs.waiting) :
    .record .status ∈ s.finishStopping.recs.waiting := by
  unfold State.finishStopping
  split
  · exact State.finishStop_status s
  · exact h

/-! ### The completion -/

theorem State.completionDue_iff : s.completionDue = true ↔ s.cap.tracker = .draining ∧ s.cap.lumaWaiting = []
    ∧ s.cap.lumaFlight = [] ∧ ∀ e ∈ s.path.fwd, e.chroma = true → e.resp ≠ none := by
  simp only [State.completionDue, Bool.and_eq_true, List.isEmpty_iff, decide_eq_true_eq, Bool.not_eq_true',
    State.chromaOut_eq_false_iff, and_assoc]

theorem exec_frameCompletion (running : s.notice.halted = false) : exec (.frameCompletion die) s = .next
    (if s.completionDue then ((s.onSlots SlotTable.complete).frameEnded die).finishStopping else s) := by
  simp only [exec, execFrameCompletion, State.unlessHalted_of_not running]

/-- Settles O36. -/
theorem frameCompletionMakesTheSlotReady : Obligations.FrameCompletionMakesTheSlotReady := by
  intro die s running due
  refine ⟨fun isDue => ⟨((s.onSlots SlotTable.complete).frameEnded die).finishStopping, ?_, ?_⟩, fun early => ?_⟩
  · rw [exec_frameCompletion running, if_pos (State.completionDue_iff.2 isDue)]
  · generalize hu : s.onSlots SlotTable.complete = u
    have cap_u : u.cap = s.cap := by subst hu; rfl
    have slots_u : u.slots = s.slots.complete := by subst hu; rfl
    have same : s.SameMonitored u := by
      subst hu
      exact ⟨rfl, fun x => State.onSlots_out .., rfl⟩
    have white := State.updateWhiteMap_cap u
    have cap := State.frameEnded_cap die u
    rw [white, cap_u] at cap
    have content := (u.frameEnded_sameContent die).trans (u.frameEnded die).finishStopping_sameContent
    have counted : s.WaitCounted (u.frameEnded die) := by
      have counted := State.frameEnded_waitCounted die u
      simpa only [State.WaitCounted, same.store] using counted
    refine ⟨fun k inside fills first => ?_, ?_, fun keeps => ?_, fun whole moves => ?_, ?_, ?_, ?_, ?_, fun going => ?_,
      fun stops => ?_⟩
    · have found : s.slots.filling = some k := SlotTable.filling_eq_some.2 ⟨inside, fills, first⟩
      have slot : u.slots.slot k = { s.slots.slot k with state := .ready } := by
        rw [slots_u, State.complete_slot, State.completedSlot, if_pos ⟨fills, first⟩]
      refine ⟨?_, ?_, ?_, ?_⟩
      · rw [content.records.ready, slots_u, SlotTable.complete_ready found]
      · rw [content.state, slot]
      · rw [content.frame, slot]
      · rw [content.kind, slot]
    · rw [content.records.drops, slots_u, SlotTable.complete_drops]
    · rw [State.finishStopping_whiteMap, cap, if_pos keeps]
    · rw [State.finishStopping_whiteMap, cap, if_neg fun h => h.elim (fun d => by simp [whole] at d) moves]
      rfl
    · simpa using u.frameEnded_sample die
    · exact State.finishStopping_status (State.frameEnded_status ..)
    · subst hu
      simp
    · exact counted.of_store (by simp)
    · rw [State.finishStopping_of_running (by rw [cap]; exact going)]
      refine ⟨by subst hu; simp, by rw [cap], fun degraded => ?_, fun g whole geom => ?_⟩
      · rw [State.frameEnded_mon, State.giveSignature_of_degraded (by rw [white, cap_u]; exact degraded),
          State.updateWhiteMap_mon, same.mon]
      · rw [State.frameEnded_mon_of_whole (by rwa [cap_u]) same, cap_u]
        simp only [Capture.signature, Capture.size, geom, tileMeans]
    · rw [State.finishStopping_of_stopping (by rw [cap]; exact stops)]
      have mon := (u.frameEnded die).finishStop_mon
      have released (stays : s.cap.degraded = true ∨ s.mon.state ≠ .active ∨ s.mon.settings.standby = false) :
          s.HoldsReleased s.completedSlot (u.frameEnded die).finishStop := by
        have view := (u.frameEnded die).finishStop_unheldView
        rw [State.frameEnded_unheldView (by rwa [cap_u, same.mon])] at view
        simp only [State.unheldView, Prod.mk.injEq] at view
        obtain ⟨outA, outB, slots⟩ := view
        have slots_eq : u.slots.slot = s.completedSlot := by
          rw [slots_u]
          exact funext (State.complete_slot s)
        exact slots_eq ▸ State.holdsReleased_of_unheldView same.outs (by rw [same.mon]; simp) outA outB slots
      refine ⟨State.finishStop_answers (by subst hu; simp), by rw [mon], by rw [mon], by rw [mon], by rw [mon], by rw [mon],
        by rw [mon], by rw [mon], fun _ stays => released (stays.imp_right .inr),
        fun other => released (.inr (.inl other)), by rw [State.finishStop_cap, cap]⟩
  · rw [exec_frameCompletion running, if_neg fun isDue => early (State.completionDue_iff.1 isDue)]

end Sys2Proof.Machine
end

section
/-! START_CAPTURE and STOP_CAPTURE (R38, R54, R55, R63, R87, R99). -/

namespace Sys2Proof.Machine

variable {s t u : State} {die : Int} {k : Nat}

/-! ### The torn slot (R38) -/

theorem State.tear_slot (s : State) (k : Nat) : s.slots.tear.slot k = s.tornSlot k := by
  unfold SlotTable.tear State.tornSlot
  split
  next j found =>
    obtain ⟨inside, fills, first⟩ := SlotTable.filling_eq_some.1 found
    rw [SlotTable.slot_onSlot]
    by_cases here : k = j
    · subst here
      rw [if_pos ⟨rfl, inside⟩, if_pos ⟨fills, first⟩]
    · rw [if_neg fun h => here h.1, if_neg]
      rintro ⟨fillsK, firstK⟩
      rcases Nat.lt_or_gt_of_ne here with before | after
      · exact first k before fillsK
      · exact firstK j after fills
  next none => rw [if_neg fun h => SlotTable.filling_eq_none.1 none k h.1]

theorem SlotTable.recordsTo_tear (t : SlotTable) : t.RecordsTo t.tear := by
  unfold SlotTable.tear
  split
  · exact ⟨rfl, rfl, rfl, SlotTable.length_onSlot ..⟩
  · exact .refl t

/-- A table that differs in its records alone. -/
theorem SlotTable.RecordsTo.eq_records {t u : SlotTable} (h : t.RecordsTo u) : u = { t with slots := u.slots } := by
  obtain ⟨ready, drops, geom, -⟩ := h
  cases u
  subst ready drops geom
  rfl

/-! ### The rows of the two directives -/

theorem exec_startCapture_of_refused (running : s.notice.halted = false) (bad : s.cap.geom = none ∨ s.cap.running = true) :
    exec .startCapture s = .next (s.answer .startCapture .refusedState) := by
  have refused : (s.cap.geom.isNone || s.cap.running) = true := by simpa using bad
  simp only [exec, execStartCapture, State.unlessHalted_of_not running, firstRefusal, refused, if_true]

theorem exec_startCapture_of_taken (running : s.notice.halted = false) (geom : s.cap.geom ≠ none)
    (stopped : s.cap.running = false) : exec .startCapture s = .next
      ((((s.onCap fun c => { c with running := true, tracker := .none }).monitorStart).requestStatus).answer
        .startCapture .done) := by
  have taken : (s.cap.geom.isNone || s.cap.running) = false := by simpa [stopped, Option.ne_none_iff_isSome] using geom
  simp only [exec, execStartCapture, State.unlessHalted_of_not running, firstRefusal, taken, Bool.false_eq_true, if_false]

theorem exec_stopCapture_of_stopped (running : s.notice.halted = false) (stopped : s.cap.running = false) :
    exec (.stopCapture die) s = .next (s.answer (.stopCapture die) .refusedState) := by
  simp only [exec, execStopCapture, State.unlessHalted_of_not running, firstRefusal, stopped, Bool.not_false, if_true]

theorem exec_stopCapture_of_running (running : s.notice.halted = false) (capturing : s.cap.running = true) :
    exec (.stopCapture die) s = .next ((s.accept (.stopCapture die)).takeStop die) := by
  simp only [exec, execStopCapture, State.unlessHalted_of_not running, firstRefusal, capturing, Bool.not_true,
    Bool.false_eq_true, if_false]

/-- R55: what a stop does, by the tear and the tracker. -/
theorem State.takeStop_of_none (settled : s.cap.tearing = false) (rest : s.cap.tracker = .none) :
    s.takeStop die = s.finishStop := by
  simp only [State.takeStop, settled, rest, Bool.false_eq_true, if_false]

theorem State.takeStop_of_waits (waits : s.cap.tracker = .draining ∨ s.cap.tearing = true) :
    s.takeStop die = s.onCap fun c => { c with stopping := true } := by
  unfold State.takeStop
  split
  · rfl
  next settled =>
    have draining := waits.resolve_right settled
    simp only [draining]

theorem State.takeStop_of_receiving (settled : s.cap.tearing = false) (receiving : s.cap.tracker = .receiving) :
    s.takeStop die = if s.tearFrame.tearSettled then (s.tearFrame.tearEnded die).finishStop
      else s.tearFrame.onCap fun c => { c with stopping := true } := by
  simp only [State.takeStop, settled, receiving, Bool.false_eq_true, if_false]

/-! ### A frame torn (R63) -/

theorem freePlaces_eq : freePlaces = [none, none, none, none] := rfl

theorem State.tearFrame_slots (s : State) : s.tearFrame.slots = s.slots.tear := rfl

theorem State.tearFrame_cap (s : State) : s.tearFrame.cap = { s.cap with
    places := freePlaces, lumaWaiting := [], slot := none, tearing := true } := rfl

@[simp] theorem State.tearFrame_out (x : OutId) (s : State) : s.tearFrame.out x = s.out x := by cases x <;> rfl

theorem State.tearFrame_settled_iff : s.tearFrame.tearSettled = true ↔
    s.cap.lumaFlight = [] ∧ ∀ e ∈ s.path.fwd, e.chroma = true → e.resp ≠ none := State.tearSettled_iff

/-- R24: a stop answered in the step that takes it. -/
theorem State.finishStop_answersNow (flight : u.ring.flight = (s.accept (.stopCapture die)).ring.flight) :
    s.AnswersNow (.stopCapture die) .done u.finishStop :=
  State.answersNow_answerAccepted (fun _ names => (type_of_decodeDirective names).1 die rfl) (by simpa using flight) .done

/-- A record that waits is not requested twice. -/
theorem State.requestStatus_requestStatus (s : State) : s.requestStatus.requestStatus = s.requestStatus := by
  have again : (s.recs.request .status).request .status = s.recs.request .status :=
    RecordWriter.request_of_mem (RecordWriter.mem_request _ _)
  exact congrArg (fun w => ({ s with recs := w } : State)) again

/-- Settles O30. -/
theorem captureStartsAndStops : Obligations.CaptureStartsAndStops := by
  refine ⟨fun s running => ⟨exec_startCapture_of_refused running, fun geom stopped => ?_⟩,
    fun die s running => ⟨exec_stopCapture_of_stopped running, fun capturing settled rest => ?_,
      fun capturing settled receiving noLuma noChroma => ?_, fun capturing settled receiving out => ?_,
      fun capturing waits => ?_⟩⟩
  · rw [exec_startCapture_of_taken running geom stopped]
    exact congrArg (fun u : State => Host.Outcome.next (u.answer .startCapture .done))
      (State.requestStatus_requestStatus _)
  · refine ⟨_, exec_stopCapture_of_running running capturing, ?_⟩
    rw [State.takeStop_of_none (by simpa using settled) (by simpa using rest)]
    have records := (s.accept (.stopCapture die)).finishStop_recordsTo
    have released := State.finishStop_holdsReleased (s := s) (u := s.accept (.stopCapture die)) (fun x => by simp)
      fun x => by simp
    rw [State.accept_slots] at records released
    refine ⟨by simp [State.finishStop_cap, rest], by simp [State.finishStop_mon], records.ready,
      records.drops, released, State.finishStop_answersNow rfl, State.finishStop_status _, fun b hb => ?_⟩
    cases b with
    | cap | mon | slots | outA | outB | ring | recs => simp at hb
    | _ => simp [Block.same, State.finishStop]
  · refine ⟨_, exec_stopCapture_of_running running capturing, ?_⟩
    rw [State.takeStop_of_receiving (by simpa using settled) (by simpa using receiving),
      if_pos (State.tearFrame_settled_iff.2 ⟨by simpa using noLuma, by simpa using noChroma⟩)]
    generalize torn : (s.accept (.stopCapture die)).tearFrame.tearEnded die = u
    have cap : u.cap = { s.cap with
        places := freePlaces, lumaWaiting := [], slot := none, tearing := false, tracker := .none } := by
      rw [← torn, State.tearEnded_cap, State.tearFrame_cap, State.accept_cap]
    have slots : u.slots = s.slots.tear := by simp [← torn, State.tearFrame_slots]
    have mon : u.mon = s.mon := by simp [← torn, State.tearFrame]
    have outs (x : OutId) : u.out x = s.out x := by simp [← torn]
    have records := (SlotTable.recordsTo_tear s.slots).trans (slots ▸ u.finishStop_recordsTo)
    have released := State.finishStop_holdsReleased outs fun x => by rw [mon]
    have torn_slot : u.slots.slot = s.tornSlot := by
      rw [slots]
      exact funext s.tear_slot
    have counted : s.WaitCounted u := by
      have counted := State.tearEnded_waitCounted die (s.accept (.stopCapture die)).tearFrame
      rw [torn] at counted
      simpa [State.WaitCounted, State.tearFrame] using counted
    have stopped := u.finishStop_cap
    rw [cap] at stopped
    rw [torn_slot] at released
    have sample := State.tearEnded_sample die (s.accept (.stopCapture die)).tearFrame
    rw [torn] at sample
    refine ⟨by rw [stopped], by rw [stopped], by rw [stopped], by rw [stopped], by rw [stopped]; rfl, by rw [stopped],
      by rw [stopped], by rw [stopped], by rw [stopped], by rw [State.finishStop_mon, mon], records.ready, records.drops,
      released, by simpa [State.finishStop] using sample, State.finishStop_status u, counted.of_store (by simp),
      State.finishStop_answersNow ?_, by simp [← torn, State.tearFrame]⟩
    simp [← torn, State.tearFrame]
  · refine ⟨_, exec_stopCapture_of_running running capturing, ?_⟩
    rw [State.takeStop_of_receiving (by simpa using settled) (by simpa using receiving), if_neg]
    · refine ⟨by simp [State.tearFrame_cap, freePlaces_eq], ?_, fun k => ?_, State.accepts_accept rfl, fun b hb => ?_⟩
      · simpa [State.tearFrame_slots] using (SlotTable.recordsTo_tear s.slots).eq_records
      · simpa [State.tearFrame_slots] using s.tear_slot k
      · cases b with
        | cap | slots | ring => simp at hb
        | _ => simp [Block.same, State.tearFrame]
    · rw [State.tearFrame_settled_iff]
      rintro ⟨noLuma, noChroma⟩
      obtain luma | ⟨e, he, chroma, noResp⟩ := out
      · exact luma (by simpa using noLuma)
      · exact noChroma e (by simpa using he) chroma noResp
  · refine ⟨_, exec_stopCapture_of_running running capturing, ?_⟩
    rw [State.takeStop_of_waits (by simpa using waits)]
    refine ⟨by simp, State.accepts_accept rfl, fun b hb => ?_⟩
    cases b with
    | cap | ring => simp at hb
    | _ => simp [Block.same]

end Sys2Proof.Machine
end

section
/-! The tile statistics of a write (R76): what feeding luma bytes adds to each tile's sum and white. -/

namespace Sys2Proof.Machine

variable {w h n : Nat} {data : List Byte}

/-- The tile of the luma byte at plane offset `i`. -/
def tileAt (w h i : Nat) : Nat := i / w / (h / 12) * 16 + i % w / (w / 16)

/-- The luma value at offset `i` of a write's bytes. -/
def lumaAt (data : List Byte) (i : Nat) : Nat := (data.getD i 0).toNat

/-- The sum of the aligned group of four bytes `j`. -/
def groupSum (data : List Byte) (j : Nat) : Nat :=
  lumaAt data (4 * j) + lumaAt data (4 * j + 1) + lumaAt data (4 * j + 2) + lumaAt data (4 * j + 3)

/-- The sums of the groups of a write that lie in tile `n`. -/
def groupsIn (w h n off m : Nat) (data : List Byte) : List Nat :=
  ((List.range m).filter fun j => decide (tileAt w h (off + 4 * j) = n)).map (groupSum data)

theorem lumaAt_drop (data : List Byte) (k i : Nat) : lumaAt (data.drop k) i = lumaAt data (k + i) := by
  simp [lumaAt, List.getD_eq_getElem?_getD]

theorem groupSum_drop (data : List Byte) (j : Nat) : groupSum (data.drop 4) j = groupSum data (j + 1) := by
  simp only [groupSum, lumaAt_drop]
  simp only [Nat.mul_add, Nat.mul_one, Nat.add_comm, Nat.add_left_comm, Nat.add_assoc]

theorem sum_take_four (long : 4 ≤ data.length) : ((data.take 4).map BitVec.toNat).sum = groupSum data 0 := by
  obtain ⟨a, b, c, d, rest, rfl⟩ : ∃ a b c d rest, data = a :: b :: c :: d :: rest := by
    match data, long with
    | a :: b :: c :: d :: rest, _ => exact ⟨a, b, c, d, rest, rfl⟩
  simp [groupSum, lumaAt]
  omega

/-- The groups of a write: the first, then those of the rest. -/
theorem groupsIn_succ (w h n off m : Nat) (data : List Byte) : groupsIn w h n off (m + 1) data =
    (if tileAt w h off = n then [groupSum data 0] else []) ++ groupsIn w h n (off + 4) m (data.drop 4) := by
  have shift (j : Nat) : tileAt w h (off + 4 * (j + 1)) = tileAt w h (off + 4 + 4 * j) :=
    congrArg (tileAt w h) (by omega)
  unfold groupsIn
  rw [List.range_succ_eq_map, List.filter_cons, List.filter_map, Nat.mul_zero, Nat.add_zero]
  by_cases here : tileAt w h off = n
  · simp [here, Function.comp_def, shift, groupSum_drop]
  · simp [here, Function.comp_def, shift, groupSum_drop]

theorem getD_modify {α : Type} (f : α → α) (k n : Nat) (l : List α) (d : α) (inside : n < l.length) :
    (l.modify k f).getD n d = if k = n then f (l.getD n d) else l.getD n d := by
  simp only [List.getD_eq_getElem?_getD, List.getElem?_modify, List.getElem?_eq_getElem inside]
  split <;> rfl

/-- R76: each tile's sum grows by its groups' sums, its white to their greatest mean. -/
theorem Tiles.feed_getD : ∀ (m off : Nat) (data : List Byte) (t : Tiles), 4 * m ≤ data.length →
    n < t.sums.length → n < t.whites.length →
    (Tiles.feed w h m off data t).sums.getD n 0 = t.sums.getD n 0 + (groupsIn w h n off m data).sum
      ∧ (Tiles.feed w h m off data t).whites.getD n 0
        = ((groupsIn w h n off m data).map (· / 4)).foldl max (t.whites.getD n 0)
  | 0, _, _, _, _, _, _ => ⟨rfl, rfl⟩
  | m + 1, off, data, t, long, sums, whites => by
    obtain ⟨sum, white⟩ := Tiles.feed_getD m (off + 4) (data.drop 4) (t.feedGroup (tileOf w h (off % w) (off / w))
      (data.take 4)) (by rw [List.length_drop]; omega) (by simpa [Tiles.feedGroup] using sums)
      (by simpa [Tiles.feedGroup] using whites)
    have tile : tileOf w h (off % w) (off / w) = tileAt w h off := rfl
    rw [Tiles.feed, sum, white, groupsIn_succ]
    simp only [Tiles.feedGroup, sum_take_four (show 4 ≤ data.length by omega), getD_modify _ _ _ _ _ sums,
      getD_modify _ _ _ _ _ whites, tile]
    by_cases here : tileAt w h off = n
    · simp [here, Nat.add_assoc, Nat.max_comm]
    · simp [here]

theorem Tiles.feed_length : ∀ (m off : Nat) (data : List Byte) (t : Tiles),
    (Tiles.feed w h m off data t).sums.length = t.sums.length
      ∧ (Tiles.feed w h m off data t).whites.length = t.whites.length
  | 0, _, _, _ => ⟨rfl, rfl⟩
  | m + 1, off, data, t => by
    obtain ⟨sums, whites⟩ := Tiles.feed_length m (off + 4) (data.drop 4)
      (t.feedGroup (tileOf w h (off % w) (off / w)) (data.take 4))
    rw [Tiles.feed, sums, whites]
    simp [Tiles.feedGroup]

/-- The pixels of an aligned group lie in one tile, whose width is a multiple of four. -/
theorem tileAt_group {i k : Nat} (wide : w % 64 = 0) (aligned : i % 4 = 0) (hk : k < 4) :
    tileAt w h (i + k) = tileAt w h i := by
  obtain ⟨tw, rfl⟩ : ∃ tw, w = 64 * tw := ⟨w / 64, by omega⟩
  obtain ⟨j, rfl⟩ : ∃ j, i = 4 * j := ⟨i / 4, by omega⟩
  have row : (4 * j + k) / (64 * tw) = 4 * j / (64 * tw) := by
    have quarter (x : Nat) : x / (64 * tw) = x / 4 / (16 * tw) := by
      rw [Nat.div_div_eq_div_mul]
      congr 1
      omega
    rw [quarter, quarter]
    congr 1
    omega
  have part : (4 * j + k) % (64 * tw) = 4 * j % (64 * tw) + k := by
    have whole := Nat.div_add_mod (4 * j + k) (64 * tw)
    have base := Nat.div_add_mod (4 * j) (64 * tw)
    rw [row] at whole
    omega
  have four : 4 * j % (64 * tw) % 4 = 0 := by
    rw [show 64 * tw = 4 * (16 * tw) by omega, Nat.mul_mod_mul_left]
    omega
  have column : (4 * j % (64 * tw) + k) / (64 * tw / 16) = 4 * j % (64 * tw) / (64 * tw / 16) := by
    rw [show 64 * tw / 16 = 4 * tw by omega, ← Nat.div_div_eq_div_mul, ← Nat.div_div_eq_div_mul]
    congr 1
    omega
  simp only [tileAt, row, part, column]

/-- The sums of the groups in a tile are the sum of its pixels. -/
theorem groupsIn_sum {off : Nat} (wide : w % 64 = 0) (aligned : off % 4 = 0) : ∀ m : Nat,
    (groupsIn w h n off m data).sum =
      (((List.range (4 * m)).filter fun i => decide (tileAt w h (off + i) = n)).map (lumaAt data)).sum
  | 0 => rfl
  | m + 1 => by
    have tile (k : Nat) (hk : k < 4) : tileAt w h (off + (4 * m + k)) = tileAt w h (off + 4 * m) := by
      rw [← Nat.add_assoc]
      exact tileAt_group wide (by omega) hk
    have pixels : List.range (4 * (m + 1)) = List.range (4 * m) ++ [4 * m + 0, 4 * m + 1, 4 * m + 2, 4 * m + 3] := by
      simp [Nat.mul_add, List.range_succ]
    have before := groupsIn_sum wide aligned m
    unfold groupsIn at before ⊢
    rw [List.range_succ, List.filter_append, List.map_append, List.sum_append, before, pixels, List.filter_append,
      List.map_append, List.sum_append]
    by_cases here : tileAt w h (off + 4 * m) = n
    · simp [tile, here, groupSum]
      omega
    · simp [tile, here]

/-- R76: what the bytes of a write add to each tile. -/
theorem Capture.feedTiles_getD {g : CapGeom} {off : Nat} {c : Capture} (wide : g.w % 64 = 0) (aligned : off % 4 = 0)
    (groups : data.length % 4 = 0) (whole : c.broken = false) (sums : n < c.sums.length) (whites : n < c.whites.length) :
    (c.feedTiles g off data).sums.getD n 0 = c.sums.getD n 0
        + (((List.range data.length).filter fun i => decide (tileAt g.w g.h (off + i) = n)).map (lumaAt data)).sum
      ∧ (c.feedTiles g off data).whites.getD n 0
        = (((List.range (data.length / 4)).filter fun j => decide (tileAt g.w g.h (off + 4 * j) = n)).map fun j =>
            groupSum data j / 4).foldl max (c.whites.getD n 0) := by
  obtain ⟨sum, white⟩ := Tiles.feed_getD (w := g.w) (h := g.h) (data.length / 4) off data ⟨c.sums, c.whites⟩ (by omega)
    sums whites
  rw [groupsIn_sum wide aligned, show 4 * (data.length / 4) = data.length by omega] at sum
  rw [groupsIn, List.map_map] at white
  unfold Capture.feedTiles
  rw [if_neg (by simp [whole])]
  exact ⟨sum, white⟩

end Sys2Proof.Machine
end

section
/-! Frame starts (R35, R36, R57 to R59, R65, R76): the fixed settings, the slot chosen, the start write. -/

namespace Sys2Proof.Machine

variable {s u : State} {t : Txn} {g : CapGeom} {c : Capture} {die : Int} {k : Nat}

/-! ### A legal write and a legal geometry -/

theorem Txn.write_of_legal (legal : t.legal = true) (dir : t.dir = .write) :
    16 ≤ t.len ∧ t.len ≤ 256 ∧ t.len % 16 = 0 ∧ t.addr % 16 = 0 ∧ t.data.length = t.len := by
  simp only [Txn.legal, Bool.and_eq_true, decide_eq_true_eq, Config.maxTransfer, dir] at legal
  obtain ⟨⟨⟨⟨⟨⟨low, short⟩, units⟩, aligned⟩, -⟩, -⟩, data⟩ := legal
  exact ⟨low, of_decide_eq_true short, units, aligned, data⟩

theorem CapGeom.area_of_legal (legal : g.Legal) : 640 * 480 ≤ g.w * g.h := by
  obtain ⟨wide, -, -, high, -⟩ := legal
  exact Nat.mul_le_mul wide high

theorem CapGeom.lumaPart_of_le {off : Nat} {data : List Byte} (fits : off + data.length ≤ g.w * g.h) :
    g.lumaPart off data = data := List.take_of_length_le (by omega)

theorem CapGeom.chromaPart_of_le {off : Nat} {data : List Byte} (fits : off + data.length ≤ g.w * g.h) :
    g.chromaPart off data = [] := List.drop_eq_nil_of_le (by omega)

/-! ### The fixed settings (R57, R58) -/

/-- The enhancer at a frame start, but for the slot: the frame number, the settings, the mode, the gains, the cleared
accumulators and the empty buffer. -/
def State.startedCap (s : State) : Capture := { s.cap with
  frameNo := s.cap.frameNo + 1, live := s.cap.staged, frameLevelling := s.cap.staged.levelling
  frameKind := kindAtStart s.mon.state s.gov.state, gEff := effGain s.gov.state s.cap.staged.gain
  cEff := effCoring s.gov.state s.cap.staged.coring, gains := s.cap.whiteMap.map (tileGain s.cap.staged.darkFloor)
  sums := List.replicate 192 0, whites := List.replicate 192 0, broken := false
  degraded := false, places := freePlaces, nextEmit := 0, tracker := .receiving, expected := 0 }

theorem State.startFrame_of_slot (chosen : s.slots.tear.chooseFill = some k) :
    s.startFrame.cap = { s.startedCap with slot := some k, dropped := false }
      ∧ s.startFrame.slots = s.slots.tear.fill k (s.cap.frameNo + 1) s.startedCap.frameKind
      ∧ s.startFrame.notice = s.notice ∧ s.startFrame.recs = s.recs := by
  simp only [State.startFrame, State.fillRequest, State.onCap_slots, chosen]
  exact ⟨rfl, rfl, rfl, rfl⟩

theorem State.startFrame_of_none (none : s.slots.tear.chooseFill = none) :
    s.startFrame.cap = { s.startedCap with slot := .none, dropped := true }
      ∧ s.startFrame.slots = { s.slots.tear with drops := s.slots.tear.drops + 1 }
      ∧ s.startFrame.notice.isPending .frameDropped = true
      ∧ ∀ k, .record k ∈ s.recs.waiting → .record k ∈ s.startFrame.recs.waiting := by
  simp only [State.startFrame, State.fillRequest, State.onCap_slots, none]
  refine ⟨?_, ?_, ?_, fun k waits => ?_⟩
  · simp [State.startedCap, Config.tiles]
  · simp
  · simp
  · exact State.mem_raise_of_mem .frameDropped waits

/-- The slot and the drop of a frame start are those of its fill request; all else is fixed. -/
theorem State.startFrame_cap (s : State) :
    ∃ slot dropped, s.startFrame.cap = { s.startedCap with slot := slot, dropped := dropped } := by
  cases chosen : s.slots.tear.chooseFill with
  | some k => exact ⟨_, _, (State.startFrame_of_slot chosen).1⟩
  | none => exact ⟨_, _, (State.startFrame_of_none chosen).1⟩

theorem State.record_mem_startFrame {r : Target} (waits : .record r ∈ s.recs.waiting) :
    .record r ∈ s.startFrame.recs.waiting := by
  cases chosen : s.slots.tear.chooseFill with
  | some k => rwa [(State.startFrame_of_slot chosen).2.2.2]
  | none => exact (State.startFrame_of_none chosen).2.2.2 r waits

/-! ### The start write (R59, R65, R76) -/

/-- A frame start write is luma alone and answered at once. -/
theorem State.startWrite_eq (legal : t.legal = true) (dir : t.dir = .write) (geom : g.Legal) (s : State) :
    s.startFrame.frameWrite t g 0 die = (s.startFrame.onCap
      (.written g s.startFrame.frameBase 0 t.len t.data)).respond ⟨t.id, .write, .okay, []⟩ := by
  obtain ⟨-, short, -, -, data⟩ := Txn.write_of_legal legal dir
  have area := CapGeom.area_of_legal geom
  have fits : 0 + t.data.length ≤ g.w * g.h := by omega
  obtain ⟨slot, dropped, cap⟩ := s.startFrame_cap
  have expected : 0 = s.startFrame.cap.expected := by rw [cap]; rfl
  have unended : 0 + t.len ≠ frameBytes g.w g.h := by
    unfold frameBytes
    omega
  rw [State.frameWrite_eq, if_pos expected, CapGeom.lumaPart_of_le fits, State.answerWrite,
    CapGeom.chromaPart_of_le fits]
  simp only [List.isEmpty_nil, Bool.or_true, if_true, State.receiptEnd, if_neg unended]

/-- In an empty buffer a write shorter than a line stands alone in line 0's place, and emits nothing. -/
theorem Capture.storeLuma_first {base : Nat} {data : List Byte} (whole : c.broken = false) (places : c.places = freePlaces)
    (next : c.nextEmit = 0) (some : data ≠ []) (short : data.length < g.w) :
    c.storeLuma g base 0 data = { c with
      places := [.some ⟨0, false, .receiving, data, 0⟩, none, none, none] } := by
  obtain ⟨n, length⟩ : ∃ n, data.length = n + 1 := ⟨data.length - 1, by
    have := List.length_pos_iff.2 some
    omega⟩
  have added : c.addToLine g.w 0 data = { c with
      places := [.some ⟨0, false, .receiving, data, 0⟩, none, none, none] } := by
    have unplaced : c.placeOf 0 = none := by
      rw [Capture.placeOf, places]
      rfl
    have free : c.freePlace = .some 0 := by
      rw [Capture.freePlace, places]
      rfl
    simp only [Capture.addToLine, unplaced, free, lineCond, short, if_true, Capture.setPlace, places]
    rfl
  have still : (c.addToLine g.w 0 data).emitDue g.h = false := by
    rw [added]
    unfold Capture.emitDue
    simp only [next]
    split <;> rfl
  have emitted : (c.addToLine g.w 0 data).emitAll g base 2 = c.addToLine g.w 0 data := by
    rw [Capture.emitAll, still]
    rfl
  have line : min data.length (g.w - 0 % g.w) = data.length := by
    rw [Nat.zero_mod]
    omega
  have rest : Capture.acceptLuma g base n (0 + data.length) [] (c.addToLine g.w 0 data) = c.addToLine g.w 0 data := by
    cases n <;> rfl
  rw [Capture.storeLuma, if_neg (by simp [whole]), length, Capture.acceptLuma, if_neg (by simpa using some), line,
    Nat.zero_div]
  dsimp only
  rw [List.take_length, List.drop_length, emitted, rest, added]

theorem Capture.written_first {base : Nat} (legal : t.legal = true) (dir : t.dir = .write) (geom : g.Legal)
    (whole : c.broken = false) (places : c.places = freePlaces) (next : c.nextEmit = 0)
    (sums : c.sums = List.replicate 192 0) (whites : c.whites = List.replicate 192 0) :
    (c.written g base 0 t.len t.data).StartedWith g t
      ∧ (c.written g base 0 t.len t.data).lumaWaiting = c.lumaWaiting := by
  obtain ⟨low, short, units, -, data⟩ := Txn.write_of_legal legal dir
  obtain ⟨wide, -, columns, high, -⟩ := geom
  obtain ⟨newSums, newWhites, fed⟩ := c.feedTiles_eq g 0 t.data
  have sumsLength : c.sums.length = 192 := sums ▸ List.length_replicate
  have whitesLength : c.whites.length = 192 := whites ▸ List.length_replicate
  have stats (n : Nat) (hn : n < 192) := Capture.feedTiles_getD (n := n) (g := g) (off := 0) (c := c) (data := t.data)
    columns rfl (by omega) whole (sumsLength ▸ hn) (whitesLength ▸ hn)
  have lengths := Tiles.feed_length (w := g.w) (h := g.h) (t.data.length / 4) 0 t.data ⟨c.sums, c.whites⟩
  have feeds : c.feedTiles g 0 t.data = { c with
      sums := (Tiles.feed g.w g.h (t.data.length / 4) 0 t.data ⟨c.sums, c.whites⟩).sums
      whites := (Tiles.feed g.w g.h (t.data.length / 4) 0 t.data ⟨c.sums, c.whites⟩).whites } := by
    rw [Capture.feedTiles, if_neg (by simp [whole])]
  have written : c.written g base 0 t.len t.data = { c with
      sums := (c.feedTiles g 0 t.data).sums, whites := (c.feedTiles g 0 t.data).whites, expected := t.len
      places := [if c.dropped then none else some ⟨0, false, .receiving, t.data, 0⟩, none, none, none] } := by
    unfold Capture.written
    dsimp only
    rw [Nat.zero_add]
    by_cases dropped : c.dropped = true
    · rw [if_pos (by rw [feeds]; exact dropped), if_pos dropped, ← freePlaces_eq, ← places, feeds]
    · rw [if_neg (by rw [feeds]; exact dropped), if_neg dropped, Capture.storeLuma_first (by rw [feeds]; exact whole)
        (by rw [feeds]; exact places) (by rw [feeds]; exact next) (List.ne_nil_of_length_pos (by omega)) (by omega), feeds]
  rw [written]
  refine ⟨⟨?_, ?_, fun n hn => ?_, rfl, next⟩, rfl⟩
  · rw [feeds]
    exact lengths.1.trans sumsLength
  · rw [feeds]
    exact lengths.2.trans whitesLength
  · obtain ⟨sum, white⟩ := stats n hn
    have zero (l : List Nat) (hl : l = List.replicate 192 0) : l.getD n 0 = 0 := by
      rw [hl, List.getD_eq_getElem?_getD, List.getElem?_replicate, if_pos hn]
      rfl
    rw [zero c.sums sums, Nat.zero_add] at sum
    rw [zero c.whites whites] at white
    dsimp only
    rw [sum, white, data]
    simp only [Nat.zero_add]
    exact ⟨rfl, rfl⟩

end Sys2Proof.Machine
end

section
/-! FRAME_START: the frame fixed (R58, R63, R67) and the slot chosen (R35, R36). -/

namespace Sys2Proof.Machine

variable {s u : State} {t : Txn} {g : CapGeom} {c : Capture} {die : Int} {k : Nat}

/-! ### The row -/

theorem exec_frameStart (legal : t.legal = true) (dir : t.dir = .write) (route : s.classify t = .enhancer 0)
    (geom : s.cap.geom = some g) : exec (.frameStart t die) s = .next (s.frameStart t g die) := by
  simp only [exec, execFrameStart, legal, dir, decide_true, Bool.and_self, if_true, route, geom]

theorem State.frameStart_of_none (next : s.isNext t = true) (settled : s.cap.tearing = false)
    (rest : s.cap.tracker = .none) :
    s.frameStart t g die = (s.leaveUntaken t).startFrame.frameWrite t g 0 die := by
  simp only [State.frameStart, settled, rest, State.present, next, Bool.and_self, Bool.false_eq_true, if_false, if_true]

theorem State.frameStart_of_waits (waits : s.cap.tearing = true ∨ s.cap.tracker = .draining) :
    s.frameStart t g die = s.holdUntaken t := by
  unfold State.frameStart
  split
  · rfl
  next settled => simp only [waits.resolve_left settled]

theorem State.frameStart_of_receiving (next : s.isNext t = true) (settled : s.cap.tearing = false)
    (receiving : s.cap.tracker = .receiving) : s.frameStart t g die = if s.tearFrame.tearSettled then
      ((s.tearFrame.tearEnded die).leaveUntaken t).startFrame.frameWrite t g 0 die else s.tearFrame.holdUntaken t := by
  simp only [State.frameStart, settled, receiving, next, Bool.false_eq_true, if_false, if_true]

/-! ### What the start leaves -/

/-- The enhancer after a start write of the frame that starts in `s`. -/
theorem State.startWrite_cap (legal : t.legal = true) (dir : t.dir = .write) (geom : g.Legal) (s : State) :
    ∃ sums whites places, (s.startFrame.frameWrite t g 0 die).cap = { s.startedCap with
        slot := s.startFrame.cap.slot, dropped := s.startFrame.cap.dropped
        sums := sums, whites := whites, places := places, expected := t.len }
      ∧ (s.startFrame.frameWrite t g 0 die).cap.StartedWith g t := by
  obtain ⟨slot, dropped, cap⟩ := s.startFrame_cap
  obtain ⟨started, waiting⟩ := Capture.written_first (base := s.startFrame.frameBase) (c := s.startFrame.cap) legal dir geom
    (by rw [cap]; rfl) (by rw [cap]; rfl) (by rw [cap]; rfl) (by rw [cap]; rfl) (by rw [cap]; rfl)
  obtain ⟨sums, whites, places, next, waiting', written⟩ := Capture.written_eq g s.startFrame.frameBase 0 t.len t.data
    s.startFrame.cap
  have written_cap : (s.startFrame.frameWrite t g 0 die).cap
      = s.startFrame.cap.written g s.startFrame.frameBase 0 t.len t.data := by
    rw [State.startWrite_eq legal dir geom]
    rfl
  rw [written_cap]
  refine ⟨sums, whites, places, ?_, started⟩
  have next_eq : next = 0 := by
    have nextEmit := started.2.2.2.2
    rwa [written] at nextEmit
  rw [written] at waiting
  rw [written, next_eq, show waiting' = s.startFrame.cap.lumaWaiting from waiting, cap, Nat.zero_add]
  rfl

@[simp] theorem State.startFrame_path' (s : State) : s.startFrame.path = s.path := by simp

/-- A start write is answered OKAY and leaves the forwarding queue. -/
theorem State.startWrite_path (legal : t.legal = true) (dir : t.dir = .write) (geom : g.Legal) (s : State) :
    (s.startFrame.frameWrite t g 0 die).path = { s.path with
      upLog := s.path.upLog ++ [⟨t.id, .write, .okay, []⟩] } := by
  rw [State.startWrite_eq legal dir geom]
  simp [State.respond]

/-- A start write touches no block but those of the frame, and of these the enhancer alone once the frame has started. -/
theorem State.startWrite_changesOnly (legal : t.legal = true) (dir : t.dir = .write) (geom : g.Legal) (s : State) :
    s.changesOnly [.path, .cap, .slots, .notice, .recs] (s.startFrame.frameWrite t g 0 die) := by
  rw [State.startWrite_eq legal dir geom]
  intro b hb
  cases b with
  | path | cap | slots | notice | recs => simp at hb
  | _ => simp [Block.same, State.respond]

theorem State.startWrite_slots (legal : t.legal = true) (dir : t.dir = .write) (geom : g.Legal) (s : State) :
    (s.startFrame.frameWrite t g 0 die).slots = s.startFrame.slots
      ∧ (s.startFrame.frameWrite t g 0 die).notice = s.startFrame.notice
      ∧ (s.startFrame.frameWrite t g 0 die).recs = s.startFrame.recs := by
  rw [State.startWrite_eq legal dir geom]
  exact ⟨rfl, rfl, rfl⟩

@[simp] theorem State.leaveUntaken_path (t : Txn) (s : State) :
    (s.leaveUntaken t).path.upLog = s.path.upLog ∧ (s.leaveUntaken t).path.fwd = s.path.fwd := by
  unfold State.leaveUntaken State.setUntaken
  split <;> exact ⟨rfl, rfl⟩

/-- Taking a waiting transaction off its line touches the path alone. -/
theorem State.changesOnly_leaveUntaken {bs : List Block} {v : State} (h : (s.leaveUntaken t).changesOnly bs v)
    (path : .path ∈ bs) : s.changesOnly bs v := by
  intro b hb
  have kept := h b hb
  cases b with
  | path => exact absurd path hb
  | _ => simpa [Block.same] using kept

/-! ### The slot chosen (R35, R36) -/

theorem SlotTable.tear_of_none (none : ∀ k, (s.slots.slot k).state ≠ .filling) : s.slots.tear = s.slots := by
  simp only [SlotTable.tear, SlotTable.filling_eq_none.2 none]

theorem SlotTable.lowestFree_eq_none {t : SlotTable} (none : ∀ j, j < t.slots.length → (t.slot j).state ≠ .free) :
    t.lowestFree = .none := by
  refine List.find?_eq_none.2 fun k hk => ?_
  simpa using none k (List.mem_range.1 hk)

theorem SlotTable.chooseFill_of_free {t : SlotTable} (inside : k < t.slots.length) (free : (t.slot k).state = .free)
    (first : ∀ j, j < k → (t.slot j).state ≠ .free) : t.chooseFill = some k := by
  simp only [SlotTable.chooseFill, SlotTable.lowestFree_eq_some.2 ⟨inside, free, first⟩]

theorem SlotTable.chooseFill_of_unheld {t : SlotTable} {pre post : List Nat}
    (none : ∀ j, j < t.slots.length → (t.slot j).state ≠ .free) (ready : t.ready = pre ++ k :: post) (more : post ≠ [])
    (unheld : (t.slot k).isHeld = false) (held : ∀ j ∈ pre, (t.slot j).isHeld = true) : t.chooseFill = some k := by
  simp only [SlotTable.chooseFill, SlotTable.lowestFree_eq_none none, SlotTable.oldestUnheld, ready]
  rw [List.dropLast_append_of_ne_nil (by simp), List.dropLast_cons_of_ne_nil more, List.find?_append,
    List.find?_eq_none.2 fun j hj => by simp [held j hj]]
  simp [unheld]

theorem SlotTable.chooseFill_of_none {t : SlotTable} (none : ∀ j, j < t.slots.length → (t.slot j).state ≠ .free)
    (held : ∀ j ∈ t.ready.dropLast, (t.slot j).isHeld = true) : t.chooseFill = .none := by
  simp only [SlotTable.chooseFill, SlotTable.lowestFree_eq_none none]
  exact List.find?_eq_none.2 fun j hj => by simp [held j hj]

theorem SlotTable.slot_fill {t : SlotTable} {frame : Count} {kind : FrameKind} (j : Nat) :
    (t.fill k frame kind).slot j = if j = k ∧ k < t.slots.length then
      ⟨.filling, frame, kind, false, false, false, false, 0, (t.geom.map (·.w)).getD 0, (t.geom.map (·.h)).getD 0⟩
      else t.slot j := SlotTable.slot_onSlot j k _ t

/-- R35: what the slot filled holds. -/
theorem SlotTable.fill_effect {t : SlotTable} {frame : Count} {kind : FrameKind} (inside : k < t.slots.length) :
    ((t.fill k frame kind).slot k).state = .filling ∧ ((t.fill k frame kind).slot k).frame = frame
      ∧ ((t.fill k frame kind).slot k).kind = kind ∧ ((t.fill k frame kind).slot k).isHeld = false
      ∧ (∀ sg, t.geom = some sg → ((t.fill k frame kind).slot k).width = sg.w
        ∧ ((t.fill k frame kind).slot k).height = sg.h)
      ∧ ∀ j, j ≠ k → (t.fill k frame kind).slot j = t.slot j := by
  rw [SlotTable.slot_fill, if_pos ⟨rfl, inside⟩]
  refine ⟨rfl, rfl, rfl, rfl, fun sg geom => ⟨by simp [geom], by simp [geom]⟩, fun j other => ?_⟩
  rw [SlotTable.slot_fill, if_neg fun h => other h.1]

/-- Settles O33. -/
theorem frameStartChoosesTheSlotToFill : Obligations.FrameStartChoosesTheSlotToFill := by
  intro t g die s legal dir route geom legalG next settled rest noFilling
  have row := exec_frameStart (die := die) legal dir route geom
  rw [State.frameStart_of_none next settled rest] at row
  refine ⟨_, row, ?_⟩
  obtain ⟨sums, whites, places, cap, -⟩ := State.startWrite_cap (die := die) legal dir legalG (s.leaveUntaken t)
  obtain ⟨slots, notice, -⟩ := State.startWrite_slots (die := die) legal dir legalG (s.leaveUntaken t)
  have torn : (s.leaveUntaken t).slots.tear = s.slots := by
    rw [State.leaveUntaken_slots, SlotTable.tear_of_none noFilling]
  have fills (k : Nat) (chosen : s.slots.chooseFill = some k) := State.startFrame_of_slot (s := s.leaveUntaken t)
    (k := k) (by rwa [torn])
  refine ⟨fun k inside free first => ?_, fun k pre post none inside ready more unheld held => ?_, fun none held => ?_⟩
  · obtain ⟨cap', slots', notice', -⟩ := fills k (SlotTable.chooseFill_of_free inside free first)
    rw [torn, State.leaveUntaken_cap] at slots'
    obtain ⟨state, frame, kind, tags, size, others⟩ := SlotTable.fill_effect (frame := s.cap.frameNo + 1)
      (kind := (s.leaveUntaken t).startedCap.frameKind) inside
    rw [cap, slots, notice, cap', slots']
    exact ⟨rfl, rfl, rfl, by rw [notice', State.leaveUntaken_notice], state, frame, kind, tags, size, rfl, others⟩
  · obtain ⟨cap', slots', -, -⟩ := fills k (SlotTable.chooseFill_of_unheld none ready more unheld held)
    rw [torn, State.leaveUntaken_cap] at slots'
    obtain ⟨state, frame, kind, tags, size, others⟩ := SlotTable.fill_effect (frame := s.cap.frameNo + 1)
      (kind := (s.leaveUntaken t).startedCap.frameKind) inside
    have notBefore : k ∉ pre := fun mem => by
      have := held k mem
      simp [unheld] at this
    have left : s.slots.ready.erase k = pre ++ post := by
      rw [ready, List.erase_append_right _ notBefore, List.erase_cons_head]
    rw [cap, slots, cap', slots']
    exact ⟨rfl, rfl, rfl, left, state, frame, kind, tags, size, others⟩
  · obtain ⟨cap', slots', pending, -⟩ := State.startFrame_of_none (s := s.leaveUntaken t)
      (by rw [torn]; exact SlotTable.chooseFill_of_none none held)
    rw [torn] at slots'
    rw [cap, slots, notice, cap', slots']
    exact ⟨rfl, rfl, pending, rfl⟩

end Sys2Proof.Machine
end

section
/-! FRAME_START: the frame fixed, after a tear or a wait where one is due (R57 to R59, R63, R67, R76). -/

namespace Sys2Proof.Machine

variable {s u : State} {t : Txn} {g : CapGeom} {die : Int} {k : Nat}

theorem effGain_of_normal {t : TempState} (normal : t = .normal) (g : Nat) : effGain t g = g := if_pos normal

theorem effCoring_of_normal {t : TempState} (normal : t = .normal) (c : Nat) : effCoring t c = c := if_pos normal

theorem State.holdUntaken_path_congr {u s : State} (path : u.path = s.path) (t : Txn) :
    (u.holdUntaken t).path = (s.holdUntaken t).path := by
  have untaken : u.untaken t.dir = s.untaken t.dir := by simp only [State.untaken, path]
  have set (l : List Txn) : (u.setUntaken t.dir l).path = (s.setUntaken t.dir l).path := by
    unfold State.setUntaken
    cases t.dir <;> simp only [State.onPath_path, path]
  simp only [State.holdUntaken, apply_ite State.path, untaken, set, path]

/-- What changes only some blocks and then only some blocks changes only those. -/
theorem State.changesOnly.trans {bs : List Block} {s u v : State} (h : s.changesOnly bs u) (h' : u.changesOnly bs v) :
    s.changesOnly bs v := by
  intro b hb
  have first := h b hb
  have second := h' b hb
  cases b <;> exact Eq.trans second first

/-- R38: after a tear there is a FREE slot to fill. -/
theorem SlotTable.chooseFill_of_torn {t : SlotTable} (filling : ∃ k, k < t.slots.length ∧ (t.slot k).state = .filling) :
    ∃ j, t.tear.tear.chooseFill = some j ∧ j < t.tear.tear.slots.length := by
  have freed (t : SlotTable) (k : Nat) (inside : k < t.slots.length) (free : (t.slot k).state = .free) :
      k < t.tear.slots.length ∧ (t.tear.slot k).state = .free := by
    unfold SlotTable.tear
    split
    next j found =>
      refine ⟨by rwa [SlotTable.length_onSlot], ?_⟩
      rw [SlotTable.slot_onSlot]
      split
      · rfl
      · exact free
    next => exact ⟨inside, free⟩
  obtain ⟨k, inside, free⟩ : ∃ k, k < t.tear.slots.length ∧ (t.tear.slot k).state = .free := by
    unfold SlotTable.tear
    cases found : t.filling with
    | none =>
      obtain ⟨k, -, fills⟩ := filling
      exact absurd fills (SlotTable.filling_eq_none.1 found k)
    | some k =>
      obtain ⟨inside, -, -⟩ := SlotTable.filling_eq_some.1 found
      exact ⟨k, by rwa [SlotTable.length_onSlot], by rw [SlotTable.slot_onSlot_self inside]⟩
  obtain ⟨inside, free⟩ := freed _ k inside free
  cases lowest : t.tear.tear.lowestFree with
  | none =>
    refine absurd free ?_
    simpa using List.find?_eq_none.1 lowest k (List.mem_range.2 inside)
  | some j => exact ⟨j, by simp only [SlotTable.chooseFill, lowest], (SlotTable.lowestFree_eq_some.1 lowest).1⟩

/-- Settles O32. -/
theorem frameStartFixesTheFrame : Obligations.FrameStartFixesTheFrame := by
  refine ⟨fun t g die s legal dir route geom legalG next settled rest => ?_,
    fun t g die s legal dir route geom legalG => ?_⟩
  · have row := exec_frameStart (die := die) legal dir route geom
    rw [State.frameStart_of_none next settled rest] at row
    refine ⟨_, row, ?_⟩
    obtain ⟨sums, whites, places, cap, started⟩ := State.startWrite_cap (die := die) legal dir legalG (s.leaveUntaken t)
    have path := State.startWrite_path (die := die) legal dir legalG (s.leaveUntaken t)
    have others := State.changesOnly_leaveUntaken (State.startWrite_changesOnly (die := die) legal dir legalG
      (s.leaveUntaken t)) (by simp)
    have before : (s.leaveUntaken t).startedCap = s.startedCap := by simp [State.startedCap]
    rw [before] at cap
    refine ⟨by rw [cap]; rfl, by rw [cap], by rw [cap]; rfl, by rw [cap]; rfl, by rw [cap]; rfl, by rw [cap]; rfl,
      fun normal => ⟨by rw [cap]; exact effGain_of_normal normal _, by rw [cap]; exact effCoring_of_normal normal _⟩,
      fun reduced => ⟨?_, ?_⟩, by rw [cap]; rfl, by rw [cap]; rfl, by rw [cap]; rfl, by rw [cap]; rfl, started,
      by rw [cap]; rfl, by rw [cap]; rfl, by rw [path]; simp, by rw [path]; simp, others⟩
    · rw [cap]
      exact if_neg (by simp [reduced])
    · rw [cap]
      exact if_neg (by simp [reduced])
  · intro out
    refine ⟨fun waits => ?_, fun next settled receiving isOut => ?_, fun next settled receiving noneOut => ?_⟩
    · rw [exec_frameStart legal dir route geom, State.frameStart_of_waits waits]
    · have row := exec_frameStart (die := die) legal dir route geom
      rw [State.frameStart_of_receiving next settled receiving, if_neg] at row
      · refine ⟨_, row, by simp [State.tearFrame_cap, freePlaces_eq],
          State.holdUntaken_path_congr (u := s.tearFrame) (s := s) rfl t,
          fun k inside fills first => ?_, fun b hb => ?_⟩
        · have slot (j : Nat) : (s.tearFrame.holdUntaken t).slots.slot j = s.tornSlot j := by
            simpa [State.tearFrame_slots] using s.tear_slot j
          refine ⟨?_, fun j other => ?_⟩
          · rw [slot, State.tornSlot, if_pos ⟨fills, first⟩]
          · rw [slot, State.tornSlot, if_neg]
            rintro ⟨fillsJ, firstJ⟩
            rcases Nat.lt_or_gt_of_ne other with before | after
            · exact first j before fillsJ
            · exact firstJ k after fills
        · cases b with
          | path | cap | slots => simp at hb
          | _ => simp [Block.same, State.tearFrame]
      · rw [State.tearFrame_settled_iff]
        rintro ⟨noLuma, noChroma⟩
        obtain luma | ⟨e, he, chroma, noResp⟩ := isOut
        · exact luma noLuma
        · exact noChroma e he chroma noResp
    · obtain ⟨noLuma, noChroma⟩ := not_or.1 noneOut
      have noLuma : s.cap.lumaFlight = [] := not_not.1 noLuma
      have row := exec_frameStart (die := die) legal dir route geom
      rw [State.frameStart_of_receiving next settled receiving, if_pos (State.tearFrame_settled_iff.2
        ⟨noLuma, fun e he chroma noResp => noChroma ⟨e, he, chroma, noResp⟩⟩)] at row
      refine ⟨_, row, ?_⟩
      generalize torn : (s.tearFrame.tearEnded die).leaveUntaken t = v
      have cap_v : v.cap = { s.cap with
          places := freePlaces, lumaWaiting := [], slot := none, tearing := false, tracker := .none } := by
        rw [← torn, State.leaveUntaken_cap, State.tearEnded_cap, State.tearFrame_cap]
      have slots_v : v.slots = s.slots.tear := by simp [← torn, State.tearFrame_slots]
      have path_v : v.path.upLog = s.path.upLog ∧ v.path.fwd = s.path.fwd := by simp [← torn, State.tearFrame]
      obtain ⟨sums, whites, places, cap, started⟩ := State.startWrite_cap (die := die) legal dir legalG v
      have path := State.startWrite_path (die := die) legal dir legalG v
      have others := State.startWrite_changesOnly (die := die) legal dir legalG v
      obtain ⟨slots, -, recs⟩ := State.startWrite_slots (die := die) legal dir legalG v
      have field {α : Type} (f : Capture → α) : f (v.startFrame.frameWrite t g 0 die).cap = f { v.startedCap with
          slot := v.startFrame.cap.slot, dropped := v.startFrame.cap.dropped
          sums := sums, whites := whites, places := places, expected := t.len } := congrArg f cap
      have sample : v.gov.sample = some (max (-40) (min 150 die)) := by
        rw [← torn, State.leaveUntaken_gov]
        exact State.tearEnded_sample die _
      have status : .record .status ∈ v.recs.waiting := by
        rw [← torn, State.leaveUntaken_recs]
        exact State.tearEnded_status die _
      have counted : s.WaitCounted v := by
        have counted := State.tearEnded_waitCounted die s.tearFrame
        rw [← torn]
        simpa [State.WaitCounted, State.tearFrame] using counted
      have same (b : Block) (h : b ∉ [Block.path, .cap, .slots, .notice, .recs]) := others b h
      refine ⟨(field (·.tracker)).trans rfl, (field (·.tearing)).trans (by simp [State.startedCap, cap_v]), field (·.expected),
        (field (·.frameNo)).trans (by simp [State.startedCap, cap_v]),
        (field (·.live)).trans (by simp [State.startedCap, cap_v]),
        (field (·.broken)).trans rfl, (field (·.degraded)).trans rfl,
        (field (·.degradedCount)).trans (by simp [State.startedCap, cap_v]),
        (field (·.whiteMap)).trans (by simp [State.startedCap, cap_v]), started,
        (field (·.lumaWaiting)).trans (by simp [State.startedCap, cap_v]),
        (field (·.lumaFlight)).trans (by simp [State.startedCap, cap_v, noLuma]),
        (field (·.gains)).trans (by simp [State.startedCap, cap_v]), ?_, ?_, counted.of_store ?_,
        by rw [path, path_v.1], by rw [path]; exact path_v.2, fun filling => ?_,
        State.changesOnly.trans (fun b hb => ?_) fun b hb => same b ?_⟩
      · have gov : (v.startFrame.frameWrite t g 0 die).gov = v.gov := same .gov (by simp)
        rw [gov, sample]
      · rw [recs]
        exact State.record_mem_startFrame status
      · exact same .store (by simp)
      · obtain ⟨j, chosen, inside⟩ := SlotTable.chooseFill_of_torn filling
        rw [← slots_v] at chosen inside
        obtain ⟨cap', slots', -, -⟩ := State.startFrame_of_slot chosen
        obtain ⟨state, frame, -⟩ := SlotTable.fill_effect (frame := v.cap.frameNo + 1) (kind := v.startedCap.frameKind) inside
        rw [cap, slots, cap', slots']
        refine ⟨rfl, j, rfl, state, ?_⟩
        rw [frame, cap_v]
      · cases b with
        | path | cap | slots | gov | notice | recs | store => simp at hb
        | _ => simp [Block.same, ← torn, State.tearFrame]
      · exact fun mem => hb (by
          simp only [List.mem_cons, List.not_mem_nil, or_false] at mem ⊢
          tauto)

end Sys2Proof.Machine
end

section
/-! The copy engine's requests (R141, R150, R151, R155, R170): what the start of a copy leaves, what the end of a request
leaves, the requests that fail in turn. -/

namespace Sys2Proof.Machine

variable {s t u : State} {p n k : Nat} {q : Request} {rest : List Request}

/-! ### The start of a copy (R155, R170) -/

/-- A copy that starts into record `p` with sequence `n` of request `q`, from `s`, has left `t`. -/
structure State.CopyStarted (s : State) (p n : Nat) (q : Request) (t : State) : Prop where
  entry : t.store.recAt p = q.copyingRec n
  others : ∀ j, j ≠ p → t.store.recAt j = s.store.recAt j
  order : t.store.order = s.store.order.erase p ++ [p]
  nextSeq : t.store.nextSeq = seqAfter n
  queue : t.store.queue = s.store.queue
  chunk : t.store.engine.chunk = 0
  copies : s.gov.state = .normal → t.store.engine.state = .copying p
    ∧ t.store.engine.waiting = (List.range 16).map fun i => ⟨.read, s.slotAddr q.slot + i * 256, [], false⟩
  pauses : s.gov.state ≠ .normal → t.store.engine.state = .paused p
    ∧ t.store.engine.waiting = s.store.engine.waiting
  catalog : .record (.catalog p) ∈ t.recs.waiting
  grows : p ∉ s.store.order → .record .status ∈ t.recs.waiting
  frame : s.changesOnly [.store, .recs] t

theorem State.raiseOrPause_of_normal (normal : s.gov.state = .normal) : s.raiseOrPause p = s.raiseChunk p :=
  if_pos normal

theorem State.raiseOrPause_of_hot (hot : s.gov.state ≠ .normal) :
    s.raiseOrPause p = s.onStore (·.onEngine fun e => { e with state := .paused p }) := if_neg hot

/-- Of the store the engine alone is touched, of the engine no more than its state and what its transactions take. -/
theorem State.raiseOrPause_store_eq (queue : s.store.queue = q :: rest) :
    (s.raiseOrPause p).store = { s.store with engine := (s.raiseOrPause p).store.engine }
      ∧ (s.raiseOrPause p).store.engine.chunk = s.store.engine.chunk
      ∧ (s.gov.state = .normal → (s.raiseOrPause p).store.engine.state = .copying p
        ∧ (s.raiseOrPause p).store.engine.buffer = []
        ∧ (s.raiseOrPause p).store.engine.waiting = chunkReads (s.slotAddr q.slot) s.store.engine.chunk)
      ∧ (s.gov.state ≠ .normal → (s.raiseOrPause p).store.engine.state = .paused p
        ∧ (s.raiseOrPause p).store.engine.waiting = s.store.engine.waiting) := by
  by_cases normal : s.gov.state = .normal
  · rw [State.raiseOrPause_of_normal normal, State.raiseChunk_of_queue queue]
    exact ⟨rfl, rfl, fun _ => ⟨rfl, rfl, rfl⟩, fun hot => absurd normal hot⟩
  · rw [State.raiseOrPause_of_hot normal]
    exact ⟨rfl, rfl, fun h => absurd h normal, fun _ => ⟨rfl, rfl⟩⟩

theorem chunkReads_zero (base : Nat) :
    chunkReads base 0 = (List.range 16).map fun i => ⟨.read, base + i * 256, [], false⟩ := by
  rw [chunkReads_eq]
  simp only [Nat.zero_mul, Nat.add_zero]

/-- The store of a copy that starts, before its chunk is raised. -/
theorem State.startCopy_eq (queue : s.store.queue = q :: rest) (next : s.store.nextSeq = some n) :
    ∃ v : State, s.startCopy p = v.raiseOrPause p ∧ v.store = { s.store.onRec p (fun _ => q.copyingRec n) with
        order := s.store.order.erase p ++ [p], nextSeq := seqAfter n
        engine := { s.store.engine with chunk := 0 } }
      ∧ .record (.catalog p) ∈ v.recs.waiting ∧ (p ∉ s.store.order → .record .status ∈ v.recs.waiting)
      ∧ s.changesOnly [.store, .recs] v := by
  simp only [State.startCopy, queue, next]
  refine ⟨_, rfl, ?_, ?_, fun outside => ?_, fun b hb => ?_⟩
  · split <;> simp
  · split
    · exact RecordWriter.mem_request _ _
    · exact RecordWriter.mem_request_of_mem _ (RecordWriter.mem_request _ _)
  · rw [if_neg (by simpa using outside)]
    exact RecordWriter.mem_request _ _
  · cases b with
    | store | recs => simp at hb
    | _ =>
      simp only [Block.same]
      split <;> simp

theorem State.copyStarted_startCopy (queue : s.store.queue = q :: rest) (next : s.store.nextSeq = some n)
    (inside : p < s.store.catalog.length) : s.CopyStarted p n q (s.startCopy p) := by
  obtain ⟨v, eq, store, catalog, grows, frame⟩ := State.startCopy_eq (p := p) queue next
  have queue_v : v.store.queue = q :: rest := by
    rw [store]
    exact queue
  have gov : v.gov = s.gov := frame .gov (by simp)
  have slots : v.slots = s.slots := frame .slots (by simp)
  obtain ⟨kept, chunk, copies, pauses⟩ := State.raiseOrPause_store_eq (p := p) queue_v
  rw [gov, State.slotAddr, slots] at copies
  rw [gov] at pauses
  have entry (j : Nat) : (v.raiseOrPause p).store.recAt j =
      (s.store.onRec p (fun _ => q.copyingRec n)).recAt j := by
    rw [kept, store]
    rfl
  have chunk_v : v.store.engine.chunk = 0 := by rw [store]
  rw [eq]
  refine ⟨?_, fun j other => ?_, by rw [kept, store], by rw [kept, store], ?_, chunk.trans chunk_v, fun normal => ?_,
    fun hot => ?_, by simpa using catalog, fun outside => by simpa using grows outside, frame.trans fun b hb => ?_⟩
  · rw [entry, Store.recAt_onRec_self inside]
  · rw [entry, Store.recAt_onRec_of_ne other]
  · rw [kept, store]
    rfl
  · obtain ⟨state, -, waiting⟩ := copies normal
    rw [chunk_v, chunkReads_zero] at waiting
    exact ⟨state, waiting⟩
  · obtain ⟨state, waiting⟩ := pauses hot
    exact ⟨state, by rw [waiting, store]⟩
  · cases b with
    | store | recs => simp at hb
    | _ => simp [Block.same]

/-! ### The end of a request (R149, R157, R158) -/

theorem SlotTable.slot_dropCopy (k j : Nat) (t : SlotTable) :
    ((t.dropCopy k).slot j).copies = if j = k then (t.slot j).copies - 1 else (t.slot j).copies := by
  rw [SlotTable.dropCopy, SlotTable.slot_onSlot]
  by_cases same : j = k
  · subst same
    by_cases inside : j < t.slots.length
    · simp [inside]
    · simp [inside, SlotTable.slot_of_length_le (Nat.le_of_not_lt inside), Slot.reset]
  · simp [same]

/-- The head request of `s` has left the queue with outcome `o` and event `k`, which left `t`. -/
structure State.Popped (s : State) (o : Outcome) (k : EventKind) (q : Request) (rest : List Request) (t : State) :
    Prop where
  store : t.store = { s.store with queue := rest, outcome := o }
  event : t.notice.isPending k = true
  status : .record .status ∈ t.recs.waiting
  copies : ∀ j, (t.slots.slot j).copies = if j = q.slot then (s.slots.slot j).copies - 1 else (s.slots.slot j).copies
  recs : ∀ x ∈ s.recs.waiting, x ∈ t.recs.waiting
  faults : t.notice.faults = s.notice.faults
  frame : s.changesOnly [.store, .slots, .notice, .recs] t

theorem State.popped_popHead {o : Outcome} {k : EventKind} (queue : s.store.queue = q :: rest) :
    s.Popped o k q rest (s.popHead o k) := by
  refine ⟨State.popHead_store queue, ?_, ?_, fun j => ?_, fun x waits => ?_, ?_, fun b hb => ?_⟩
  · simp [State.popHead, queue]
  · simp [State.popHead, queue]
  · simp [State.popHead, queue, SlotTable.slot_dropCopy]
  · simp only [State.popHead, queue]
    exact RecordWriter.mem_request_of_mem _ (State.mem_raise_of_mem k waits)
  · simp [State.popHead, queue]
  · cases b with
    | store | slots | notice | recs => simp at hb
    | _ => simp [Block.same, State.popHead, queue]

/-! ### The next request (R150, R151) -/

theorem State.serveQueue_of_empty (fuel : Nat) (none : s.store.queue = []) : s.serveQueue fuel = s.copyIdle := by
  cases fuel with
  | zero => rfl
  | succ fuel => simp only [State.serveQueue, none]

theorem State.nextRequest_of_empty (none : s.store.queue = []) : s.nextRequest = s.copyIdle :=
  State.serveQueue_of_empty _ none

theorem State.nextRequest_of_target (queue : s.store.queue = q :: rest) (target : s.store.choose = .target p) :
    s.nextRequest = s.startCopy p := by
  simp only [State.nextRequest, queue, List.length_cons, State.serveQueue, target]

theorem State.nextRequest_of_waitOn (queue : s.store.queue = q :: rest) (waits : s.store.choose = .waitOn p) :
    s.nextRequest = s.onStore fun st => (st.onRec p fun r => { r with wanted := true }).onEngine fun e =>
      { e with state := .waiting p, waitCount := 0 } := by
  simp only [State.nextRequest, queue, List.length_cons, State.serveQueue, waits]

/-- A full store fails the requests one after the other (R151, R158). -/
structure State.AllFailed (s t : State) : Prop where
  store : t.store = { s.store with queue := [], outcome := .storeFull, engine := { s.store.engine with state := .idle } }
  event : t.notice.isPending .snapFailed = true
  status : .record .status ∈ t.recs.waiting
  copies : ∀ k, (t.slots.slot k).copies =
    (s.slots.slot k).copies - (s.store.queue.filter fun r => decide (r.slot = k)).length
  frame : s.changesOnly [.store, .slots, .notice, .recs] t

theorem State.allFailed_serveQueue : ∀ (fuel : Nat) {s : State}, s.store.queue.length ≤ fuel → s.store.queue ≠ [] →
    s.store.choose = .full → s.AllFailed (s.serveQueue fuel)
  | 0, s, short, busy, _ => absurd (List.length_eq_zero_iff.1 (Nat.le_zero.1 short)) busy
  | fuel + 1, s, short, busy, full => by
    obtain ⟨q, rest, queue⟩ := List.exists_cons_of_ne_nil busy
    have popped := State.popped_popHead (o := .storeFull) (k := .snapFailed) queue
    have served : s.serveQueue (fuel + 1) = (s.popHead .storeFull .snapFailed).serveQueue fuel := by
      simp only [State.serveQueue, queue, full]
    rw [served]
    have counted (k : Nat) : (s.store.queue.filter fun r => decide (r.slot = k)).length =
        (if k = q.slot then 1 else 0) + (rest.filter fun r => decide (r.slot = k)).length := by
      rw [queue, List.filter_cons]
      by_cases here : q.slot = k
      · simp [here, Nat.add_comm]
      · simp [here, Ne.symm here]
    by_cases last : rest = []
    · rw [State.serveQueue_of_empty fuel (by rw [popped.store]; exact last)]
      refine ⟨?_, popped.event, popped.status, fun k => ?_, popped.frame.trans fun b hb => ?_⟩
      · simp [State.copyIdle, Store.onEngine, popped.store, last]
      · refine (popped.copies k).trans ?_
        rw [counted, last]
        split <;> simp
      · cases b with
        | store | slots | notice | recs => simp at hb
        | _ => rfl
    · have failed := State.allFailed_serveQueue fuel (s := s.popHead .storeFull .snapFailed)
        (by rw [popped.store]; rw [queue] at short; exact Nat.le_of_succ_le_succ short)
        (by rw [popped.store]; exact last) (by rw [popped.store]; exact full)
      refine ⟨?_, failed.event, failed.status, fun k => ?_, popped.frame.trans failed.frame⟩
      · rw [failed.store, popped.store]
      · rw [failed.copies, popped.copies, popped.store, counted]
        dsimp only
        split <;> omega

end Sys2Proof.Machine
end

section
/-! A request's target is chosen; a wait ends by handover or by the timeout (R143, R150 to R153, R155, R163). -/

namespace Sys2Proof.Machine

variable {s t u : State} {st : Store} {p n k : Nat} {q : Request} {rest : List Request} {pos : BitVec 16}

/-! ### The choice (R151) -/

theorem Store.lowestFree_eq_some : st.lowestFree = some p ↔
    p < st.catalog.length ∧ (st.recAt p).state = .free ∧ ∀ j, j < p → (st.recAt j).state ≠ .free := by
  rw [Store.lowestFree, List.find?_range_eq_some, List.mem_range]
  simp only [decide_eq_true_eq, Bool.not_eq_true', decide_eq_false_iff_not]
  exact and_left_comm

theorem Store.lowestFree_eq_none : st.lowestFree = none ↔ ∀ p, p < st.catalog.length → (st.recAt p).state ≠ .free := by
  simp [Store.lowestFree]

theorem Store.choose_of_exhausted (next : st.nextSeq = none) : st.choose = .full := by
  simp only [Store.choose, next]

theorem Store.choose_of_free (next : st.nextSeq = some n) (free : st.lowestFree = some p) : st.choose = .target p := by
  simp only [Store.choose, next, free]

theorem Store.choose_of_keepAll (next : st.nextSeq = some n) (free : st.lowestFree = none) (keep : st.keepAll = true) :
    st.choose = .full := by
  simp only [Store.choose, next, free, keep, if_true]

theorem Store.choose_of_kept (next : st.nextSeq = some n) (free : st.lowestFree = none) (old : st.oldestUnkept = none) :
    st.choose = .full := by
  simp only [Store.choose, next, free, old]
  split <;> rfl

theorem Store.choose_of_oldest (next : st.nextSeq = some n) (free : st.lowestFree = none) (recycle : st.keepAll = false)
    (old : st.oldestUnkept = some p) : st.choose = if (st.recAt p).marked then .waitOn p else .target p := by
  simp only [Store.choose, next, free, recycle, old, Bool.false_eq_true, if_false]

theorem Store.oldestUnkept_of_split {pre post : List Nat} (order : st.order = pre ++ p :: post)
    (kept : ∀ j ∈ pre, (st.recAt j).kept = true) (unkept : (st.recAt p).kept = false) : st.oldestUnkept = some p := by
  rw [Store.oldestUnkept, order, List.find?_append, List.find?_eq_none.2 fun j hj => by simp [kept j hj]]
  simp [unkept]

theorem Store.oldestUnkept_eq_none (kept : ∀ j ∈ st.order, (st.recAt j).kept = true) : st.oldestUnkept = none :=
  List.find?_eq_none.2 fun j hj => by simp [kept j hj]

theorem Rec.marked_eq_false_iff {r : Rec} :
    r.marked = false ↔ r.claimed = false ∧ r.recallA = false ∧ r.recallB = false := by
  simp [Rec.marked, and_assoc]

theorem Rec.marked_iff {r : Rec} : r.marked = true ↔ r.claimed = true ∨ r.recallA = true ∨ r.recallB = true := by
  simp [Rec.marked, or_assoc]

/-! ### The handover (R143, R153, R163) -/

theorem State.handover_of_last (wanted : (s.store.recAt p).wanted = true) (unmarked : (s.store.recAt p).marked = false)
    (free : s.ring.restartDispatched = false) (early : s.store.engine.waitCount < s.store.waitLimit) :
    s.handover p = s.startCopy p := by
  simp [State.handover, wanted, unmarked, free, State.waitOver, early.not_ge]

theorem State.handover_of_restart (restarting : s.ring.restartDispatched = true) : s.handover p = s := by
  simp [State.handover, restarting]

/-- R22, R163: a RESTART dispatched is one that waits for its owners, or whose record is. -/
theorem Ring.restartDispatched_iff {r : Ring} : r.restartDispatched = true ↔ r.restarting = true
    ∨ ∃ i rec, r.flight = some ⟨i, .dispatched rec⟩ ∧ decodeDirective rec = .restart 0 := by
  rw [Ring.restartDispatched, Bool.or_eq_true]
  refine or_congr_right ⟨fun h => ?_, ?_⟩
  · unfold Ring.isDispatched at h
    split at h
    next i rec flight => exact ⟨i, rec, flight, of_decide_eq_true h⟩
    next => cases h
  · rintro ⟨i, rec, flight, names⟩
    exact (Ring.isDispatched_iff flight).2 names

theorem exec_directiveFetchResponse_okay {a : Nat} {data : List Byte} (running : s.notice.halted = false)
    (fetch : s.recs.fetchInFlight = some a) (length : data.length = 32) :
    exec (.directiveFetchResponse .okay data) s = .next
      ((s.onRecs fun w => { w with flight := w.flight.erase (.fetch a) }).dispatch data) := by
  simp only [exec, execDirectiveFetchResponse, fetch, length, ne_eq, not_true_eq_false, and_false, if_false,
    State.unlessHalted_of_not running]

/-! ### The timeout (R153) -/

theorem exec_waitLimitTimeout (running : s.notice.halted = false) (waits : s.store.engine.state = .waiting p) :
    exec .waitLimitTimeout s = .next (if s.store.waitLimit ≤ s.store.engine.waitCount then
      ((s.onStore (·.onRec p fun r => { r with wanted := false })).popHead .held .snapFailed).nextRequest else s) := by
  simp only [exec, execWaitLimitTimeout, State.unlessHalted_of_not running, waits, State.waitOver, decide_eq_true_eq]

/-! ### The obligation -/

theorem State.CopyStarted.changesOnly_of_onStore {f : Store → Store} (h : (s.onStore f).CopyStarted p n q t) :
    s.changesOnly [.store, .recs] t := by
  refine State.changesOnly.trans (fun b hb => ?_) h.frame
  cases b with
  | store | recs => simp at hb
  | _ => rfl

/-- Settles O55. -/
theorem waitEndsByHandoverOrTimeout : Obligations.WaitEndsByHandoverOrTimeout := by
  refine ⟨fun pos q rest n s running => ?_, fun pos s running => ?_, fun s => ⟨Ring.restartDispatched_iff, fun a i data
    running fetch flight length names => ?_⟩, fun p q rest s running waits queue => ⟨fun early => ?_, fun due => ?_⟩,
    fun s => ?_⟩
  · intro p r opened inside cataloged wanted claimed clearA clearB early free queue next
    have row := exec_release opened inside running
    rw [claimed, if_pos rfl] at row
    have entry : ((s.onStore (·.onRec p fun r => { r with claimed := false })).store.recAt p) =
        { r with claimed := false } := Store.recAt_onRec_self cataloged _
    have hands := State.handover_of_last (p := p) (s := s.onStore (·.onRec p fun r => { r with claimed := false }))
      (by rw [entry]; exact wanted) (by rw [entry]; exact Rec.marked_eq_false_iff.2 ⟨rfl, clearA, clearB⟩) free early
    have started := State.copyStarted_startCopy (p := p) (s := s.onStore (·.onRec p fun r => { r with claimed := false }))
      queue next (by simpa [Store.onRec] using cataloged)
    rw [State.unmark, hands] at row
    have frame := started.changesOnly_of_onStore
    generalize State.startCopy p (s.onStore (·.onRec p fun r => { r with claimed := false })) = v at row started frame
    refine ⟨_, row, ?_⟩
    have catalog : .record (.catalog p) ∈ (v.answer (.release pos) .done).recs.waiting :=
      State.record_mem_answer _ _ started.catalog
    rw [State.answer_store]
    refine ⟨started.entry, started.order, started.nextSeq, started.queue, started.chunk, started.copies, started.pauses,
      catalog, State.answer_lastStatus _ _ _, fun b hb => ?_⟩
    have before := frame b
    cases b with
    | store | recs | ring => simp at hb
    | _ => simpa [Block.same] using before
  · intro p opened inside claimed restarting
    rw [exec_release opened inside running, claimed, if_pos rfl, State.unmark,
      State.handover_of_restart (s := s.onStore _) restarting]
    rfl
  · refine ⟨_, exec_directiveFetchResponse_okay running fetch length, Ring.restartDispatched_iff.2 (.inr ⟨i, data, ?_, names⟩)⟩
    simp [State.dispatch, flight]
  · rw [exec_waitLimitTimeout running waits, if_neg early.not_ge]
  · have row := exec_waitLimitTimeout running waits
    rw [if_pos due] at row
    have popped := State.popped_popHead (s := s.onStore (·.onRec p fun r => { r with wanted := false })) (o := .held)
      (k := .snapFailed) (q := q) (rest := rest) queue
    refine ⟨_, row, popped.store, popped.event, popped.status, (popped.copies q.slot).trans (if_pos rfl),
      State.changesOnly.trans (fun b hb => ?_) popped.frame⟩
    cases b with
    | store | slots | notice | recs => simp at hb
    | _ => rfl
  · intro st t free copies
    have starts (p n : Nat) (q : Request) (rest : List Request) (queue : st.queue = q :: rest) (next : st.nextSeq = some n)
        (inside : p < st.catalog.length) (target : st.choose = .target p) : copies p n q := by
      have started := State.copyStarted_startCopy (s := s) queue next inside
      rw [← State.nextRequest_of_target (s := s) queue target] at started
      exact ⟨started.entry, started.others, started.order, started.nextSeq, started.queue, started.chunk, started.copies,
        started.pauses, started.catalog, started.grows, started.frame⟩
    have noneFree (none : ∀ j, ¬free j) : st.lowestFree = Option.none :=
      Store.lowestFree_eq_none.2 fun j inside isFree => none j ⟨inside, isFree⟩
    refine ⟨fun none => State.nextRequest_of_empty none, fun p n q rest queue next isFree first => ?_,
      fun p n q rest pre post queue next none recycle order inside kept unkept => ⟨fun unmarked => ?_, fun marked => ?_⟩,
      fun busy full => ?_⟩
    · have lowest : st.lowestFree = some p := Store.lowestFree_eq_some.2 ⟨isFree.1, isFree.2, fun j lower free =>
        first j lower ⟨Nat.lt_trans lower isFree.1, free⟩⟩
      exact starts p n q rest queue next isFree.1 (Store.choose_of_free next lowest)
    · have chosen := Store.choose_of_oldest next (noneFree none) recycle (Store.oldestUnkept_of_split order kept unkept)
      rw [Rec.marked_eq_false_iff.2 unmarked] at chosen
      exact starts p n q rest queue next inside chosen
    · have chosen := Store.choose_of_oldest next (noneFree none) recycle (Store.oldestUnkept_of_split order kept unkept)
      rw [if_pos (Rec.marked_iff.2 marked)] at chosen
      exact State.nextRequest_of_waitOn queue chosen
    · have chosen : st.choose = .full := by
        cases next : st.nextSeq with
        | none => exact Store.choose_of_exhausted next
        | some n =>
          obtain exhausted | ⟨none, keep | kept⟩ := full
          · exact absurd (next.symm.trans exhausted) nofun
          · exact Store.choose_of_keepAll next (noneFree none) keep
          · exact Store.choose_of_kept next (noneFree none) (Store.oldestUnkept_eq_none kept)
      have failed := State.allFailed_serveQueue s.store.queue.length (le_refl _) busy chosen
      exact ⟨failed.store, failed.event, failed.status, failed.copies, failed.frame⟩

end Sys2Proof.Machine
end

section
/-! Chunk responses (R150, R156 to R158, R163, R170) and where slots and entries begin (R31, R134). -/

namespace Sys2Proof.Machine

variable {s t u : State} {p addr : Nat} {d : Dir} {r : Resp} {x : ChunkTxn} {data : List Byte} {q : Request}
  {rest : List Request}

/-! ### The row -/

/-- The row of a class E response of direction `d`. -/
def chunkRow (d : Dir) (addr : Nat) (r : Resp) (data : List Byte) : Instr :=
  match d with
  | .read => .chunkReadResponse addr r data
  | .write => .chunkWriteResponse addr r

/-- The data a class E response brings. -/
def chunkData (d : Dir) (data : List Byte) : List Byte :=
  match d with
  | .read => data
  | .write => []

theorem exec_chunkRow (running : s.notice.halted = false) (whole : d = .read → data.length = 256) :
    exec (chunkRow d addr r data) s = .next (s.chunkResponse d addr r (chunkData d data)) := by
  cases d with
  | read =>
    have length := whole rfl
    simp only [chunkRow, chunkData, exec, execChunkReadResponse, length, ne_eq, not_true_eq_false, and_false, if_false,
      State.unlessHalted_of_not running]
  | write => simp only [chunkRow, chunkData, exec, execChunkWriteResponse, State.unlessHalted_of_not running]

/-- The transaction a response answers. -/
def CopyEngine.answered (d : Dir) (addr : Nat) (e : CopyEngine) : Option ChunkTxn :=
  e.flight.find? fun y => decide (y.dir = d ∧ y.addr = addr)

theorem State.chunkResponse_of_none (none : s.store.engine.answered d addr = none) :
    s.chunkResponse d addr r data = s := by
  have none : s.store.engine.flight.find? (ChunkTxn.answers d addr) = .none := none
  simp only [State.chunkResponse, none]

/-- A chunk's transaction leaves the flight. -/
def State.landed (x : ChunkTxn) (s : State) : State :=
  s.onStore (·.onEngine fun e => { e with flight := e.flight.erase x })

theorem State.chunkResponse_of_stale (found : s.store.engine.answered d addr = some x) (stale : x.stale = true) :
    s.chunkResponse d addr r data = (s.landed x).finishRestart := by
  have found : s.store.engine.flight.find? (ChunkTxn.answers d addr) = some x := found
  simp only [State.chunkResponse, found, stale, if_true]
  rfl

theorem State.chunkResponse_of_live (found : s.store.engine.answered d addr = some x) (live : x.stale = false)
    (idle : s.ring.restarting = false) : s.chunkResponse d addr r data = (s.landed x).chunkReturned x r data := by
  have found : s.store.engine.flight.find? (ChunkTxn.answers d addr) = some x := found
  simp only [State.chunkResponse, found, live, Bool.false_eq_true, if_false]
  exact State.finishRestart_of_not_restarting (by simpa using idle)

/-! ### What a response brings the engine (R156, R158) -/

/-- The engine after the response of transaction `x`, which it keeps or whose failure it remembers. -/
def CopyEngine.took (x : ChunkTxn) (r : Resp) (data : List Byte) (e : CopyEngine) : CopyEngine :=
  match r with
  | .error => { e with failAddr := some (e.failAddr.getD x.addr) }
  | .okay => if x.dir = .read then { e with buffer := e.buffer ++ [(x.addr % 4096, data)] } else e

theorem CopyEngine.took_okay_read (read : x.dir = .read) (e : CopyEngine) :
    e.took x .okay data = { e with buffer := e.buffer ++ [(x.addr % 4096, data)] } := if_pos read

theorem CopyEngine.took_okay_write (write : x.dir = .write) (e : CopyEngine) : e.took x .okay data = e :=
  if_neg (by simp [write])

theorem CopyEngine.took_chunkDone (e : CopyEngine) : (e.took x r data).chunkDone = e.chunkDone := by
  unfold CopyEngine.took
  split
  · rfl
  · split <;> rfl

theorem CopyEngine.chunkDone_iff {e : CopyEngine} :
    e.chunkDone = true ↔ e.waiting = [] ∧ ∀ y ∈ e.flight, y.stale = true := by
  simp [CopyEngine.chunkDone]

theorem State.chunkReturned_eq (copies : s.store.engine.state = .copying p) : s.chunkReturned x r data =
    if s.store.engine.chunkDone then
      (if x.dir = .read then (s.onStore (·.onEngine (.took x r data))).readsReturned p
        else (s.onStore (·.onEngine (.took x r data))).writesReturned p)
    else s.onStore (·.onEngine (.took x r data)) := by
  have done : (s.onStore (·.onEngine (.took x r data))).store.engine.chunkDone = s.store.engine.chunkDone :=
    CopyEngine.took_chunkDone s.store.engine
  rw [← done]
  simp only [State.chunkReturned, copies]
  rfl

/-! ### Ends of a copy (R157, R158) -/

/-- The copy into record `p` for request `q` has ended with outcome `o` and event `k`, from `s`; `t` is what it leaves
before the engine takes the next request. -/
structure State.CopyEnded (s : State) (p : Nat) (o : Outcome) (k : EventKind) (q : Request) (rest : List Request)
    (t : State) : Prop where
  queue : t.store.queue = rest
  outcome : t.store.outcome = o
  engine : t.store.engine = s.store.engine
  event : t.notice.isPending k = true
  copies : (t.slots.slot q.slot).copies = (s.slots.slot q.slot).copies - 1
  catalog : .record (.catalog p) ∈ t.recs.waiting
  status : .record .status ∈ t.recs.waiting
  frame : s.changesOnly [.store, .slots, .notice, .recs] t

/-- R150: without another request the engine is IDLE. -/
theorem State.CopyEnded.rests {o : Outcome} {k : EventKind} (h : s.CopyEnded p o k q rest t) (none : rest = []) :
    t.nextRequest = { t with store := { t.store with engine := { t.store.engine with state := .idle } } } :=
  State.nextRequest_of_empty (h.queue.trans none)

/-- R157: the copy completes. -/
theorem State.copyComplete_eq (queue : s.store.queue = q :: rest) : ∃ u, s.copyComplete p = u.nextRequest
    ∧ u.store = { s.store.onRec p (fun r => { r with state := .saved }) with queue := rest, outcome := .saved }
    ∧ s.CopyEnded p .saved .snapDone q rest u := by
  have popped := State.popped_popHead (s := (s.onStore (·.onRec p fun r => { r with state := .saved })).request (.catalog p))
    (o := .saved) (k := .snapDone) (q := q) (rest := rest) queue
  refine ⟨_, rfl, popped.store, ?_⟩
  refine ⟨by rw [popped.store], by rw [popped.store], by rw [popped.store]; rfl, popped.event,
    (popped.copies q.slot).trans (if_pos rfl), popped.recs _ (RecordWriter.mem_request _ _), popped.status,
    State.changesOnly.trans (fun b hb => ?_) popped.frame⟩
  cases b with
  | store | slots | notice | recs => simp at hb
  | _ => rfl

/-- R158: the copy fails. -/
theorem State.copyFailed_eq {k : FaultKind} {a : Nat} (queue : s.store.queue = q :: rest) :
    ∃ u, s.copyFailed p k a = u.nextRequest
      ∧ u.store = { s.store.freeRec p with queue := rest, outcome := .io }
      ∧ u.notice.faults = s.notice.faults + 1
      ∧ .given (.fault s.notice.place) (faultRecord (s.notice.faults + 1) k .store a q.frame (.entry p)) ∈ u.recs.waiting
      ∧ s.CopyEnded p .io .snapFailed q rest u := by
  generalize freed : (s.onStore (·.freeRec p)).request (.catalog p) = v
  have store : v.store = s.store.freeRec p := by simp [← freed]
  have notice : v.notice = s.notice := by simp [← freed]
  have slots : v.slots = s.slots := by simp [← freed]
  have catalog : .record (.catalog p) ∈ v.recs.waiting := by
    rw [← freed]
    exact RecordWriter.mem_request _ _
  have queue_v : (v.logFault k .store a q.frame (.entry p)).store.queue = q :: rest := by
    rw [State.logFault_store, store]
    exact queue
  have popped := State.popped_popHead (o := .io) (k := .snapFailed) queue_v
  have frame : s.store.queue.head?.map (·.frame) = some q.frame := by rw [queue]; rfl
  refine ⟨_, ?_, by rw [popped.store, State.logFault_store, store], ?_, ?_, ?_⟩
  · simp only [State.copyFailed, frame, Option.getD_some, freed]
  · rw [popped.faults, State.logFault_faults, notice]
  · rw [← notice]
    exact popped.recs _ (State.fault_mem_logFault ..)
  · refine ⟨by rw [popped.store], by rw [popped.store], ?_, popped.event, ?_, popped.recs _ ?_, popped.status,
      State.changesOnly.trans (fun b hb => ?_) popped.frame⟩
    · rw [popped.store, State.logFault_store, store]
      rfl
    · rw [popped.copies, if_pos rfl, State.logFault_slots, slots]
    · exact State.mem_logFault_of_mem _ _ _ _ _ catalog fun _ => rfl
    · cases b with
      | store | slots | notice | recs => simp at hb
      | _ => simp [Block.same, ← freed]

/-! ### The addresses (R31, R134) -/

theorem roundPage_eq (n : Nat) : roundPage n = if n % 4096 = 0 then n else (n / 4096 + 1) * 4096 := by
  unfold roundPage
  rw [show Config.page = 4096 from rfl]
  split <;> omega

theorem State.slotAddr_of_geom {g : SlotGeom} (geom : s.slots.geom = some g) (k : Nat) :
    s.slotAddr k = g.base + k * g.frameSize := by
  simp only [State.slotAddr, geom]

theorem State.entryAddr_of_geom {g : StoreGeom} (geom : s.store.geom = some g) (p : Nat) :
    s.entryAddr p = g.base + catalogEnd g.e + p * g.entrySize := by
  simp only [State.entryAddr, geom]
  rfl

theorem chunkWrites_eq (base k : Nat) (b : List (Nat × List Byte)) : chunkWrites base k b =
    (List.range 16).map fun i => ⟨.write, base + k * 4096 + i * 256,
      ((b.find? fun e => decide (e.1 = i * 256)).map (·.2)).getD [], false⟩ := by
  have held (o : Nat) : bufferAt b o = ((b.find? fun e => decide (e.1 = o)).map (·.2)).getD [] := by
    unfold bufferAt
    cases b.find? fun e => decide (e.1 = o) <;> rfl
  simp [chunkWrites, chunkOffsets, Function.comp_def, held]

end Sys2Proof.Machine
end

section
/-! Chunk responses drive the copy (R156 to R158, R163): the obligation. -/

namespace Sys2Proof.Machine

variable {s t u : State} {p addr : Nat} {d : Dir} {r : Resp} {x : ChunkTxn} {data : List Byte} {q : Request}
  {rest : List Request}

theorem CopyEngine.answered_spec {e : CopyEngine} (found : e.answered d addr = some x) :
    x ∈ e.flight ∧ x.dir = d ∧ x.addr = addr := by
  have holds := List.find?_some found
  simp only [decide_eq_true_eq] at holds
  exact ⟨List.mem_of_find?_eq_some found, holds⟩

/-- R158: a response that is an error, or comes after one, leaves the first failing address. -/
theorem CopyEngine.took_failAddr {e : CopyEngine} (failed : r = .error ∨ e.failAddr ≠ none) :
    (e.took x r data).failAddr = some (e.failAddr.getD x.addr) := by
  cases r with
  | error => rfl
  | okay =>
    have some := failed.resolve_left nofun
    obtain ⟨a, ha⟩ := Option.ne_none_iff_exists'.1 some
    unfold CopyEngine.took
    dsimp only
    split <;> simp [ha]

/-- The stored part of O56's failing chunk: the kind of fault follows the direction. -/
theorem State.chunkReturned_of_failed (copies : s.store.engine.state = .copying p) (done : s.store.engine.chunkDone = true)
    (failed : r = .error ∨ s.store.engine.failAddr ≠ none) : s.chunkReturned x r data =
      (s.onStore (·.onEngine (.took x r data))).copyFailed p (if x.dir = .read then .copyRead else .copyWrite)
        (s.store.engine.failAddr.getD x.addr) := by
  have fail : (s.onStore (·.onEngine (.took x r data))).store.engine.failAddr
      = some (s.store.engine.failAddr.getD x.addr) := CopyEngine.took_failAddr failed
  rw [State.chunkReturned_eq copies, if_pos done]
  split <;> simp only [State.readsReturned, State.writesReturned, fail]

theorem State.chunkReturned_of_reads (copies : s.store.engine.state = .copying p) (done : s.store.engine.chunkDone = true)
    (clean : s.store.engine.failAddr = none) (read : x.dir = .read) : s.chunkReturned x .okay data =
      s.onStore (·.onEngine fun e => { e with
        buffer := e.buffer ++ [(x.addr % 4096, data)], writing := true
        waiting := chunkWrites (s.entryAddr p) e.chunk (e.buffer ++ [(x.addr % 4096, data)]) }) := by
  have clean : (s.onStore (·.onEngine (.took x .okay data))).store.engine.failAddr = none := by
    refine (congrArg CopyEngine.failAddr (CopyEngine.took_okay_read read s.store.engine)).trans clean
  rw [State.chunkReturned_eq copies, if_pos done, if_pos read]
  simp only [State.readsReturned, clean]
  refine congrArg (fun e => ({ s with store := { s.store with engine := e } } : State)) ?_
  rw [State.onStore_store, Store.onEngine, CopyEngine.took_okay_read read]
  rfl

/-- The engine after its chunk's writes: the index has advanced. -/
def State.chunkWritten (s : State) : State :=
  s.onStore (·.onEngine fun e => { e with chunk := e.chunk + 1, writing := false })

theorem State.chunkReturned_of_writes (copies : s.store.engine.state = .copying p) (done : s.store.engine.chunkDone = true)
    (clean : s.store.engine.failAddr = none) (write : x.dir = .write) (queue : s.store.queue = q :: rest) :
    s.chunkReturned x .okay data = if frameSize q.width q.height / 4096 ≤ s.store.engine.chunk + 1
      then s.chunkWritten.copyComplete p else s.chunkWritten.raiseOrPause p := by
  have same : s.onStore (·.onEngine (.took x .okay data)) = s :=
    congrArg (fun e => ({ s with store := { s.store with engine := e } } : State))
      (CopyEngine.took_okay_write write s.store.engine)
  rw [State.chunkReturned_eq copies, if_pos done, if_neg (by simp [write]), same]
  simp only [State.writesReturned, clean, queue]
  rfl

/-- Settles O56. -/
theorem chunkResponsesDriveTheCopy : Obligations.ChunkResponsesDriveTheCopy := by
  refine ⟨fun p addr d x data q rest s running copies idle found live queue whole => ?_,
    fun addr d r data s running whole => ?_, fun e w h p k s => ?_⟩
  · intro c e flight last next total ends
    have row (r : Resp) : exec (c r) s = .next ((s.landed x).chunkReturned x r (chunkData d data)) := by
      have row := exec_chunkRow (addr := addr) (r := r) running whole
      rw [State.chunkResponse_of_live found live idle] at row
      rw [← row]
      cases d <;> rfl
    obtain ⟨-, dir, address⟩ := CopyEngine.answered_spec found
    have engine : (s.landed x).store.engine = { e with flight := flight } := rfl
    have copies' : (s.landed x).store.engine.state = .copying p := copies
    have done_iff : (s.landed x).store.engine.chunkDone = true ↔ last := CopyEngine.chunkDone_iff
    have ends_of {o : Outcome} {k : EventKind} {v u : State} (h : v.CopyEnded p o k q rest u) (slots : v.slots = s.slots)
        (others : s.changesOnly [.store, .slots, .notice, .recs] v) : ends u :=
      ⟨slots ▸ h.copies, h.catalog, h.status, others.trans h.frame, h.rests⟩
    have onStoreOnly (f : Store → Store) (v : State) (h : s.changesOnly [.store, .slots, .notice, .recs] v) :
        s.changesOnly [.store, .slots, .notice, .recs] (v.onStore f) := by
      refine h.trans fun b hb => ?_
      cases b with
      | store | slots | notice | recs => simp at hb
      | _ => rfl
    have landedOnly : s.changesOnly [.store, .slots, .notice, .recs] (s.landed x) :=
      onStoreOnly _ s fun b _ => by cases b <;> rfl
    refine ⟨fun early => ?_, fun isLast clean read => ?_, fun isLast clean write more => ?_,
      fun isLast clean write full => ?_, fun r isLast failed => ?_⟩
    · have undone : (s.landed x).store.engine.chunkDone ≠ true := fun h => early (done_iff.1 h)
      refine ⟨?_, ?_⟩
      · rw [row, State.chunkReturned_eq copies', if_neg undone]
        refine congrArg (fun e => Host.Outcome.next ({ s with store := { s.store with engine := e } } : State)) ?_
        cases d with
        | read => rw [CopyEngine.took_okay_read dir, address]; rfl
        | write => rw [CopyEngine.took_okay_write dir]; rfl
      · rw [row, State.chunkReturned_eq copies', if_neg undone, ← address]
        rfl
    · subst read
      rw [row, State.chunkReturned_of_reads copies' (done_iff.2 isLast) clean dir]
      simp only [chunkWrites_eq, address]
      rfl
    · subst write
      rw [row, State.chunkReturned_of_writes copies' (done_iff.2 isLast) clean dir queue,
        if_neg (show ¬frameSize q.width q.height / 4096 ≤ (s.landed x).store.engine.chunk + 1 from Nat.not_le.2 more)]
      obtain ⟨kept, chunk, raised, paused⟩ := State.raiseOrPause_store_eq (p := p) (s := (s.landed x).chunkWritten)
        (q := q) (rest := rest) queue
      refine ⟨_, rfl, ?_, chunk, fun normal => ?_, fun hot => ?_, fun b hb => ?_⟩
      · rw [kept]
        rfl
      · obtain ⟨state, buffer, waiting⟩ := raised normal
        refine ⟨state, buffer, ?_⟩
        rw [waiting, chunkReads_eq]
        rfl
      · obtain ⟨state, waiting⟩ := paused hot
        exact ⟨state, waiting.trans isLast.1⟩
      · cases b with
        | store => simp at hb
        | _ => simp [Block.same, State.chunkWritten, State.landed]
    · subst write
      rw [row, State.chunkReturned_of_writes copies' (done_iff.2 isLast) clean dir queue,
        if_pos (show frameSize q.width q.height / 4096 ≤ (s.landed x).store.engine.chunk + 1 from full)]
      obtain ⟨u, eq, store, ended⟩ := State.copyComplete_eq (p := p) (s := (s.landed x).chunkWritten) (q := q)
        (rest := rest) queue
      refine ⟨u, congrArg _ eq, ?_, ended.event, ends_of ended rfl (onStoreOnly _ _ landedOnly)⟩
      rw [store]
      rfl
    · rw [row, State.chunkReturned_of_failed copies' (done_iff.2 isLast) failed, dir, address]
      obtain ⟨u, eq, store, faults, fault, ended⟩ := State.copyFailed_eq (p := p)
        (k := if d = .read then .copyRead else .copyWrite) (a := e.failAddr.getD addr)
        (s := (s.landed x).onStore (·.onEngine (.took x r (chunkData d data)))) (q := q) (rest := rest) queue
      refine ⟨u, congrArg _ eq, ?_, ended.event, faults, fault, ends_of ended rfl (onStoreOnly _ _ landedOnly)⟩
      rw [store]
      rfl
  · intro c found
    have row : exec c s = .next (s.chunkResponse d addr r (chunkData d data)) := by
      rw [← exec_chunkRow (addr := addr) (r := r) running whole]
      cases d <;> rfl
    refine ⟨fun none => ?_, fun x isFound stale => ?_⟩
    · rw [row, State.chunkResponse_of_none none]
    · intro s' done
      have row : exec c s = .next s'.finishRestart := by
        rw [row, State.chunkResponse_of_stale isFound stale]
        rfl
      obtain ⟨mem, -, -⟩ := CopyEngine.answered_spec isFound
      have emptied : s.store.engine.flight.erase x = [] ↔ s.store.engine.flight = [x] := by
        refine ⟨fun h => ?_, fun h => by rw [h, List.erase_cons_head]⟩
        have perm := List.perm_cons_erase mem
        rw [h] at perm
        exact List.perm_singleton.1 perm
      have settled_iff : s'.ring.restarting = true ∧ s'.restartSettled = true ↔ done := by
        rw [State.restartSettled_iff]
        exact and_congr_right' (and_congr_right' (and_congr_right' (and_congr_right' emptied)))
      refine ⟨fun notDone => ?_, fun isDone => ?_⟩
      · rw [row]
        by_cases restarting : s.ring.restarting = true
        · rw [State.finishRestart_of_not_settled]
          exact Bool.eq_false_iff.2 fun settled => notDone (settled_iff.1 ⟨restarting, settled⟩)
        · rw [State.finishRestart_of_not_restarting (s := s') (Bool.eq_false_iff.2 restarting)]
      · obtain ⟨restarting, settled⟩ := settled_iff.2 isDone
        obtain ⟨cleared, answers⟩ := State.finishRestart_answers (s := s) (u := s') settled restarting rfl
        refine ⟨_, row, by simp, cleared, answers, fun b hb => ?_⟩
        cases b with
        | store | ring | recs => simp at hb
        | _ => simp [Block.same, s']
  · exact ⟨roundPage_eq _, roundPage_eq _, fun g geom => State.entryAddr_of_geom geom p,
      fun g geom => State.slotAddr_of_geom geom k⟩

end Sys2Proof.Machine
end

section
/-! RECALL marks removed in turn (R113, R143, R153, R163): where none hands its record over, and where one does. -/

namespace Sys2Proof.Machine

variable {s t u : State} {x : OutId} {p n : Nat} {q : Request} {rest : List Request}

/-- A removal that hands no record over. -/
theorem State.handover_of_kept (kept : s.ring.restartDispatched = true ∨ (s.store.recAt p).wanted = false) :
    s.handover p = s :=
  kept.elim State.handover_of_restart State.handover_of_not_wanted

/-- From `s` to `t` the RECALL_x marks of the records in `l` have been removed, and nothing else has changed. -/
structure State.Unrecalled (s : State) (x : OutId) (l : List Nat) (t : State) : Prop where
  entry : ∀ j, t.store.recAt j = if j ∈ l then (s.store.recAt j).setRecall x false else s.store.recAt j
  length : t.store.catalog.length = s.store.catalog.length
  eq : t = s.onStore fun st => { st with catalog := t.store.catalog }

theorem Rec.setRecall_of_not_recalled {r : Rec} (h : r.recalled x = false) : r.setRecall x false = r := by
  cases x
  · simp only [Rec.recalled] at h
    simp [Rec.setRecall, ← h]
  · simp only [Rec.recalled] at h
    simp [Rec.setRecall, ← h]

theorem Rec.setRecall_blank (x : OutId) : Rec.blank.setRecall x false = Rec.blank := by cases x <;> rfl

theorem Rec.setRecall_setRecall (x : OutId) (r : Rec) : (r.setRecall x false).setRecall x false = r.setRecall x false := by
  cases x <;> rfl

theorem Store.recAt_setRecall (x : OutId) (p j : Nat) (st : Store) : (st.onRec p (Rec.setRecall x false)).recAt j =
    if j = p then (st.recAt j).setRecall x false else st.recAt j := by
  rw [Store.recAt_onRec]
  by_cases same : j = p
  · subst same
    by_cases inside : j < st.catalog.length
    · simp [inside]
    · simp [inside, Store.recAt_of_length_le (Nat.le_of_not_lt inside), Rec.setRecall_blank]
  · simp [same]

/-- One mark removed, or not there to remove, without a handover. -/
theorem State.unrecalled_one (kept : s.ring.restartDispatched = true ∨ (s.store.recAt p).wanted = false) :
    s.Unrecalled x [p] (if (s.store.recAt p).recalled x then s.unmark p (Rec.setRecall x false) else s) := by
  by_cases marked : (s.store.recAt p).recalled x = true
  · have entry := Store.recAt_setRecall x p p s.store
    rw [if_pos rfl] at entry
    rw [if_pos marked, State.unmark, State.handover_of_kept (s := s.onStore _) ?_]
    · exact ⟨fun j => by simpa using Store.recAt_setRecall x p j s.store, List.length_modify .., rfl⟩
    · refine kept.imp id fun unwanted => ?_
      rw [State.onStore_store, entry, Rec.setRecall_wanted]
      exact unwanted
  · rw [if_neg marked]
    refine ⟨fun j => ?_, rfl, rfl⟩
    split
    next mem =>
      rw [List.mem_singleton] at mem
      subst mem
      rw [Rec.setRecall_of_not_recalled (Bool.eq_false_iff.2 marked)]
    next => rfl

theorem State.Unrecalled.wanted {l : List Nat} (h : s.Unrecalled x l t) (j : Nat) :
    (t.store.recAt j).wanted = (s.store.recAt j).wanted := by
  rw [h.entry]
  split
  · rw [Rec.setRecall_wanted]
  · rfl

theorem State.Unrecalled.ring {l : List Nat} (h : s.Unrecalled x l t) : t.ring = s.ring := by
  rw [h.eq]
  rfl

/-- All the marks of output `x` in `l` removed, with no record handed over. -/
theorem State.unrecalled_dropRecalls : ∀ (l : List Nat) {s : State},
    s.ring.restartDispatched = true ∨ (∀ p ∈ l, (s.store.recAt p).wanted = false) →
    s.Unrecalled x l (s.dropRecalls x l)
  | [], s, _ => ⟨fun _ => by simp [State.dropRecalls], rfl, rfl⟩
  | p :: l, s, kept => by
    have one : s.Unrecalled x [p] _ := State.unrecalled_one (kept.imp id fun none => none p List.mem_cons_self)
    rw [State.dropRecalls]
    generalize (if (s.store.recAt p).recalled x then s.unmark p (Rec.setRecall x false) else s) = v at one ⊢
    have more := State.unrecalled_dropRecalls l (s := v) (by
      rw [one.ring]
      exact kept.imp id fun none j mem => (one.wanted j).trans (none j (List.mem_cons_of_mem p mem)))
    refine ⟨fun j => ?_, more.length.trans one.length, ?_⟩
    · rw [more.entry, one.entry]
      by_cases here : j = p
      · by_cases again : j ∈ l <;> simp [here, Rec.setRecall_setRecall]
      · simp [here]
    · rw [more.eq, one.eq]
      rfl

theorem State.dropRecalls_append (x : OutId) : ∀ (l l' : List Nat) (s : State),
    s.dropRecalls x (l ++ l') = (s.dropRecalls x l).dropRecalls x l'
  | [], _, _ => rfl
  | p :: l, l', s => by
    rw [List.cons_append, State.dropRecalls, State.dropRecalls, State.dropRecalls_append]

/-- R143, R153: among marks removed in turn, the last one of the WANTED record `p` hands it over. -/
theorem State.dropRecalls_handover {l : List Nat} {r : Rec} (mem : p ∈ l) (nodup : l.Nodup) (entry : s.store.recAt p = r)
    (inside : p < s.store.catalog.length) (wanted : r.wanted = true) (claimed : r.claimed = false)
    (recalled : r.recalled x = true) (other : r.recalled (otherOut x) = false)
    (alone : ∀ j, j ≠ p → (s.store.recAt j).wanted = false) (free : s.ring.restartDispatched = false)
    (early : s.store.engine.waitCount < s.store.waitLimit) (queue : s.store.queue = q :: rest)
    (next : s.store.nextSeq = some n) :
    ∃ v : State, v.store.order = s.store.order ∧ v.gov = s.gov ∧ ∃ t, v.CopyStarted p n q t
      ∧ ∃ l', p ∉ l' ∧ t.Unrecalled x l' (s.dropRecalls x l) := by
  obtain ⟨pre, post, rfl⟩ := List.append_of_mem mem
  obtain ⟨-, tail, apart⟩ := List.nodup_append.1 nodup
  have notPre : p ∉ pre := fun h => apart p h p List.mem_cons_self rfl
  have notPost : p ∉ post := (List.nodup_cons.1 tail).1
  have before : s.Unrecalled x pre _ :=
    State.unrecalled_dropRecalls pre (.inr fun j hj => alone j fun same => notPre (same ▸ hj))
  have entry' : (s.dropRecalls x pre).store.recAt p = r := by rw [before.entry, if_neg notPre, entry]
  have store : (s.dropRecalls x pre).store = { s.store with catalog := (s.dropRecalls x pre).store.catalog } := by
    conv_lhs => rw [before.eq]
    rfl
  have gov : (s.dropRecalls x pre).gov = s.gov := by
    rw [before.eq]
    rfl
  rw [State.dropRecalls_append, State.dropRecalls, entry', if_pos recalled]
  generalize s.dropRecalls x pre = w at *
  have self : ((w.onStore (·.onRec p (Rec.setRecall x false))).store.recAt p) = r.setRecall x false := by
    rw [State.onStore_store, Store.recAt_setRecall, if_pos rfl, entry']
  have unmarked : (r.setRecall x false).marked = false := by
    rw [Rec.marked_eq_false_iff]
    cases x
    · exact ⟨claimed, rfl, other⟩
    · exact ⟨claimed, other, rfl⟩
  have hands : w.unmark p (Rec.setRecall x false) = (w.onStore (·.onRec p (Rec.setRecall x false))).startCopy p := by
    refine State.handover_of_last ?_ ?_ ?_ ?_
    · rw [self, Rec.setRecall_wanted]
      exact wanted
    · rw [self]
      exact unmarked
    · rw [State.onStore_ring, before.ring]
      exact free
    · rw [State.onStore_store, store]
      exact early
  have started := State.copyStarted_startCopy (p := p) (s := w.onStore (·.onRec p (Rec.setRecall x false)))
    (q := q) (rest := rest) (n := n) (by rw [State.onStore_store, store]; exact queue)
    (by rw [State.onStore_store, store]; exact next) (by
      refine (List.length_modify ..).trans_gt ?_
      exact before.length ▸ inside)
  rw [hands]
  refine ⟨w.onStore (·.onRec p (Rec.setRecall x false)), by rw [State.onStore_store, store]; rfl, gov, _, started, post,
    notPost, State.unrecalled_dropRecalls post (.inr fun j hj => ?_)⟩
  have away : j ≠ p := fun same => notPost (same ▸ hj)
  rw [started.others j away, State.onStore_store, Store.recAt_setRecall, if_neg away, before.wanted]
  exact alone j away

/-- A record of no position in the list stays as it is: a handover starts a copy into a record of the list. -/
theorem State.dropRecalls_recAt_of_not_mem : ∀ (l : List Nat) {s : State}, p ∉ l →
    (s.dropRecalls x l).store.recAt p = s.store.recAt p
  | [], _, _ => rfl
  | j :: l, s, outside => by
    obtain ⟨away, later⟩ := not_or.1 fun mem => outside (List.mem_cons.2 mem)
    rw [State.dropRecalls, State.dropRecalls_recAt_of_not_mem l later]
    split
    · obtain same | ⟨here, -⟩ := (s.onStore (·.onRec j (Rec.setRecall x false))).handover_recAt j p
      · exact same.trans (by rw [State.onStore_store, Store.recAt_setRecall, if_neg away])
      · exact absurd here away
    · rfl

end Sys2Proof.Machine
end

section
/-! Fetches raised into free places (R126), and the first luma row's at an output frame start (R116). -/

namespace Sys2Proof.Machine

variable {e : Engine} {p : Plane} {k : FetchKind} {j r : Nat} {needed : List Nat} {l : Latch} {g : OutGeom}

/-! ### One fetch -/

theorem PlaneCache.takePlace_of_free {pl : CachePlace} {c : PlaneCache} (free : c.places.length < 4) :
    c.takePlace needed pl = some { c with places := c.places ++ [pl] } := if_pos free

/-- R126: a fetch of a row without a place is raised when it gets one. -/
theorem Engine.fetchRow_of_taken {c : PlaneCache} (unplaced : (e.cache p).place? j = none)
    (sound : (e.cache p).failed? j = none)
    (taken : (e.cache p).takePlace needed (fetchingPlace j k (e.rowReads p j)) = some c) :
    e.fetchRow p k needed j = (e.onCache p fun _ => { c with
      waiting := c.waiting.filter fun w => decide (w.1 ≠ j) }).raiseReads p j (e.rowReads p j) := by
  simp only [Engine.fetchRow, unplaced, sound, Option.isSome_none, Bool.or_self, Bool.false_eq_true, if_false,
    Engine.tryFetch, taken]
  cases p <;> rfl

/-- R126: a row that has a place or is FAILED is not fetched. -/
theorem Engine.fetchRow_of_placed (known : (e.cache p).place? j ≠ none ∨ (e.cache p).failed? j ≠ none) :
    e.fetchRow p k needed j = e := by
  have known : (((e.cache p).place? j).isSome || ((e.cache p).failed? j).isSome) = true := by
    simpa [Option.isSome_iff_ne_none] using known
  simp only [Engine.fetchRow, known, if_true]

/-- R126: a fetch that finds no place waits for one. -/
theorem Engine.fetchRow_of_full (unplaced : (e.cache p).place? j = none) (sound : (e.cache p).failed? j = none)
    (full : (e.cache p).takePlace needed (fetchingPlace j k (e.rowReads p j)) = none) :
    e.fetchRow p k needed j = e.onCache p (·.await j k) := by
  simp only [Engine.fetchRow, unplaced, sound, Option.isSome_none, Bool.or_self, Bool.false_eq_true, if_false,
    Engine.tryFetch, full]

/-! ### What a fetch reads is fixed by the latch and the geometry -/

@[simp] theorem Engine.onCache_latch (p : Plane) (f : PlaneCache → PlaneCache) (e : Engine) :
    (e.onCache p f).latch = e.latch := by cases p <;> rfl

@[simp] theorem Engine.onCache_geom (p : Plane) (f : PlaneCache → PlaneCache) (e : Engine) :
    (e.onCache p f).geom = e.geom := by cases p <;> rfl

/-- The source rows and their reads depend on the latch and the geometry alone. -/
theorem Engine.needs_congr {e e' : Engine} (latch : e'.latch = e.latch) (geom : e'.geom = e.geom) (p : Plane) :
    e'.needs p = e.needs p ∧ e'.rowReads p = e.rowReads p := by
  have view : e'.planeView? p = e.planeView? p := by simp only [Engine.planeView?, latch, geom]
  exact ⟨funext fun r => by simp only [Engine.needs, view], funext fun j => by simp only [Engine.rowReads, view]⟩

theorem Engine.needs_of_latch (latch : e.latch = some l) (geom : e.geom = some g) (p : Plane) (r : Nat) :
    e.needs p r = (planeView l g p).sourceRows r := by
  simp only [Engine.needs, Engine.planeView?, latch, geom]

theorem Engine.needs_of_none (latch : e.latch = none) (p : Plane) (r : Nat) : e.needs p r = [] := by
  simp only [Engine.needs, Engine.planeView?, latch]

theorem Engine.rowReads_of_latch (latch : e.latch = some l) (geom : e.geom = some g) (p : Plane) (j : Nat) :
    e.rowReads p j = segmentReads l p (planeView l g p) j := by
  simp only [Engine.rowReads, Engine.planeView?, latch, geom]

/-- R125: an output row needs at most two source rows, and these differ. -/
theorem PlaneView.sourceRows_cases (v : PlaneView) (r : Nat) :
    v.sourceRows r = [] ∨ (∃ j, v.sourceRows r = [j]) ∨ ∃ j j', j ≠ j' ∧ v.sourceRows r = [j, j'] := by
  unfold PlaneView.sourceRows
  dsimp only
  split
  · split
    · exact .inr (.inl ⟨_, rfl⟩)
    next apart => exact .inr (.inr ⟨_, _, Ne.symm apart, rfl⟩)
  · exact .inl rfl

theorem Engine.needs_cases (e : Engine) (p : Plane) (r : Nat) :
    e.needs p r = [] ∨ (∃ j, e.needs p r = [j]) ∨ ∃ j j', j ≠ j' ∧ e.needs p r = [j, j'] := by
  unfold Engine.needs
  split
  · exact PlaneView.sourceRows_cases _ r
  · exact .inl rfl

/-! ### The first fetches of an output frame (R116) -/

/-- The line cache with the rows listed being prefetched. -/
def prefetchedCache (rows : List Nat) (reads : Nat → List (Nat × Nat)) : PlaneCache :=
  { PlaneCache.empty with places := rows.map fun j => fetchingPlace j .prefetch (reads j) }

theorem prefetchedCache_place? {rows : List Nat} {reads : Nat → List (Nat × Nat)} (away : j ∉ rows) :
    (prefetchedCache rows reads).place? j = none := by
  refine List.find?_eq_none.2 fun pl mem => ?_
  obtain ⟨i, hi, rfl⟩ := List.mem_map.1 mem
  intro same
  have same : i = j := of_decide_eq_true same
  exact away (same ▸ hi)

/-- One more row prefetched. -/
theorem Engine.prefetchRow_of_prefetched {rows : List Nat} (luma : e.luma = prefetchedCache rows (e.rowReads .luma))
    (away : j ∉ rows) (few : rows.length < 4) : e.prefetchRow .luma needed j =
      { e with
        luma := prefetchedCache (rows ++ [j]) (e.rowReads .luma)
        fetchWaiting := e.fetchWaiting ++ (e.rowReads .luma j).map fun a => ⟨a.1, a.2, .luma, j, false⟩ } := by
  have cache : e.cache .luma = prefetchedCache rows (e.rowReads .luma) := luma
  rw [Engine.prefetchRow, Engine.fetchRow_of_taken (c := prefetchedCache (rows ++ [j]) (e.rowReads .luma))]
  · rfl
  · rw [cache]
    exact prefetchedCache_place? away
  · rw [cache]
    rfl
  · rw [cache, PlaneCache.takePlace_of_free (by simpa [prefetchedCache] using few)]
    simp [prefetchedCache]

/-- R116 step 6: the fetches of the first luma row's source rows, in an empty cache. -/
theorem Engine.prefetchFor_first (luma : e.luma = PlaneCache.empty) (none : e.fetchWaiting = []) :
    e.prefetchFor .luma 0 needed = { e with
      luma := prefetchedCache (e.needs .luma 0) (e.rowReads .luma)
      fetchWaiting := ((e.needs .luma 0).map fun j =>
        (e.rowReads .luma j).map fun a => (⟨a.1, a.2, .luma, j, false⟩ : RowFetch)).flatten } := by
  have start : e.luma = prefetchedCache [] (e.rowReads .luma) := luma
  obtain rows | ⟨j, rows⟩ | ⟨j, j', apart, rows⟩ := e.needs_cases .luma 0
  · simp only [Engine.prefetchFor, rows, List.foldl_nil, List.map_nil, List.flatten_nil, ← start, ← none]
  · simp only [Engine.prefetchFor, rows, List.foldl_cons, List.foldl_nil]
    rw [Engine.prefetchRow_of_prefetched start List.not_mem_nil (by decide)]
    simp [none]
  · simp only [Engine.prefetchFor, rows, List.foldl_cons, List.foldl_nil]
    rw [Engine.prefetchRow_of_prefetched start List.not_mem_nil (by decide)]
    generalize first : ({ e with
      luma := prefetchedCache ([] ++ [j]) (e.rowReads .luma)
      fetchWaiting := e.fetchWaiting ++ (e.rowReads .luma j).map fun a => ⟨a.1, a.2, .luma, j, false⟩ } : Engine) = e'
    have reads : e'.rowReads .luma = e.rowReads .luma := (Engine.needs_congr (by rw [← first]) (by rw [← first]) .luma).2
    have luma' : e'.luma = prefetchedCache [j] (e'.rowReads .luma) := by rw [reads, ← first]; rfl
    rw [Engine.prefetchRow_of_prefetched luma' (by simpa using apart.symm) (by simp), reads, ← first]
    simp [none]

/-! ### The engine at an output frame start (R116, R117, R119) -/

/-- R117: the view after one step of its zoom. -/
def View.stepped (v : View) : View := { v with zc := zoomStep v.zt v.zc v.ramp }

/-- R116: what is latched of a source that resolves to `d`. -/
def Engine.latchOf (d : Option (Latched × Nat × Nat × Nat × Count)) (e : Engine) : Option Latch :=
  match d, e.geom with
  | some (w, d), some g => some (makeLatch w d g e.view.stepped)
  | _, _ => none

/-- R116: the engine after an output frame start that latches `d`. -/
theorem Engine.startFrame_prefetch {d : Option (Latched × Nat × Nat × Nat × Count)} {q : QueuedRead}
    {rest : List QueuedRead} (queue : e.queue = q :: rest) :
    ∃ e', (e.startFrame d).prefetchFor .luma 0 ((e.startFrame d).neededBy .luma (.luma, 0)) = e'
      ∧ e'.queue = { q with started := true } :: rest ∧ e'.latch = e.latchOf d ∧ e'.view = e.view.stepped
      ∧ e'.luma = prefetchedCache (e'.needs .luma 0) (e'.rowReads .luma) ∧ e'.chroma = PlaneCache.empty
      ∧ e'.fetchWaiting = ((e'.needs .luma 0).map fun j =>
        (e'.rowReads .luma j).map fun a => (⟨a.1, a.2, .luma, j, false⟩ : RowFetch)).flatten
      ∧ e'.fetchFlight = e.fetchFlight.map RowFetch.makeStale ∧ e'.computed = none ∧ e'.damaged = false
      ∧ e'.source = e.source ∧ e'.state = e.state ∧ e'.geom = e.geom := by
  rw [Engine.prefetchFor_first (e := e.startFrame d) rfl rfl]
  refine ⟨_, rfl, ?_, rfl, rfl, rfl, rfl, rfl, rfl, rfl, rfl, rfl, rfl, rfl⟩
  simp only [Engine.startFrame, queue]

end Sys2Proof.Machine
end

section
/-! The output frame start (R113, R116, R117, R119): the obligation. -/

namespace Sys2Proof.Machine

variable {s t u : State} {x : OutId} {die : Int} {k p : Nat}

/-! ### Tags (R41) -/

/-- A slot's size and frame stay as they are under its tags. -/
theorem SlotTable.slot_setShow_field {α : Type} {field : Slot → α} (h : ∀ b sl, field (Slot.setShow x b sl) = field sl)
    (j k : Nat) (t : SlotTable) :
    field ((t.takeShow x k).slot j) = field (t.slot j) ∧ field ((t.dropShow x k).slot j) = field (t.slot j) := by
  refine ⟨?_, SlotTable.slot_onSlot_field (h false) j k t⟩
  unfold SlotTable.takeShow
  split
  · exact SlotTable.slot_onSlot_field (h true) j k t
  · rfl

theorem SlotTable.takeShow_ready (x : OutId) (k : Nat) (t : SlotTable) :
    (t.takeShow x k).ready = t.ready ∧ (t.takeShow x k).geom = t.geom := by
  unfold SlotTable.takeShow
  split <;> exact ⟨rfl, rfl⟩

/-- What SHOW_x does not touch is as it was in each slot where the tag is released and taken. -/
theorem State.retag_slot_field {α : Type} {field : Slot → α} (h : ∀ b sl, field (Slot.setShow x b sl) = field sl)
    (w : Option Latched) (j : Nat) (s : State) :
    field (((s.dropShow x).takeShow x w).slots.slot j) = field (s.slots.slot j) := by
  unfold State.takeShow State.dropShow
  split <;> split <;> simp [(SlotTable.slot_setShow_field h _ _ _).1, (SlotTable.slot_setShow_field h _ _ _).2]

/-- Where SHOW_x is released and taken, the slots keep their sizes and frames, and the table the rest. -/
theorem State.retag_slots (x : OutId) (w : Option Latched) (s : State) :
    let t := ((s.dropShow x).takeShow x w).slots
    t.ready = s.slots.ready ∧ t.geom = s.slots.geom
      ∧ ∀ j, (t.slot j).width = (s.slots.slot j).width ∧ (t.slot j).height = (s.slots.slot j).height
        ∧ (t.slot j).frame = (s.slots.slot j).frame := by
  refine ⟨?_, ?_, fun j => ⟨?_, ?_, ?_⟩⟩
  · unfold State.takeShow State.dropShow
    split <;> split <;> simp [(SlotTable.takeShow_ready _ _ _).1, SlotTable.dropShow, SlotTable.onSlot]
  · unfold State.takeShow State.dropShow
    split <;> split <;> simp [(SlotTable.takeShow_ready _ _ _).2, SlotTable.dropShow, SlotTable.onSlot]
  · exact State.retag_slot_field (field := (·.width)) (by cases x <;> exact fun _ _ => rfl) w j s
  · exact State.retag_slot_field (field := (·.height)) (by cases x <;> exact fun _ _ => rfl) w j s
  · exact State.retag_slot_field (field := (·.frame)) (by cases x <;> exact fun _ _ => rfl) w j s

/-- R41: SHOW_x of a slot that is not latched again is released. -/
theorem State.retag_released {w : Option Latched} (shown : (s.out x).latchedSlot = some k) (other : w ≠ some (.slot k)) :
    (((s.dropShow x).takeShow x w).slots.slot k).shows x = false := by
  have dropped : ((s.dropShow x).slots.slot k).shows x = false := by
    rw [State.dropShow_slot, if_pos shown, Slot.setShow_shows, if_pos rfl]
  unfold State.takeShow
  split
  next j =>
    have away : k ≠ j := fun same => other (same ▸ rfl)
    rw [State.onSlots_slots, SlotTable.takeShow]
    split
    · rw [SlotTable.slot_onSlot_of_ne away]
      exact dropped
    · exact dropped
  next => exact dropped

theorem State.retag_taken (ready : (s.slots.slot k).state = .ready) :
    (((s.dropShow x).takeShow x (some (.slot k))).slots.slot k).shows x = true := by
  refine SlotTable.shows_takeShow x ?_
  rw [State.dropShow_slot]
  split
  · rw [Slot.setShow_state]
    exact ready
  · exact ready

theorem Slot.shows_iff {sl : Slot} {b : Bool} (h : sl.shows x = b) :
    (x = .a → sl.showA = b) ∧ (x = .b → sl.showB = b) := by
  cases x
  · exact ⟨fun _ => h, nofun⟩
  · exact ⟨nofun, fun _ => h⟩

/-! ### What the source resolves to (R116) -/

/-- R116: what output `x` latches at its frame start. -/
def State.latches (x : OutId) (s : State) : Option (Latched × Nat × Nat × Nat × Count) :=
  (s.resolve x).map fun w => (w, s.describe w)

theorem State.resolve_congr (ready : u.slots.ready = s.slots.ready) (out : u.out x = s.out x) :
    u.resolve x = s.resolve x := by
  simp only [State.resolve, out, SlotTable.newest, ready]

/-- The steps of an output frame start, with the source and what it resolves to read off the state before it. -/
theorem State.outputFrameStart_eq (x : OutId) (die : Int) (s : State) : s.outputFrameStart x die =
    ((((((s.dropShow x).takeShow x (s.resolve x)).dropRecalls x (s.store.positionsBut
      ((s.resolve x).bind Latched.entry?))).onOut x (·.startFrame (s.latches x))).sampleDie die).onOut x fun e =>
        e.prefetchFor .luma 0 (e.neededBy .luma (.luma, 0))) := by
  have dropped : (s.dropShow x).resolve x = s.resolve x :=
    State.resolve_congr (s.retag_slots x none).1 (by simp)
  obtain ⟨-, geom, slots⟩ := s.retag_slots x (s.resolve x)
  have described (w : Latched) : ((s.dropShow x).takeShow x (s.resolve x)).describe w = s.describe w := by
    cases w with
    | slot k =>
      obtain ⟨width, height, frame⟩ := slots k
      simp only [State.describe, State.slotAddr, geom, width, height, frame]
    | entry p => simp [State.describe, State.entryAddr]
  simp only [State.outputFrameStart, dropped, described, State.latches, State.takeShow_store, State.dropShow_store]

/-- R116: the engine's latch after the start. -/
theorem State.latchOf_eq {g : OutGeom} {w : Latched} (geom : (s.out x).geom = some g) (resolved : s.resolve x = some w) :
    (s.out x).latchOf (s.latches x) = some (makeLatch w (s.describe w) g (s.out x).view.stepped) := by
  simp only [Engine.latchOf, State.latches, resolved, Option.map_some, geom]

theorem State.latchOf_eq_none (none : s.resolve x = none) : (s.out x).latchOf (s.latches x) = .none := by
  simp only [Engine.latchOf, State.latches, none, Option.map_none]

theorem exec_outputFrameStart {q : QueuedRead} {rest : List QueuedRead} (running : s.notice.halted = false)
    (queue : (s.out x).queue = q :: rest) : exec (.outputFrameStart x die) s = .next
      (if q.off = 0 ∧ q.started = false then s.outputFrameStart x die else s) := by
  simp only [exec, execOutputFrameStart, State.unlessHalted_of_not running, queue]

end Sys2Proof.Machine
end

section
/-! The output frame start: the obligation. -/

namespace Sys2Proof.Machine

variable {s t u : State} {x : OutId} {die : Int} {k p n : Nat}

theorem State.mem_sampleDie_of_mem {w : RecWork} (mem : w ∈ s.recs.waiting) : w ∈ (s.sampleDie die).recs.waiting := by
  obtain ⟨-, same⟩ | ⟨-, changed⟩ := s.sampleDie_cases die
  · rw [same]
    exact mem
  · rw [changed]
    unfold State.thermalChange
    dsimp only
    refine State.mem_request_of_mem .status ?_
    split
    · refine State.mem_raise_of_mem .thermal ?_
      split <;> exact mem
    · split
      · rw [State.copyResume_recs]
        exact State.mem_raise_of_mem .thermalClear mem
      · exact mem

/-! ### The state an output frame start leaves (R116) -/

/-- R125, R153: the entries whose marks of output `x` a frame start removes. -/
def State.startMarks (x : OutId) (s : State) : List Nat := s.store.positionsBut ((s.resolve x).bind Latched.entry?)

theorem State.resolve_entry? : (s.resolve x).bind Latched.entry? = some p ↔ (s.out x).source = .recalled p := by
  unfold State.resolve
  split
  next => rename_i live; cases s.slots.newest <;> simp [live, Latched.entry?]
  next frozen => simp [frozen, Latched.entry?]
  next held => simp [held, Latched.entry?]
  next recalled => simp [recalled, Latched.entry?]
  next none => simp [none]
  next blank => simp [blank]

theorem State.mem_startMarks : p ∈ s.startMarks x ↔ p < s.store.catalog.length ∧ (s.out x).source ≠ .recalled p := by
  rw [State.startMarks, Store.positionsBut, List.mem_filter, List.mem_range, decide_eq_true_iff, ne_eq, ne_eq,
    ← State.resolve_entry?]
  exact and_congr_right fun _ => not_congr eq_comm

theorem State.startMarks_nodup : (s.startMarks x).Nodup := List.Nodup.filter _ List.nodup_range

/-- The state with the tags and the marks of output `x` passed on. -/
def State.startPassed (x : OutId) (s : State) : State :=
  ((s.dropShow x).takeShow x (s.resolve x)).dropRecalls x (s.startMarks x)

theorem State.outputFrameStart_passed (x : OutId) (die : Int) (s : State) : s.outputFrameStart x die =
    (((s.startPassed x).onOut x (·.startFrame (s.latches x))).sampleDie die).onOut x fun e =>
      e.prefetchFor .luma 0 (e.neededBy .luma (.luma, 0)) := by
  rw [State.outputFrameStart_eq]
  rfl

theorem State.outputFrameStart_out : (s.outputFrameStart x die).out x =
    ((s.out x).startFrame (s.latches x)).prefetchFor .luma 0
      (((s.out x).startFrame (s.latches x)).neededBy .luma (.luma, 0)) := by
  simp [State.outputFrameStart_passed, State.startPassed]

theorem State.outputFrameStart_out_other : (s.outputFrameStart x die).out (otherOut x) = s.out (otherOut x) := by
  rw [State.outputFrameStart_passed, State.onOut_out_other, State.sampleDie_out, State.onOut_out_other]
  simp [State.startPassed]

theorem State.outputFrameStart_slots : (s.outputFrameStart x die).slots =
    ((s.dropShow x).takeShow x (s.resolve x)).slots := by
  simp [State.outputFrameStart_passed, State.startPassed]

theorem State.outputFrameStart_sample : (s.outputFrameStart x die).gov.sample = some (max (-40) (min 150 die)) := by
  rw [State.outputFrameStart_passed, State.onOut_gov, (State.sampleDie_effect die _).1, clampSample_eq]

theorem State.outputFrameStart_store : (s.startPassed x).store.EnginesTo (s.outputFrameStart x die).store := by
  rw [State.outputFrameStart_passed, State.onOut_store]
  simpa using State.sampleDie_engines die ((s.startPassed x).onOut x (·.startFrame (s.latches x)))

theorem State.outputFrameStart_mem {w : RecWork} (mem : w ∈ (s.startPassed x).recs.waiting) :
    w ∈ (s.outputFrameStart x die).recs.waiting := by
  rw [State.outputFrameStart_passed, State.onOut_recs]
  exact State.mem_sampleDie_of_mem (by simpa using mem)

/-! ### The latch (R116, R119) -/

/-- R119: the latch of `w`, described by `d`, on a frame of geometry `g` under the view `v` stepped. -/
theorem State.outputFrameStart_latch {g : OutGeom} (geom : (s.out x).geom = some g)
    (latch : (t.out x).latch = (s.out x).latchOf (s.latches x)) {w : Latched} (resolved : s.resolve x = some w)
    {addr ws hs : Nat} {frame : Count} (described : s.describe w = (addr, ws, hs, frame)) :
    let v := (s.out x).view
    ∃ l, (t.out x).latch = some l ∧ l.what = w ∧ l.addr = addr ∧ l.ws = ws ∧ l.hs = hs ∧ l.frame = frame
      ∧ l.step = max 4096 (fitStep l.ws l.hs g.ow g.oh * 256 / zoomStep v.zt v.zc v.ramp)
      ∧ l.x0 = origin l.ws g.ow l.step v.cx ∧ l.y0 = origin l.hs g.oh l.step v.cy ∧ l.flip = v.flip := by
  rw [State.latchOf_eq geom resolved, described] at latch
  exact ⟨_, latch, rfl, rfl, rfl, rfl, rfl, rfl, rfl, rfl, rfl⟩

theorem State.resolve_eq_none (source : (s.out x).source = .blank ∨ (s.out x).source = .heldNone
    ∨ ((s.out x).source = .live ∧ s.slots.ready = [])) : s.resolve x = none := by
  obtain blank | held | ⟨live, empty⟩ := source
  · simp only [State.resolve, blank]
  · simp only [State.resolve, held]
  · simp only [State.resolve, live, SlotTable.newest, empty, List.getLast?_nil, Option.map_none]

theorem State.resolve_eq_slot (source : ((s.out x).source = .live ∧ s.slots.ready.getLast? = some k)
    ∨ (s.out x).source = .frozen k ∨ (s.out x).source = .held k) : s.resolve x = some (.slot k) := by
  obtain ⟨live, newest⟩ | frozen | held := source
  · simp only [State.resolve, live, SlotTable.newest, newest, Option.map_some]
  · simp only [State.resolve, frozen]
  · simp only [State.resolve, held]

/-! ### The marks (R125, R153) -/

/-- R143: a frame start removes the last mark of the WANTED record, which is handed over. -/
theorem State.outputFrameStart_handover {r : Request} {more : List Request} (inside : p < s.store.catalog.length)
    (away : (s.out x).source ≠ .recalled p) (alone : ∀ j, j ≠ p → (s.store.recAt j).wanted = false)
    (wanted : (s.store.recAt p).wanted = true) (claimed : (s.store.recAt p).claimed = false)
    (recalled : (s.store.recAt p).recalled x = true) (other : (s.store.recAt p).recalled (otherOut x) = false)
    (free : s.ring.restartDispatched = false) (early : s.store.engine.waitCount < s.store.waitLimit)
    (queue : s.store.queue = r :: more) (next : s.store.nextSeq = some n) :
    let t := s.outputFrameStart x die
    (t.store.recAt p).state = .copying ∧ (t.store.recAt p).seq = n ∧ (t.store.recAt p).wanted = false
      ∧ t.store.order = s.store.order.erase p ++ [p] ∧ .record (.catalog p) ∈ t.recs.waiting
      ∧ (s.gov.state = .normal → t.store.engine.state = .copying p) := by
  have start : (((s.dropShow x).takeShow x (s.resolve x)).store, ((s.dropShow x).takeShow x (s.resolve x)).gov,
    ((s.dropShow x).takeShow x (s.resolve x)).ring) = (s.store, s.gov, s.ring) := by simp
  obtain ⟨store, gov, ring⟩ := Prod.mk.inj start |>.imp id Prod.mk.inj
  obtain ⟨v, order, sameGov, u, copy, l', outside, un⟩ :=
    State.dropRecalls_handover (State.mem_startMarks.2 ⟨inside, away⟩) State.startMarks_nodup
      (by rw [store]) (by rw [store]; exact inside) wanted claimed recalled other (by rw [store]; exact alone)
      (by rw [ring]; exact free) (by rw [store]; exact early) (by rw [store]; exact queue) (by rw [store]; exact next)
  rw [store] at order
  rw [gov] at sameGov
  have entry := un.entry p
  rw [if_neg outside, copy.entry] at entry
  obtain ⟨e, engines⟩ := s.outputFrameStart_store (x := x) (die := die)
  have entry' : ((s.outputFrameStart x die).store.recAt p) = r.copyingRec n := by
    rw [engines]
    exact entry
  have passed : s.startPassed x = u.onStore fun st => { st with catalog := (s.startPassed x).store.catalog } := un.eq
  dsimp only
  rw [entry']
  refine ⟨rfl, rfl, rfl, ?_, State.outputFrameStart_mem ?_, fun normal => ?_⟩
  · rw [engines, passed]
    exact copy.order.trans (by rw [order])
  · rw [passed]
    exact copy.catalog
  · have copies : (s.startPassed x).store.engine.state = .copying p := by
      rw [passed]
      exact (copy.copies (by rw [sameGov]; exact normal)).1
    rw [State.outputFrameStart_passed, State.onOut_store, (State.sampleDie_engine die _).2.2.1]
    · simpa using copies
    · simp [copies]

/-- R153: once RESTART is dispatched the marks are removed and nothing is handed over. -/
theorem State.outputFrameStart_kept (away : (s.out x).source ≠ .recalled p) (inside : p < s.store.catalog.length)
    (restart : s.ring.restartDispatched = true) :
    let t := s.outputFrameStart x die
    t.store.recAt p = (s.store.recAt p).setRecall x false
      ∧ t.store.order = s.store.order ∧ t.store.queue = s.store.queue ∧ t.store.nextSeq = s.store.nextSeq := by
  have un : ((s.dropShow x).takeShow x (s.resolve x)).Unrecalled x (s.startMarks x) (s.startPassed x) :=
    State.unrecalled_dropRecalls _ (.inl (by simpa using restart))
  obtain ⟨e, engines⟩ := s.outputFrameStart_store (x := x) (die := die)
  have entry := un.entry p
  rw [if_pos (State.mem_startMarks.2 ⟨inside, away⟩)] at entry
  dsimp only
  rw [engines]
  refine ⟨entry.trans (by simp), ?_, ?_, ?_⟩ <;> rw [un.eq] <;> simp

theorem State.outputFrameStart_recalled (inside : p < s.store.catalog.length) (away : (s.out x).source ≠ .recalled p) :
    ((s.outputFrameStart x die).store.recAt p).recalled x = false := by
  obtain ⟨e, engines⟩ := s.outputFrameStart_store (x := x) (die := die)
  rw [engines]
  exact State.dropRecalls_recalled _ (.inl (State.mem_startMarks.2 ⟨inside, away⟩))

theorem State.outputFrameStart_source (source : (s.out x).source = .recalled p) :
    (s.outputFrameStart x die).store.recAt p = s.store.recAt p := by
  obtain ⟨e, engines⟩ := s.outputFrameStart_store (x := x) (die := die)
  rw [engines]
  refine (State.dropRecalls_recAt_of_not_mem _ fun mem => (State.mem_startMarks.1 mem).2 source).trans ?_
  simp

end Sys2Proof.Machine
end

section
/-! The output frame start: the obligation, part by part. -/

namespace Sys2Proof.Machine

variable {s t u : State} {x : OutId} {die : Int} {k p n : Nat}

/-- R116 step 6, R126: the places and the fetches of the first luma row's source rows. -/
theorem Engine.places_of_first {e : Engine} {l : Latch} {g : OutGeom}
    (luma : e.luma = prefetchedCache (e.needs .luma 0) (e.rowReads .luma))
    (waiting : e.fetchWaiting = ((e.needs .luma 0).map fun j =>
      (e.rowReads .luma j).map fun a => (⟨a.1, a.2, .luma, j, false⟩ : RowFetch)).flatten)
    (latch : e.latch = some l) (geom : e.geom = some g) :
    let v := planeView l g .luma
    e.luma.places = ((v.sourceRows 0).map fun j =>
      ⟨j, .fetching, .prefetch, (segmentReads l .luma v j).map fun a => ⟨a.1, a.2, .waiting⟩, none⟩)
    ∧ e.fetchWaiting = ((v.sourceRows 0).map fun j =>
      (segmentReads l .luma v j).map fun a => (⟨a.1, a.2, .luma, j, false⟩ : RowFetch)).flatten := by
  have reads (j : Nat) := Engine.rowReads_of_latch latch geom .luma j
  rw [luma, waiting, Engine.needs_of_latch latch geom]
  refine ⟨?_, by simp only [reads]⟩
  simp only [prefetchedCache, reads]
  rfl

/-- R41: SHOW of the slot latched before is released unless it is latched again. -/
theorem State.outputFrameStart_shows (shown : (s.out x).latch.map (·.what) = some (.slot k))
    (other : s.resolve x ≠ some (.slot k)) :
    (x = .a → ((s.outputFrameStart x die).slots.slot k).showA = false)
      ∧ (x = .b → ((s.outputFrameStart x die).slots.slot k).showB = false) := by
  rw [State.outputFrameStart_slots]
  exact Slot.shows_eq_iff.1 (State.retag_released (Engine.latchedSlot_eq_some_iff.2 shown) other)

/-- Settles O46: the start read off its engine, its tags and its marks. -/
theorem outputFrameStartLatchesTheSource : Obligations.OutputFrameStartLatchesTheSource := by
  intro x die q rest g s running queue geom
  refine ⟨fun later => ?_, fun first unstarted => ?_⟩
  · rw [exec_outputFrameStart running queue, if_neg fun due => later.elim (· due.1) (by simp [due.2])]
  · rw [exec_outputFrameStart running queue, if_pos ⟨first, unstarted⟩]
    refine ⟨_, rfl, ?_⟩
    obtain ⟨e, out, queued, latch, view, luma, chroma, waiting, flight, computed, damaged, source, state, geom'⟩ :=
      Engine.startFrame_prefetch (d := s.latches x) queue
    have here : (s.outputFrameStart x die).out x = e := State.outputFrameStart_out.trans out
    have geom' : e.geom = some g := geom'.trans geom
    have latched : ((s.outputFrameStart x die).out x).latch = (s.out x).latchOf (s.latches x) := by rw [here, latch]
    rw [here]
    refine ⟨queued, damaged, by rw [luma]; rfl, by rw [chroma]; rfl, by rw [luma]; rfl, chroma, by rw [luma]; rfl,
      by rw [luma]; rfl, flight, computed, fun empty => ?_, fun l full => Engine.places_of_first luma waiting full geom',
      source, state, geom', ⟨view, fun none => ?_, fun k slot => ?_, fun p recalled => ?_⟩, fun k shown other => ?_,
      fun p inside away => State.outputFrameStart_recalled inside away, fun p => State.outputFrameStart_source,
      fun p r n more inside away alone wanted claimed recalled other free early queue next =>
        State.outputFrameStart_handover inside away alone wanted claimed recalled other free early queue next,
      fun p inside away restart => ?_, State.outputFrameStart_sample, State.outputFrameStart_out_other, ?_, ?_, ?_, ?_⟩
    · have rows : e.needs .luma 0 = [] := Engine.needs_of_none empty .luma 0
      rw [luma, waiting, rows]
      exact ⟨rfl, rfl⟩
    · rw [latch, State.latchOf_eq_none (State.resolve_eq_none none)]
    · have resolved := State.resolve_eq_slot slot
      obtain ⟨l, full, what, addr, ws, hs, frame, step, x0, y0, flip⟩ :=
        State.outputFrameStart_latch geom latched resolved (addr := _) (ws := _) (hs := _) (frame := _) rfl
      refine ⟨l, here ▸ full, what, addr, ws, hs, frame, step, x0, y0, flip, fun ready _ => ?_⟩
      rw [State.outputFrameStart_slots, resolved]
      exact Slot.shows_eq_iff.1 (State.retag_taken ready)
    · have resolved : s.resolve x = some (.entry p) := by simp only [State.resolve, recalled]
      obtain ⟨l, full, facts⟩ :=
        State.outputFrameStart_latch geom latched resolved (addr := _) (ws := _) (hs := _) (frame := _) rfl
      exact ⟨l, here ▸ full, facts⟩
    · refine State.outputFrameStart_shows shown fun resolved => ?_
      obtain ⟨l, full, what, -⟩ :=
        State.outputFrameStart_latch geom latched resolved (addr := _) (ws := _) (hs := _) (frame := _) rfl
      exact other l (here ▸ full) what
    · obtain ⟨entry, order, queue, next⟩ := State.outputFrameStart_kept (die := die) away inside restart
      exact ⟨entry.trans (by cases x <;> rfl), order, queue, next⟩
    · simp
    · simp
    · simp
    · rw [State.outputFrameStart_slots, (s.retag_slots x _).1]

end Sys2Proof.Machine
end

section
/-! RESTART (R30): the slots, the enhancer and the store. -/

namespace Sys2Proof.Machine

variable {s t u : State} {x : OutId} {die : Int} {k p q : Nat}

/-! ### The slots (R50) -/

/-- A slot at its reset values stays so under a change that keeps these. -/
theorem SlotTable.onSlot_cleared {f : Slot → Slot} (reset : f Slot.reset = Slot.reset) (k : Nat) (t : SlotTable) :
    t.cleared.onSlot k f = t.cleared := by
  have same : (List.replicate 6 Slot.reset).modify k f = List.replicate 6 Slot.reset := by
    refine List.ext_getElem (List.length_modify ..) fun i _ _ => ?_
    rw [List.getElem_modify, List.getElem_replicate, reset, ite_self]
  simp only [SlotTable.onSlot, SlotTable.cleared, same]

theorem SlotTable.tear_cleared (t : SlotTable) : t.cleared.tear = t.cleared := by
  have none : t.cleared.filling = .none := SlotTable.filling_eq_none.2 fun k => by rw [SlotTable.slot_cleared]; nofun
  simp only [SlotTable.tear, none]

theorem State.dropFreeze_cleared {v : SlotTable} (cleared : s.slots = v.cleared) : (s.dropFreeze x).slots = v.cleared := by
  unfold State.dropFreeze
  split
  · rw [State.onSlots_slots, cleared]
    exact SlotTable.onSlot_cleared (by cases x <;> rfl) _ _
  · exact cleared

theorem State.dropShow_cleared {v : SlotTable} (cleared : s.slots = v.cleared) : (s.dropShow x).slots = v.cleared := by
  unfold State.dropShow
  split
  · rw [State.onSlots_slots, cleared]
    exact SlotTable.onSlot_cleared (by cases x <;> rfl) _ _
  · exact cleared

theorem SlotTable.dropCopies_cleared {v : SlotTable} : ∀ l : List Request,
    l.foldl (fun t r => t.dropCopy r.slot) v.cleared = v.cleared
  | [] => rfl
  | r :: l => by
    rw [List.foldl_cons, SlotTable.dropCopy, SlotTable.onSlot_cleared rfl]
    exact SlotTable.dropCopies_cleared l

theorem State.storeRestart_cleared {v : SlotTable} (cleared : s.slots = v.cleared) : s.storeRestart.slots = v.cleared := by
  unfold State.storeRestart
  dsimp only
  repeat' split
  · simp [cleared, SlotTable.dropCopies_cleared]
  · simp [cleared, SlotTable.dropCopies_cleared]
  · exact cleared

theorem State.outputRestart_cleared {v : SlotTable} (cleared : s.slots = v.cleared) :
    (s.outputRestart x).slots = v.cleared := by
  unfold State.outputRestart
  dsimp only
  repeat' split
  · simp only [State.leaveOutput, State.onOut_slots, State.dropRecalls_slots]
    exact State.dropFreeze_cleared (State.dropShow_cleared (by simpa using cleared))
  · simpa using cleared
  · simpa using State.dropFreeze_cleared (x := x) cleared

/-! ### The enhancer (R82) -/

/-- A frame in progress, or torn with responses still out (R63). -/
def State.frameActive (s : State) : Bool := s.cap.tearing || decide (s.cap.tracker ≠ .none)

theorem State.frameActive_iff : s.frameActive = true ↔ s.cap.tracker ≠ .none ∨ s.cap.tearing = true := by
  simp [State.frameActive, or_comm]

/-- R82: the enhancer stopped; the tear of a frame in progress ends at once when none of its responses is out. -/
theorem State.captureRestart_eq (die : Int) (s : State) :
    ∃ u, s.captureRestart die = (if s.frameActive && s.tearSettled then u.tearEnded die else u)
      ∧ u.cap = s.cap.restart s.frameActive ∧ u.gov = s.gov ∧ u.notice = s.notice ∧ u.store = s.store
      ∧ u.slots = if s.frameActive then s.slots.tear else s.slots := by
  unfold State.captureRestart
  extract_lets active s1 s2
  have begun : s2.cap = s.cap.restart s.frameActive ∧ s2.gov = s.gov ∧ s2.notice = s.notice
      ∧ s2.store = s.store ∧ s2.slots = (if s.frameActive then s.slots.tear else s.slots) ∧ s2.path = s.path := by
    unfold s2
    split <;> simp [s1, show active = s.frameActive from rfl]
  obtain ⟨cap, gov, notice, store, slots, path⟩ := begun
  refine ⟨s2, ?_, cap, gov, notice, store, slots⟩
  have settled : s2.tearSettled = s.tearSettled := by
    simp only [State.tearSettled, State.chromaOut, cap, path, Capture.restart]
  rw [settled]
  rfl

/-- R82: what the enhancer, the slots and the governor are after RESTART. -/
theorem State.captureRestart_effect (die : Int) (s : State) :
    let t := s.captureRestart die
    t.cap = s.cap.restart (s.frameActive && !s.tearSettled)
      ∧ t.slots = (if s.frameActive then s.slots.tear else s.slots)
      ∧ (s.frameActive = true → s.tearSettled = true → t.gov.sample = some (max (-40) (min 150 die)))
      ∧ (s.frameActive = false ∨ s.tearSettled = false → t.gov = s.gov ∧ t.notice = s.notice ∧ t.store = s.store)
      ∧ t.store.engine.flight = s.store.engine.flight := by
  obtain ⟨u, form, cap, gov, notice, store, slots⟩ := s.captureRestart_eq die
  dsimp only
  by_cases ends : (s.frameActive && s.tearSettled) = true
  · rw [form, if_pos ends]
    obtain ⟨active, back⟩ := Bool.and_eq_true_iff.1 ends
    refine ⟨?_, by simpa using slots, fun _ _ => State.tearEnded_sample .., fun stays => ?_, ?_⟩
    · rw [State.tearEnded_cap, cap, active, back]
      rfl
    · simp [active, back] at stays
    · rw [State.tearEnded_flight, store]
  · rw [form, if_neg ends]
    refine ⟨?_, slots, fun active back => absurd (by simp [active, back]) ends, fun _ => ⟨gov, notice, store⟩, by rw [store]⟩
    rw [cap]
    cases active : s.frameActive
    · rfl
    · simp [show s.tearSettled = false by simpa [active] using ends]

/-! ### The store (R163) -/

/-- R163: the records whose copies are abandoned. -/
def Store.copyingRecs (st : Store) : List Nat :=
  (List.range st.catalog.length).filter fun p => decide ((st.recAt p).state = .copying)

theorem Store.mem_copyingRecs {st : Store} :
    p ∈ st.copyingRecs ↔ p < st.catalog.length ∧ (st.recAt p).state = .copying := by
  simp [Store.copyingRecs]

theorem Store.recAt_freeRecs : ∀ (l : List Nat) (st : Store) (q : Nat),
    (l.foldl (fun st p => st.freeRec p) st).recAt q = if q ∈ l then Rec.blank else st.recAt q
  | [], _, _ => by simp
  | p :: l, st, q => by
    rw [List.foldl_cons, Store.recAt_freeRecs, Store.recAt_freeRec]
    by_cases mem : q ∈ l
    · simp [mem]
    · simp [mem]

/-- Freeing records changes the catalog and its order alone. -/
theorem Store.freeRecs_eq : ∀ (l : List Nat) (st : Store),
    let st' := l.foldl (fun st p => st.freeRec p) st
    st' = { st with catalog := st'.catalog, order := st'.order } ∧ st'.catalog.length = st.catalog.length
      ∧ (st.order.Nodup → ∀ q, q ∈ st'.order ↔ q ∈ st.order ∧ q ∉ l)
  | [], st => ⟨rfl, rfl, fun _ q => by simp⟩
  | p :: l, st => by
    obtain ⟨eq, length, order⟩ := Store.freeRecs_eq l (st.freeRec p)
    dsimp only [List.foldl_cons] at eq length order ⊢
    refine ⟨eq, length.trans (by simp [Store.freeRec, Store.onRec]), fun nodup q => ?_⟩
    rw [order (nodup.erase p), Store.freeRec, nodup.mem_erase_iff, List.mem_cons, not_or]
    exact ⟨fun ⟨⟨away, mem⟩, out⟩ => ⟨mem, away, out⟩, fun ⟨mem, away, out⟩ => ⟨⟨away, mem⟩, out⟩⟩

/-- R163: an OPEN store with its copies abandoned, its marks of a waiting request and its queue gone. -/
def Store.emptied (st : Store) : Store :=
  let freed := st.copyingRecs.foldl (fun st p => st.freeRec p) st
  { freed with
    catalog := freed.catalog.map fun r => { r with wanted := false }
    queue := []
    engine := { freed.engine with
      state := .idle, waiting := [], flight := freed.engine.flight.map fun t => { t with stale := true } } }

theorem Store.recAt_emptied (st : Store) (p : Nat) : st.emptied.recAt p =
    { (st.copyingRecs.foldl (fun st p => st.freeRec p) st).recAt p with wanted := false } := by
  simp only [Store.emptied, Store.recAt]
  exact List.getD_map (f := fun r : Rec => { r with wanted := false }) (d := Rec.blank) ..

/-- R163: the machine with an OPEN store emptied, the records freed written; the status record is not requested yet. -/
def State.storeEmptied (s : State) : State :=
  ((((s.onStore Store.emptied).onSlots fun t => s.store.queue.foldl (fun t r => t.dropCopy r.slot) t).onPath
    fun p => { p with lossCount := 0 }).requestRecords s.store.copyingRecs)

/-- R163: what RESTART makes of an OPEN store. -/
theorem State.storeRestart_opened (opened : s.store.state = .opened) :
    let t := s.storeRestart
    t.path = { s.path with lossCount := 0 }
      ∧ t.store = { s.store with catalog := t.store.catalog, order := t.store.order, queue := [], engine := t.store.engine }
      ∧ t.store.engine.state = .idle ∧ t.store.engine.waiting = []
      ∧ t.store.engine.flight = (s.store.engine.flight.map fun y => { y with stale := true })
      ∧ (∀ p, t.store.recAt p = if p ∈ s.store.copyingRecs then Rec.blank else { s.store.recAt p with wanted := false })
      ∧ (s.store.order.Nodup → ∀ p, p ∈ t.store.order ↔ p ∈ s.store.order ∧ p ∉ s.store.copyingRecs)
      ∧ (∀ p ∈ s.store.copyingRecs, .record (.catalog p) ∈ t.recs.waiting ∧ .record .status ∈ t.recs.waiting)
      ∧ (s.store.queue ≠ [] → .record .status ∈ t.recs.waiting) := by
  have form : s.storeRestart = if s.store.queue.isEmpty ∧ s.store.copyingRecs.isEmpty then s.storeEmptied
      else s.storeEmptied.requestStatus := if_pos opened
  have kept : s.storeRestart.store = s.storeEmptied.store ∧ s.storeRestart.path = s.storeEmptied.path := by
    rw [form]
    split <;> exact ⟨rfl, rfl⟩
  have status (busy : s.store.queue ≠ [] ∨ s.store.copyingRecs ≠ []) : .record .status ∈ s.storeRestart.recs.waiting := by
    rw [form, if_neg fun both => busy.elim (· (List.isEmpty_iff.1 both.1)) (· (List.isEmpty_iff.1 both.2))]
    exact RecordWriter.mem_request ..
  have store : s.storeEmptied.store = s.store.emptied := by simp [State.storeEmptied]
  obtain ⟨eq, length, order⟩ := Store.freeRecs_eq s.store.copyingRecs s.store
  dsimp only at eq order ⊢
  rw [kept.1, store]
  refine ⟨by rw [kept.2]; simp [State.storeEmptied], ?_, rfl, rfl, ?_, fun p => ?_, order, fun p copying => ⟨?_, ?_⟩,
    fun busy => status (.inl busy)⟩
  · simp only [Store.emptied]
    rw [eq]
  · simp only [Store.emptied]
    rw [eq]
  · rw [Store.recAt_emptied, Store.recAt_freeRecs]
    split <;> rfl
  · rw [form]
    have mem : .record (.catalog p) ∈ s.storeEmptied.recs.waiting := State.mem_requestRecords _ _ copying
    split
    · exact mem
    · exact State.mem_request_of_mem .status mem
  · exact status (.inr (List.ne_nil_of_mem copying))

theorem State.storeRestart_of_not_opened (other : s.store.state ≠ .opened) : s.storeRestart = s := if_neg other

end Sys2Proof.Machine
end

section
/-! RESTART (R30): the outputs, and the restart of every owner. -/

namespace Sys2Proof.Machine

variable {s t u : State} {x : OutId} {die : Int} {k p q : Nat}

/-! ### Marks only removed -/

/-- From `st` to `st'` nothing but marks of RECALL have changed, and none has been set. -/
structure Store.Unmarks (st st' : Store) : Prop where
  eq : st' = { st with catalog := st'.catalog }
  length : st'.catalog.length = st.catalog.length
  entry : ∀ j, st'.recAt j =
    { st.recAt j with recallA := (st'.recAt j).recallA, recallB := (st'.recAt j).recallB }
  unmarked : ∀ x j, (st.recAt j).recalled x = false → (st'.recAt j).recalled x = false

theorem Store.Unmarks.refl (st : Store) : st.Unmarks st := ⟨rfl, rfl, fun _ => rfl, fun _ _ => id⟩

theorem Store.Unmarks.trans {st st' st'' : Store} (h : st.Unmarks st') (h' : st'.Unmarks st'') : st.Unmarks st'' where
  eq := by rw [h'.eq, h.eq]
  length := h'.length.trans h.length
  entry j := by rw [h'.entry, h.entry]
  unmarked x j none := h'.unmarked x j (h.unmarked x j none)

theorem Store.Unmarks.wanted {st st' : Store} (h : st.Unmarks st') (none : ∀ j, (st.recAt j).wanted = false) (j : Nat) :
    (st'.recAt j).wanted = false := by
  rw [h.entry]
  exact none j

theorem Store.Unmarks.blank {st st' : Store} (h : st.Unmarks st') {j : Nat} (blank : st.recAt j = Rec.blank) :
    st'.recAt j = Rec.blank := by
  have a := h.unmarked .a j (by rw [blank]; rfl)
  have b := h.unmarked .b j (by rw [blank]; rfl)
  simp only [Rec.recalled] at a b
  rw [h.entry, a, b, blank]
  rfl

theorem Store.Unmarks.eq_of_empty {st st' : Store} (h : st.Unmarks st') (empty : st.catalog = []) : st' = st := by
  have none : st'.catalog = [] := List.eq_nil_of_length_eq_zero (by rw [h.length, empty]; rfl)
  rw [h.eq, none, ← empty]

theorem State.Unrecalled.unmarks {l : List Nat} (h : s.Unrecalled x l t) : s.store.Unmarks t.store where
  eq := by
    rw [h.eq]
    rfl
  length := h.length
  entry j := by
    rw [h.entry]
    split
    · cases x <;> rfl
    · rfl
  unmarked y j none := by
    rw [h.entry]
    split
    · cases x <;> cases y <;> first | rfl | exact none
    · exact none

/-! ### The outputs (R131) -/

/-- R131: what RESTART makes of an output: ENABLED with queued reads it is leaving, without it has left; any other is
LIVE. -/
def Engine.restarted (e : Engine) : Engine :=
  if e.state = .enabled then
    if e.queue = [] then { e.emptied with source := .live, state := .disabled, leaving := false }
    else { e with leaving := true }
  else { e with source := .live }

theorem State.outputRestart_out (restarting : s.ring.restarting = true) :
    (s.outputRestart x).out x = (s.out x).restarted := by
  unfold State.outputRestart Engine.restarted
  dsimp only
  split
  · simp only [State.onOut_out, List.isEmpty_iff]
    split
    · simp only [State.leaveOutput_out, State.onOut_out, State.onOut_ring, restarting, if_true]
      rfl
    · rw [State.onOut_out]
  · rw [State.dropRecalls_out, State.onOut_out, State.dropFreeze_out]

/-- R131: with no record WANTED, RESTART removes the marks of an output that has no read to answer, and hands nothing
over. -/
theorem State.outputRestart_unmarks (x : OutId) (alone : ∀ j, (s.store.recAt j).wanted = false) :
    s.store.Unmarks (s.outputRestart x).store ∧ (s.outputRestart x).recs = s.recs
      ∧ (((s.out x).state = .enabled → (s.out x).queue = []) → ∀ j,
        ((s.outputRestart x).store.recAt j).recalled x = false) := by
  have dropped (u : State) (store : u.store = s.store) (recs : u.recs = s.recs) :
      let t := u.dropRecalls x (u.store.positionsBut none)
      s.store.Unmarks t.store ∧ t.recs = s.recs ∧ ∀ j, (t.store.recAt j).recalled x = false := by
    have un : u.Unrecalled x _ _ := State.unrecalled_dropRecalls (x := x) (u.store.positionsBut none)
      (.inr fun j _ => by rw [store]; exact alone j)
    refine ⟨store ▸ un.unmarks, by rw [un.eq]; exact recs, fun j => State.dropRecalls_recalled _ ?_⟩
    rw [Store.mem_positionsBut_none]
    refine (Nat.lt_or_ge _ _).imp_right fun outside => ?_
    rw [Store.recAt_of_length_le outside]
    cases x <;> rfl
  by_cases enabled : (s.out x).state = .enabled
  · by_cases empty : (s.out x).queue = []
    · have form : s.outputRestart x = (s.onOut x fun e => { e with leaving := true }).leaveOutput x := by
        simp [State.outputRestart, enabled, empty]
      obtain ⟨unmarks, recs, none⟩ := dropped
        (((s.onOut x fun e => { e with leaving := true }).dropShow x).dropFreeze x) (by simp) (by simp)
      rw [form, State.leaveOutput, State.onOut_store, State.onOut_recs]
      exact ⟨unmarks, recs, fun _ => none⟩
    · have form : s.outputRestart x = s.onOut x fun e => { e with leaving := true } := by
        simp [State.outputRestart, enabled, empty]
      rw [form, State.onOut_store, State.onOut_recs]
      exact ⟨.refl _, rfl, fun h => absurd (h enabled) empty⟩
  · have form : s.outputRestart x = ((s.dropFreeze x).onOut x fun e => { e with source := .live }).dropRecalls x
        (((s.dropFreeze x).onOut x fun e => { e with source := .live }).store.positionsBut none) := by
      simp [State.outputRestart, enabled]
    obtain ⟨unmarks, recs, none⟩ := dropped ((s.dropFreeze x).onOut x fun e => { e with source := .live })
      (by simp) (by simp)
    rw [form]
    exact ⟨unmarks, recs, fun _ => none⟩

/-! ### All owners (R30) -/

/-- The state with every owner restarted but the outputs. -/
def State.restartBefore (die : Int) (s : State) : State :=
  (((s.onSlots SlotTable.cleared).captureRestart die).monitorRestart).storeRestart

theorem State.restartOwners_before (die : Int) (s : State) :
    s.restartOwners die = ((s.restartBefore die).outputRestart .a).outputRestart .b := rfl

theorem State.restartBefore_out (y : OutId) : (s.restartBefore die).out y = s.out y := by
  cases y <;> simp [State.restartBefore]

theorem State.restartOwners_out (restarting : s.ring.restarting = true) (y : OutId) :
    (s.restartOwners die).out y = (s.out y).restarted := by
  have before : (s.restartBefore die).ring.restarting = true := by simpa [State.restartBefore] using restarting
  rw [State.restartOwners_before]
  cases y
  · rw [show (((s.restartBefore die).outputRestart .a).outputRestart .b).out .a =
      ((s.restartBefore die).outputRestart .a).out .a from State.outputRestart_out_other (x := .b),
      State.outputRestart_out before, State.restartBefore_out]
  · rw [State.outputRestart_out (by simpa using before),
      show ((s.restartBefore die).outputRestart .a).out .b = (s.restartBefore die).out .b from
        State.outputRestart_out_other (x := .a), State.restartBefore_out]

theorem State.restartOwners_slots : (s.restartOwners die).slots = s.slots.cleared := by
  rw [State.restartOwners_before]
  refine State.outputRestart_cleared (State.outputRestart_cleared (State.storeRestart_cleared ?_))
  rw [State.monitorRestart_slots, ((s.onSlots SlotTable.cleared).captureRestart_effect die).2.1, State.onSlots_slots,
    SlotTable.tear_cleared, ite_self]

theorem State.restartOwners_mon : (s.restartOwners die).mon = s.mon.restart := by
  simp [State.restartOwners_before, State.restartBefore]

theorem State.restartOwners_cap : (s.restartOwners die).cap = s.cap.restart (s.frameActive && !s.tearSettled) := by
  refine Eq.trans ?_ ((s.onSlots SlotTable.cleared).captureRestart_effect die).1
  simp [State.restartOwners_before, State.restartBefore]

theorem State.restartOwners_gov :
    (s.frameActive = true → s.tearSettled = true → (s.restartOwners die).gov.sample = some (max (-40) (min 150 die)))
      ∧ (s.frameActive = false ∨ s.tearSettled = false →
        (s.restartOwners die).gov = s.gov ∧ (s.restartOwners die).notice = s.notice) := by
  obtain ⟨-, -, sample, kept, -⟩ := (s.onSlots SlotTable.cleared).captureRestart_effect die
  refine ⟨fun active back => ?_, fun stays => ?_⟩
  · simpa [State.restartOwners_before, State.restartBefore] using sample active back
  · obtain ⟨gov, notice, -⟩ := kept stays
    simpa [State.restartOwners_before, State.restartBefore] using And.intro gov notice

/-- R163: with the store not OPEN nothing of the Path Unit changes; with it OPEN its loss count is cleared. -/
theorem State.restartOwners_path : (s.store.state ≠ .opened → (s.restartOwners die).path = s.path)
    ∧ (s.store.state = .opened → (s.restartOwners die).path = { s.path with lossCount := 0 }) := by
  obtain ⟨e, engines⟩ := State.captureRestart_engines die (s.onSlots SlotTable.cleared)
  by_cases opened : s.store.state = .opened
  · have path := (State.storeRestart_opened
      (s := ((s.onSlots SlotTable.cleared).captureRestart die).monitorRestart) (by simpa [engines] using opened)).1
    simp [State.restartOwners_before, State.restartBefore, path, opened]
  · have path := State.storeRestart_of_not_opened
      (s := ((s.onSlots SlotTable.cleared).captureRestart die).monitorRestart) (by simpa [engines] using opened)
    simp [State.restartOwners_before, State.restartBefore, path, opened]

/-- R82, R163: a store CLOSED with no catalog stays as it is when no frame is torn. -/
theorem State.restartOwners_store_closed (quiet : s.frameActive = false) (closed : s.store.state ≠ .opened)
    (empty : s.store.catalog = []) : (s.restartOwners die).store = s.store := by
  have store := (((s.onSlots SlotTable.cleared).captureRestart_effect die).2.2.2.1 (.inl quiet)).2.2
  have before : (s.restartBefore die).store = s.store := by
    rw [State.restartBefore, State.storeRestart_of_not_opened (by simpa [store] using closed)]
    simpa using store
  have alone (j : Nat) : (s.store.recAt j).wanted = false := by
    rw [Store.recAt_of_length_le (by rw [empty]; exact Nat.zero_le j)]
    rfl
  have first := (State.outputRestart_unmarks (s := s.restartBefore die) .a (by rwa [before])).1
  rw [before] at first
  have same := first.eq_of_empty empty
  have second := (State.outputRestart_unmarks (s := (s.restartBefore die).outputRestart .a) .b (by rwa [same])).1
  rw [same] at second
  exact second.eq_of_empty empty

/-- R163: what RESTART makes of an OPEN store before its outputs act. -/
theorem State.restartBefore_opened (opened : s.store.state = .opened) :
    let t := s.restartBefore die
    t.store = { s.store with catalog := t.store.catalog, order := t.store.order, queue := [], engine := t.store.engine }
      ∧ t.store.engine.state = .idle ∧ t.store.engine.waiting = []
      ∧ t.store.engine.flight = (s.store.engine.flight.map fun y => { y with stale := true })
      ∧ (∀ p, t.store.recAt p = if p ∈ s.store.copyingRecs then Rec.blank else { s.store.recAt p with wanted := false })
      ∧ (s.store.order.Nodup → ∀ p, p ∈ t.store.order ↔ p ∈ s.store.order ∧ p ∉ s.store.copyingRecs)
      ∧ (∀ p ∈ s.store.copyingRecs, .record (.catalog p) ∈ t.recs.waiting ∧ .record .status ∈ t.recs.waiting)
      ∧ (s.store.queue ≠ [] → .record .status ∈ t.recs.waiting) := by
  obtain ⟨e, engines⟩ := State.captureRestart_engines die (s.onSlots SlotTable.cleared)
  have flight := ((s.onSlots SlotTable.cleared).captureRestart_effect die).2.2.2.2
  rw [State.onSlots_store] at engines
  rw [State.onSlots_store, engines] at flight
  have effect := (State.storeRestart_opened
    (s := ((s.onSlots SlotTable.cleared).captureRestart die).monitorRestart) (by simpa [engines] using opened)).2
  rw [State.monitorRestart_store, engines] at effect
  dsimp only at flight effect
  rw [flight] at effect
  exact effect

/-- R163: what RESTART makes of an OPEN store, the marks of the outputs removed besides. -/
theorem State.restartOwners_store_opened (opened : s.store.state = .opened) :
    let t := s.restartOwners die
    t.store = { s.store with catalog := t.store.catalog, order := t.store.order, queue := [], engine := t.store.engine }
      ∧ t.store.engine.state = .idle ∧ t.store.engine.waiting = []
      ∧ t.store.engine.flight = (s.store.engine.flight.map fun y => { y with stale := true })
      ∧ (∀ p ∈ s.store.copyingRecs, t.store.recAt p = Rec.blank
          ∧ .record (.catalog p) ∈ t.recs.waiting ∧ .record .status ∈ t.recs.waiting)
      ∧ (∀ p, p ∉ s.store.copyingRecs → t.store.recAt p = { s.store.recAt p with
          wanted := false, recallA := (t.store.recAt p).recallA, recallB := (t.store.recAt p).recallB })
      ∧ (∀ x, ((s.out x).state = .enabled → (s.out x).queue = []) → ∀ p, (t.store.recAt p).recalled x = false)
      ∧ (s.store.order.Nodup → ∀ p, p ∈ t.store.order ↔ p ∈ s.store.order ∧ p ∉ s.store.copyingRecs)
      ∧ (s.store.queue ≠ [] → .record .status ∈ t.recs.waiting) := by
  obtain ⟨eq, idle, waiting, stale, entry, order, written, status⟩ := State.restartBefore_opened (die := die) opened
  have alone (j : Nat) : ((s.restartBefore die).store.recAt j).wanted = false := by
    rw [entry]
    split <;> rfl
  obtain ⟨unmarksA, recsA, noneA⟩ := State.outputRestart_unmarks .a alone
  obtain ⟨unmarksB, recsB, noneB⟩ := State.outputRestart_unmarks .b (unmarksA.wanted alone)
  have unmarks := unmarksA.trans unmarksB
  have recs := recsB.trans recsA
  rw [← State.restartOwners_before] at unmarks recs noneB
  have kept := unmarks.eq
  refine ⟨?_, by rw [kept, eq]; exact idle, by rw [kept]; exact waiting, by rw [kept]; exact stale,
    fun p copying => ⟨unmarks.blank (by rw [entry, if_pos copying]), by rw [recs]; exact written p copying⟩,
    fun p other => ?_, fun x none p => ?_, fun nodup p => by rw [kept]; exact order nodup p,
    fun busy => by rw [recs]; exact status busy⟩
  · rw [kept, eq]
  · rw [unmarks.entry, entry, if_neg other]
  · cases x
    · exact unmarksB.unmarked .a p (noneA (by rw [State.restartBefore_out]; exact none) p)
    · refine noneB ?_ p
      rw [show ((s.restartBefore die).outputRestart .a).out .b = (s.restartBefore die).out .b from
        State.outputRestart_out_other (x := .a), State.restartBefore_out]
      exact none

end Sys2Proof.Machine
end

section
/-! RESTART (R30): the obligation. -/

namespace Sys2Proof.Machine

variable {s t u : State} {x : OutId} {die : Int} {k p q : Nat}

/-- R30: RESTART dispatched: its record is accepted and the restart is in progress. -/
def State.restartBegun (die : Int) (s : State) : State :=
  (s.accept (.restart die)).onRing fun r => { r with restarting := true }

theorem exec_restart (running : s.notice.halted = false) :
    exec (.restart die) s = .next ((s.restartBegun die).restartOwners die).finishRestart := by
  simp only [exec, execRestart, State.unlessHalted_of_not running]
  rfl

theorem State.restartBegun_restarting (die : Int) (s : State) : (s.restartBegun die).ring.restarting = true := by
  simp [State.restartBegun]

theorem State.restartBegun_frame (die : Int) (s : State) : s.changesOnly [.ring] (s.restartBegun die) := by
  intro b hb
  cases b with
  | ring => simp at hb
  | _ => simp [Block.same, State.restartBegun]

theorem State.accept_pointers (c : Instr) (s : State) :
    (s.accept c).ring = { s.ring with flight := (s.accept c).ring.flight } := by
  unfold State.accept
  split
  · split <;> rfl
  · rfl

theorem State.answerAccepted_pointers (ty : Nat) (st : Status) (s : State) :
    (s.answerAccepted ty st).ring.head = s.ring.head ∧ (s.answerAccepted ty st).ring.tail = s.ring.tail
      ∧ (s.answerAccepted ty st).ring.errors = s.ring.errors := by
  unfold State.answerAccepted
  split
  · split <;> exact ⟨rfl, rfl, rfl⟩
  · exact ⟨rfl, rfl, rfl⟩

/-- R30: with every owner's report in, RESTART is answered DONE. -/
theorem State.restart_answered (settled : ((s.restartBegun die).restartOwners die).restartSettled = true) :
    let t := ((s.restartBegun die).restartOwners die).finishRestart
    t.ring.head = s.ring.head ∧ t.ring.tail = s.ring.tail ∧ t.ring.errors = s.ring.errors ∧ t.ring.restarting = false
      ∧ s.AnswersNow (.restart die) .done t := by
  have begun := State.restartBegun_restarting die s
  rw [State.finishRestart_of_settled (by simpa using begun) settled]
  obtain ⟨head, tail, errors⟩ := State.answerAccepted_pointers 26 .done
    (((s.restartBegun die).restartOwners die).onRing fun r => { r with restarting := false })
  have pointers := State.accept_pointers (.restart die) s
  refine ⟨head.trans ?_, tail.trans ?_, errors.trans ?_, by simp, State.answersNow_answerAccepted (fun rec names => ?_) ?_ _⟩
  · simp only [State.onRing_ring, State.restartOwners_ring, State.restartBegun]
    rw [pointers]
  · simp only [State.onRing_ring, State.restartOwners_ring, State.restartBegun]
    rw [pointers]
  · simp only [State.onRing_ring, State.restartOwners_ring, State.restartBegun]
    rw [pointers]
  · exact (type_of_decodeDirective names).2.2.2 die rfl
  · simp only [State.onRing_ring, State.restartOwners_ring, State.restartBegun]

theorem State.restart_waits (waits : ((s.restartBegun die).restartOwners die).restartSettled = false) :
    let t := ((s.restartBegun die).restartOwners die).finishRestart
    t.ring.restarting = true ∧ s.Accepts (.restart die) t := by
  rw [State.finishRestart_of_not_settled waits]
  refine ⟨by simpa using State.restartBegun_restarting die s, ?_⟩
  obtain ⟨last, accepted⟩ := State.accepts_accept (s := s) (c := .restart die) rfl
  simp only [State.Accepts, State.restartOwners_ring, State.restartBegun, State.onRing_ring]
  exact ⟨last, accepted⟩

@[simp] theorem State.finishRestart_out (y : OutId) (s : State) : s.finishRestart.out y = s.out y := by
  cases y <;> simp

theorem State.record_mem_finishRestart {k : Target} (mem : .record k ∈ s.recs.waiting) :
    .record k ∈ s.finishRestart.recs.waiting := by
  unfold State.finishRestart
  split
  · exact State.record_mem_answerAccepted (s := s.onRing fun r => { r with restarting := false }) _ _ mem
  · exact mem

theorem State.tearSettled_eq_false_iff :
    s.tearSettled = false ↔ s.cap.lumaFlight ≠ [] ∨ ∃ e ∈ s.path.fwd, e.chroma = true ∧ e.resp = none := by
  rw [← Bool.not_eq_true, State.tearSettled_iff]
  simp only [not_and_or, not_forall, ne_eq, not_not, exists_prop]

/-- R30: what RESTART leaves in the blocks that do not depend on the store's state. -/
theorem State.restart_effect (die : Int) (s : State) :
    let t := ((s.restartBegun die).restartOwners die).finishRestart
    t.cap = s.cap.restart (s.frameActive && !s.tearSettled) ∧ t.slots = s.slots.cleared ∧ t.mon = s.mon.restart
      ∧ (∀ y, t.out y = (s.out y).restarted) ∧ t.pending = s.pending
      ∧ (s.frameActive = true → s.tearSettled = true → t.gov.sample = some (max (-40) (min 150 die)))
      ∧ (s.frameActive = false ∨ s.tearSettled = false → t.gov = s.gov ∧ t.notice = s.notice)
      ∧ (s.store.state ≠ .opened → t.path = s.path)
      ∧ (s.store.state = .opened → t.path = { s.path with lossCount := 0 }) := by
  have same := State.restartBegun_frame die s
  have cap : (s.restartBegun die).cap = s.cap := same .cap (by simp)
  have path : (s.restartBegun die).path = s.path := same .path (by simp)
  have gov : (s.restartBegun die).gov = s.gov := same .gov (by simp)
  have notice : (s.restartBegun die).notice = s.notice := same .notice (by simp)
  have store : (s.restartBegun die).store = s.store := same .store (by simp)
  have active : (s.restartBegun die).frameActive = s.frameActive := by rw [State.frameActive, cap]; rfl
  have back : (s.restartBegun die).tearSettled = s.tearSettled := by
    rw [State.tearSettled, State.chromaOut, cap, path]
    rfl
  obtain ⟨sample, kept⟩ := State.restartOwners_gov (s := s.restartBegun die) (die := die)
  obtain ⟨other, opened⟩ := State.restartOwners_path (s := s.restartBegun die) (die := die)
  rw [active, back] at sample kept
  rw [gov, notice] at kept
  rw [store, path] at other opened
  refine ⟨?_, ?_, ?_, fun y => ?_, ?_, ?_, ?_, ?_, ?_⟩
  · rw [State.finishRestart_cap, State.restartOwners_cap, active, back, cap]
  · rw [State.finishRestart_slots, State.restartOwners_slots]
    simp [State.restartBegun]
  · rw [State.finishRestart_mon, State.restartOwners_mon]
    simp [State.restartBegun]
  · rw [State.finishRestart_out, State.restartOwners_out (State.restartBegun_restarting die s)]
    cases y <;> simp [State.restartBegun]
  · simp [State.restartBegun]
  · simpa using sample
  · simpa using kept
  · simpa using other
  · simpa using opened

/-- R131: an output with no read to answer is LIVE after RESTART, its view and geometry kept; ENABLED it has left. -/
theorem Engine.restarted_of_empty {e : Engine} (empty : e.queue = []) :
    e.restarted.source = .live ∧ e.restarted.geom = e.geom ∧ e.restarted.view = e.view
      ∧ (e.state = .enabled → e.restarted.state = .disabled ∧ e.restarted.latch = none ∧ e.restarted.damaged = false
        ∧ e.restarted.luma = PlaneCache.empty ∧ e.restarted.chroma = PlaneCache.empty)
      ∧ (e.state ≠ .enabled → e.restarted.state = e.state) := by
  unfold Engine.restarted
  by_cases enabled : e.state = .enabled
  · rw [if_pos enabled, if_pos empty]
    exact ⟨rfl, rfl, rfl, fun _ => ⟨rfl, rfl, rfl, rfl, rfl⟩, fun other => absurd enabled other⟩
  · rw [if_neg enabled]
    exact ⟨rfl, rfl, rfl, fun h => absurd h enabled, fun _ => rfl⟩

/-- R131: an output with no read to answer is not leaving after RESTART unless it was before. -/
theorem Engine.restarted_leaving {e : Engine} (empty : e.queue = []) (stays : e.leaving = false) :
    e.restarted.leaving = false := by
  unfold Engine.restarted
  split
  · rfl
  · exact stays

/-- Settles O4: the owners' restarts, and the answer at once or once all have reported. -/
theorem restartFromRestIsAnsweredAtOnce : Obligations.RestartFromRestIsAnsweredAtOnce := by
  refine ⟨fun die s running quiet untorn emptyA emptyB stayA stayB noFlight closed noCatalog => ?_,
    fun die s running => ?_⟩
  · refine ⟨_, exec_restart running, ?_⟩
    have inactive : s.frameActive = false := by simp [State.frameActive, quiet, untorn]
    have notOpened : s.store.state ≠ .opened := by rw [closed]; nofun
    obtain ⟨cap, slots, mon, out, pending, -, kept, path, -⟩ := State.restart_effect die s
    obtain ⟨gov, notice⟩ := kept (.inl inactive)
    have begun : (s.restartBegun die).store = s.store := State.restartBegun_frame die s .store (by simp)
    have store : ((s.restartBegun die).restartOwners die).store = s.store := by
      rw [State.restartOwners_store_closed, begun]
      · simpa [State.frameActive, State.restartBegun] using inactive
      · rw [begun]
        exact notOpened
      · rw [begun]
        exact noCatalog
    have stays (y : OutId) : (s.out y).restarted.leaving = false := by
      cases y
      · exact Engine.restarted_leaving emptyA stayA
      · exact Engine.restarted_leaving emptyB stayB
    have settled : ((s.restartBegun die).restartOwners die).restartSettled = true := by
      refine State.restartSettled_iff.2 ⟨?_, ?_, ?_, by rw [store]; exact noFlight⟩
      · rw [← State.finishRestart_cap, cap, inactive]
        rfl
      · rw [← State.out_a, ← State.finishRestart_out, out, stays]
      · rw [← State.out_b, ← State.finishRestart_out, out, stays]
    obtain ⟨head, tail, errors, done, answers⟩ := State.restart_answered settled
    refine ⟨?_, slots, mon, fun x => ?_, by rw [State.finishRestart_store, store], head, tail, errors, done, answers,
      fun b hb => ?_⟩
    · rw [cap, inactive]
      rfl
    · rw [out]
      exact Engine.restarted_of_empty (by cases x; exact emptyA; exact emptyB)
    · cases b with
      | recs | ring | slots | cap | mon | outA | outB => simp at hb
      | path => exact path notOpened
      | store => exact (State.finishRestart_store _).trans store
      | gov => exact gov
      | notice => exact notice
      | pending => exact pending
  · intro active out
    refine ⟨_, exec_restart running, ?_⟩
    obtain ⟨cap, slots, mon, outs, -, sample, kept, path, lossPath⟩ := State.restart_effect die s
    have begun : (s.restartBegun die).store = s.store := State.restartBegun_frame die s .store (by simp)
    have isActive : active ↔ s.frameActive = true := State.frameActive_iff.symm
    have isOut : out ↔ s.tearSettled = false := State.tearSettled_eq_false_iff.symm
    have tearing : ((s.restartBegun die).restartOwners die).finishRestart.cap.tearing = true ↔ active ∧ out := by
      rw [isActive, isOut, cap]
      simp [Capture.restart]
    have settled : ((s.restartBegun die).restartOwners die).restartSettled = true ↔
        ((s.restartBegun die).restartOwners die).finishRestart.restartSettled = true := by
      simp only [State.restartSettled, State.finishRestart_cap, State.finishRestart_outA, State.finishRestart_outB,
        State.finishRestart_store]
    rw [State.restartSettled_iff (s := State.finishRestart _)] at settled
    refine ⟨by rw [cap]; rfl, by rw [cap]; rfl, by rw [cap]; rfl, by rw [cap]; rfl, by rw [cap]; rfl, by rw [slots]; rfl,
      fun k => by rw [slots, SlotTable.slot_cleared]; rfl, by rw [mon]; rfl, ?_, ?_, ?_, ?_, ?_, fun x on busy => ?_,
      fun x on empty => ?_, fun untorn stayA stayB idle => ?_, fun waits => ?_, fun opened => ?_⟩
    · by_cases opened : s.store.state = .opened
      · rw [lossPath opened]
      · rw [path opened]
    · exact fun inProgress waits => tearing.2 ⟨inProgress, waits⟩
    · exact fun past => Bool.eq_false_iff.2 fun torn => past.elim (· (tearing.1 torn).1) (· (tearing.1 torn).2)
    · exact fun inProgress back => sample (isActive.1 inProgress) (by simpa using mt isOut.2 back)
    · exact fun past => kept (past.imp (fun none => by simpa using mt isActive.2 none) isOut.1)
    · rw [outs, Engine.restarted, if_pos on, if_neg busy]
    · rw [outs, Engine.restarted, if_pos on, if_pos empty]
      exact ⟨rfl, rfl, rfl, rfl⟩
    · exact (State.restart_answered (settled.2 ⟨untorn, stayA, stayB, idle⟩)).2.2.2
    · refine State.restart_waits (Bool.eq_false_iff.2 fun done => ?_)
      obtain ⟨untorn, stayA, stayB, idle⟩ := settled.1 done
      obtain torn | leaves | leaves | flight := waits
      · exact absurd torn (by rw [untorn]; exact Bool.false_ne_true)
      · exact absurd leaves (by rw [stayA]; exact Bool.false_ne_true)
      · exact absurd leaves (by rw [stayB]; exact Bool.false_ne_true)
      · exact flight idle
    · obtain ⟨eq, idle, waiting, stale, copying, others, marks, order, status⟩ :=
        State.restartOwners_store_opened (s := s.restartBegun die) (die := die) (by rw [begun]; exact opened)
      have out (y : OutId) : (s.restartBegun die).out y = s.out y := by cases y <;> simp [State.restartBegun]
      have written {k : Target} (mem : .record k ∈ ((s.restartBegun die).restartOwners die).recs.waiting) :=
        State.record_mem_finishRestart mem
      rw [begun] at eq stale copying others order status
      simp only [out] at marks
      rw [State.finishRestart_store]
      refine ⟨by rw [lossPath opened], eq, idle, waiting, stale, fun p inside => ⟨fun copies => ?_, fun other => ?_,
        fun x none => marks x none p⟩, fun nodup p inside => ?_, fun busy => written (status busy)⟩
      · obtain ⟨blank, catalog, status⟩ := copying p (Store.mem_copyingRecs.2 ⟨inside, copies⟩)
        exact ⟨blank, written catalog, written status⟩
      · exact others p fun mem => other (Store.mem_copyingRecs.1 mem).2
      · rw [order nodup, Store.mem_copyingRecs, not_and]
        exact and_congr_right fun _ => ⟨fun h => h inside, fun h _ => h⟩

end Sys2Proof.Machine
end

section
/-! Class A reads: how a span is split (R66, R125), and a source row's segment (R125). -/

namespace Sys2Proof.Machine

/-! ### Pieces of a span (R66, R125) -/

theorem pieceLen_spec {addr limit : Nat} (before : addr < limit) :
    0 < pieceLen addr limit ∧ pieceLen addr limit ≤ 256 ∧ addr % 4096 + pieceLen addr limit ≤ 4096
      ∧ addr + pieceLen addr limit ≤ limit
      ∧ (pieceLen addr limit = 256 ∨ (addr + pieceLen addr limit) % 4096 = 0 ∨ addr + pieceLen addr limit = limit) := by
  simp only [pieceLen, Config.maxTransfer, Config.page]
  omega

/-- The pieces cover what is left of a span, each as long as possible. -/
theorem splitSpan_splits : ∀ (fuel addr limit : Nat), addr ≤ limit → limit - addr ≤ fuel →
    SplitsSpan addr (limit - addr) (splitSpan fuel addr limit)
  | 0, addr, limit, before, enough => by
    have empty : limit - addr = 0 := Nat.le_zero.1 enough
    rw [splitSpan, empty]
    exact ⟨rfl, nofun⟩
  | fuel + 1, addr, limit, before, enough => by
    rw [splitSpan]
    split
    next past =>
      rw [Nat.sub_eq_zero_of_le past]
      exact ⟨rfl, nofun⟩
    next more =>
      obtain ⟨pos, short, page, inside, long⟩ := pieceLen_spec (Nat.lt_of_not_le more)
      obtain ⟨sum, pieces⟩ := splitSpan_splits fuel (addr + pieceLen addr limit) limit inside (by omega)
      refine ⟨by rw [List.map_cons, List.sum_cons, sum]; omega, fun i a n piece => ?_⟩
      cases i with
      | zero =>
        obtain ⟨rfl, rfl⟩ := Prod.mk.inj (Option.some.inj piece)
        refine ⟨rfl, pos, short, page, ?_⟩
        omega
      | succ i =>
        obtain ⟨start, rest⟩ := pieces i a n piece
        rw [List.take_succ_cons, List.map_cons, List.sum_cons]
        refine ⟨by omega, ?_⟩
        omega

theorem spanOf_splits (addr len : Nat) : SplitsSpan addr len (spanOf addr len) := by
  have whole := splitSpan_splits len addr (addr + len) (Nat.le_add_right ..) (by omega)
  rwa [Nat.add_sub_cancel_left] at whole

/-! ### The columns a row uses (R125) -/

variable {v : PlaneView} {l : Latch} {g : OutGeom} {p : Plane} {c i j lo hi : Nat}

/-- R125: output column `c` is computed from source column `i` and the one after it. -/
def PlaneView.Uses (v : PlaneView) (c i : Nat) : Prop :=
  c < v.outWidth ∧ 0 ≤ v.sx c ∧ v.sx c < (v.width * 65536 : Nat) ∧ i = (v.sx c).toNat / 65536

/-- The source columns used. -/
def PlaneView.used (v : PlaneView) : List Nat := v.columns.map fun c => sampleIndex (v.sx c)

theorem PlaneView.mem_used : i ∈ v.used ↔ ∃ c, v.Uses c i := by
  simp only [PlaneView.used, PlaneView.columns, List.mem_map, List.mem_filter, List.mem_range, inside_iff, PlaneView.Uses,
    sampleIndex]
  exact exists_congr fun c => ⟨fun ⟨⟨a, b, d⟩, e⟩ => ⟨a, b, d, e.symm⟩, fun ⟨a, b, d, e⟩ => ⟨⟨a, b, d⟩, e.symm⟩⟩

theorem foldl_min_eq {l : List Nat} (mem : lo ∈ l) (least : ∀ i ∈ l, lo ≤ i) : l.foldl min (l.headD 0) = lo := by
  cases l with
  | nil => exact absurd mem List.not_mem_nil
  | cons i l =>
    have minimum : (i :: l).min? = some lo := List.min?_eq_some_iff.2 ⟨mem, least⟩
    rw [List.min?_cons'] at minimum
    simpa using minimum

theorem foldl_max_eq {l : List Nat} (mem : hi ∈ l) (most : ∀ i ∈ l, i ≤ hi) : l.foldl max 0 = hi := by
  obtain ⟨-, above⟩ := le_foldl_max id l 0
  obtain zero | ⟨i, hi', attained⟩ := foldl_max_attained id l 0
  · exact le_antisymm (zero.le.trans (Nat.zero_le _)) (above _ mem)
  · exact le_antisymm (attained.le.trans (most _ hi')) (above _ mem)

theorem PlaneView.span_eq {c c' : Nat} (first : v.Uses c lo) (least : ∀ d i, v.Uses d i → lo ≤ i)
    (last : v.Uses c' hi) (most : ∀ d i, v.Uses d i → i ≤ hi) : v.span = (lo, min (hi + 1) (v.width - 1)) := by
  have lowest : v.used.foldl min (v.used.headD 0) = lo :=
    foldl_min_eq (PlaneView.mem_used.2 ⟨c, first⟩) fun i mem => (PlaneView.mem_used.1 mem).elim fun d uses => least d i uses
  have highest : v.used.foldl max 0 = hi :=
    foldl_max_eq (PlaneView.mem_used.2 ⟨c', last⟩) fun i mem => (PlaneView.mem_used.1 mem).elim fun d uses => most d i uses
  simp only [PlaneView.span]
  rw [show v.columns.map (fun c => sampleIndex (v.sx c)) = v.used from rfl, lowest, highest]

/-- R125: the segment of source row `j`, from the first source column used to the one after the last. -/
theorem segmentReads_eq (span : v.span = (lo, hi)) (l : Latch) (p : Plane) (j : Nat) : segmentReads l p v j =
    let first := rowAddr l p j + (match p with | .luma => lo | .chroma => 2 * lo)
    let last := rowAddr l p j + (match p with | .luma => hi | .chroma => 2 * hi + 1)
    spanOf (first / 16 * 16) ((last / 16 + 1) * 16 - first / 16 * 16) := by
  cases p
  · simp only [segmentReads, segment, span]
  · simp only [segmentReads, segment, span]

end Sys2Proof.Machine
end

section
/-! Class A responses (R126, R127): how a place of the line cache settles. -/

namespace Sys2Proof.Machine

variable {c : PlaneCache} {e : Engine} {p : Plane} {f : RowFetch} {old new pl done : CachePlace} {j addr : Nat} {r : Resp}
  {data : List Byte} {needed : List Nat} {k : FetchKind} {s : State} {x : OutId}

/-! ### Places replaced -/

theorem PlaneCache.place?_row (found : c.place? j = some pl) : pl.row = j :=
  of_decide_eq_true (List.find?_some (p := fun p : CachePlace => decide (p.row = j)) found)

theorem PlaneCache.place?_eq_none : c.place? j = none ↔ ∀ pl ∈ c.places, pl.row ≠ j := by
  simp [PlaneCache.place?]

theorem PlaneCache.mem_of_place? (found : c.place? j = some pl) : pl ∈ c.places := List.mem_of_find?_eq_some found

theorem PlaneCache.rows_replace (same : new.row = old.row) :
    (c.replace old new).places.map (·.row) = c.places.map (·.row) := by
  simp only [PlaneCache.replace, List.map_map]
  refine List.map_congr_left fun q _ => ?_
  simp only [Function.comp]
  split
  next here => rw [same, here]
  next => rfl

theorem PlaneCache.place?_replace_of_none (same : new.row = old.row) (none : c.place? j = none) :
    (c.replace old new).place? j = .none := by
  have rows := c.rows_replace same
  rw [PlaneCache.place?_eq_none] at none ⊢
  intro q mem here
  have row : j ∈ c.places.map (·.row) := rows ▸ List.mem_map.2 ⟨q, mem, here⟩
  obtain ⟨q', mem', here'⟩ := List.mem_map.1 row
  exact none q' mem' here'

/-- The place that holds a row, replaced, still holds it. -/
theorem PlaneCache.place?_replace (found : c.place? j = some old) (same : new.row = old.row) :
    (c.replace old new).place? j = some new := by
  have row : new.row = j := same.trans (PlaneCache.place?_row found)
  obtain ⟨-, pre, post, places, before⟩ := List.find?_eq_some_iff_append.1 found
  have kept : pre.map (fun q => if q = old then new else q) = pre := by
    refine (List.map_congr_left fun q mem => if_neg fun here => ?_).trans (List.map_id pre)
    have away := before q mem
    rw [here, PlaneCache.place?_row found] at away
    simp at away
  refine List.find?_eq_some_iff_append.2 ⟨decide_eq_true row, pre, post.map fun q => if q = old then new else q, ?_, before⟩
  simp only [PlaneCache.replace, places, List.map_append, List.map_cons, kept, if_true]

@[simp] theorem PlaneCache.replace_waiting : (c.replace old new).waiting = c.waiting := rfl
@[simp] theorem PlaneCache.replace_failed : (c.replace old new).failed = c.failed := rfl

/-! ### A read returned -/

theorem CachePlace.receive_row : (pl.receive addr r data).row = pl.row := by cases r <;> rfl
theorem CachePlace.receive_kind : (pl.receive addr r data).kind = pl.kind := by cases r <;> rfl

theorem CachePlace.receive_reads :
    (pl.receive addr r data).pieces.map (fun q => (q.addr, q.len)) = pl.pieces.map fun q => (q.addr, q.len) := by
  have same (x : PieceResult) (q : Piece) : ((q.setResult addr x).addr, (q.setResult addr x).len) = (q.addr, q.len) := by
    unfold Piece.setResult
    split <;> rfl
  cases r <;> simp only [CachePlace.receive, List.map_map, Function.comp_def, same]

/-- The last read of a segment has returned. -/
theorem CachePlace.receive_returned (last : ∀ q ∈ pl.pieces, q.addr ≠ addr → q.result ≠ .waiting) :
    (pl.receive addr r data).returned = true := by
  have settled (x : PieceResult) (back : x ≠ .waiting) :
      ((pl.pieces.map (Piece.setResult addr x)).all fun q => decide (q.result ≠ .waiting)) = true := by
    rw [List.all_map, List.all_eq_true]
    intro q mem
    refine decide_eq_true ?_
    unfold Piece.setResult
    split
    next => exact back
    next away => exact last q mem away
  cases r
  · exact settled _ nofun
  · exact settled _ nofun

theorem exec_sourceRowFetchResponse (running : s.notice.halted = false)
    (found : (s.out x).fetchFlight.find? (fun f => decide (f.addr = addr)) = some f)
    (fits : r = .okay → data.length = f.len) : exec (.sourceRowFetchResponse x addr r data) s = .next (s.onOut x fun e =>
      if f.stale then { e with fetchFlight := e.fetchFlight.erase f }
      else ({ e with fetchFlight := e.fetchFlight.erase f } : Engine).fetchReturned f r data) := by
  have found : (s.out x).inFlight? addr = some f := found
  simp only [exec, execSourceRowFetchResponse, found, State.unlessHalted_of_not running]
  rw [if_neg fun both => both.2 (fits both.1)]

/-! ### A place settles (R127) -/

@[simp] theorem Engine.cache_raiseReads (p q : Plane) (j : Nat) (reads : List (Nat × Nat)) (e : Engine) :
    (e.raiseReads p j reads).cache q = e.cache q := by cases q <;> rfl

@[simp] theorem Engine.onCache_fetchWaiting (p : Plane) (f : PlaneCache → PlaneCache) (e : Engine) :
    (e.onCache p f).fetchWaiting = e.fetchWaiting := by cases p <;> rfl

@[simp] theorem Engine.cache_fetchFlight (p : Plane) (l : List RowFetch) (e : Engine) :
    ({ e with fetchFlight := l } : Engine).cache p = e.cache p := by cases p <;> rfl

theorem Engine.refetch_eq (p : Plane) (pl : CachePlace) (e : Engine) :
    e.refetch p pl = (e.onCache p (·.replace pl (fetchingPlace pl.row .refetch (pl.pieces.map fun q =>
      (q.addr, q.len))))).raiseReads p pl.row (pl.pieces.map fun q => (q.addr, q.len)) := rfl

/-- R127: a segment fetched once more. -/
theorem Engine.fetchReturned_of_refetch (placed : (e.cache f.plane).place? f.row = some old)
    (last : ∀ q ∈ old.pieces, q.addr ≠ f.addr → q.result ≠ .waiting) (demand : old.kind = .demand)
    (bad : r = .error ∨ old.failAddr ≠ none) :
    let t := e.fetchReturned f r data
    (t.cache f.plane).waiting = (e.cache f.plane).waiting
      ∧ (t.cache f.plane).places.map (·.row) = (e.cache f.plane).places.map (·.row)
      ∧ (t.cache f.plane).place? f.row = some ⟨old.row, .fetching, .refetch,
          old.pieces.map fun q => ⟨q.addr, q.len, .waiting⟩, none⟩
      ∧ t.fetchWaiting = e.fetchWaiting ++ old.pieces.map fun q => ⟨q.addr, q.len, f.plane, old.row, false⟩ := by
  have failed : (old.receive f.addr r data).settle = none := by
    have kind : (old.receive f.addr r data).kind = .demand := CachePlace.receive_kind.trans demand
    have fail : (old.receive f.addr r data).failAddr ≠ none := by
      cases r
      · exact bad.resolve_left nofun
      · exact nofun
    obtain ⟨a, fail⟩ := Option.ne_none_iff_exists'.1 fail
    simp only [CachePlace.settle, kind, fail]
  have form : e.fetchReturned f r data =
      (e.onCache f.plane (·.replace old (old.receive f.addr r data))).refetch f.plane (old.receive f.addr r data) := by
    simp only [Engine.fetchReturned, placed, CachePlace.receive_returned last, failed, if_true]
  have first := PlaneCache.place?_replace placed (CachePlace.receive_row (addr := f.addr) (r := r) (data := data))
  rw [form]
  rw [Engine.refetch_eq, CachePlace.receive_reads, CachePlace.receive_row]
  have row (reads : List (Nat × Nat)) :
      (fetchingPlace old.row .refetch reads).row = (old.receive f.addr r data).row := by
    rw [CachePlace.receive_row]
    rfl
  refine ⟨by simp, ?_, ?_, ?_⟩
  · simp only [Engine.cache_raiseReads, Engine.cache_onCache]
    exact (PlaneCache.rows_replace (row _)).trans (PlaneCache.rows_replace CachePlace.receive_row)
  · simp only [Engine.cache_raiseReads, Engine.cache_onCache]
    refine (PlaneCache.place?_replace first (row _)).trans ?_
    simp only [fetchingPlace, List.map_map, Function.comp_def]
  · simp only [Engine.raiseReads, Engine.onCache_fetchWaiting, List.map_map, Function.comp_def]

/-- R126, R127: a segment complete, its place settled. -/
theorem Engine.fetchReturned_of_settled (placed : (e.cache f.plane).place? f.row = some old)
    (last : ∀ q ∈ old.pieces, q.addr ≠ f.addr → q.result ≠ .waiting)
    (settled : (old.receive f.addr r data).settle = some done) : e.fetchReturned f r data =
      ((e.onCache f.plane (·.replace old (old.receive f.addr r data))).onCache f.plane fun c =>
        (c.replace (old.receive f.addr r data) done).noteFailed done).retryWaiting f.plane := by
  simp only [Engine.fetchReturned, placed, CachePlace.receive_returned last, settled, if_true]

/-- The cache of a plane one of whose places has settled. -/
def PlaneCache.settled (old pl done : CachePlace) (c : PlaneCache) : PlaneCache :=
  ((c.replace old pl).replace pl done).noteFailed done

theorem PlaneCache.noteFailed_places : (c.noteFailed done).places = c.places := by
  unfold PlaneCache.noteFailed
  split <;> rfl

theorem PlaneCache.noteFailed_waiting : (c.noteFailed done).waiting = c.waiting := by
  unfold PlaneCache.noteFailed
  split <;> rfl

theorem PlaneCache.noteFailed_of_sound (sound : done.cond ≠ .failed) : c.noteFailed done = c := by
  unfold PlaneCache.noteFailed
  split
  next failed _ => exact absurd failed sound
  next => rfl

theorem PlaneCache.settled_place? (placed : c.place? j = some old) (row : pl.row = old.row) (row' : done.row = pl.row) :
    (c.settled old pl done).place? j = some done := by
  refine Eq.trans ?_ (PlaneCache.place?_replace (PlaneCache.place?_replace placed row) row')
  simp only [PlaneCache.place?, PlaneCache.settled, PlaneCache.noteFailed_places]

theorem PlaneCache.settled_waiting : (c.settled old pl done).waiting = c.waiting := PlaneCache.noteFailed_waiting

theorem CachePlace.settle_row (settled : pl.settle = some done) : done.row = pl.row := by
  unfold CachePlace.settle at settled
  split at settled
  · obtain rfl := Option.some.inj settled
    rfl
  · obtain rfl := Option.some.inj settled
    rfl
  · cases settled
  · obtain rfl := Option.some.inj settled
    rfl

theorem Engine.onCache_onCache (p : Plane) (f f' : PlaneCache → PlaneCache) (e : Engine) :
    (e.onCache p f).onCache p f' = e.onCache p fun c => f' (f c) := by cases p <;> rfl

theorem Engine.onCache_self {f : PlaneCache → PlaneCache} (same : f (e.cache p) = e.cache p) : e.onCache p f = e := by
  cases p
  · exact congrArg (fun c => ({ e with luma := c } : Engine)) same
  · exact congrArg (fun c => ({ e with chroma := c } : Engine)) same

theorem Engine.retryWaiting_of_none (none : (e.cache p).waiting = []) : e.retryWaiting p = e := by
  simp only [Engine.retryWaiting, PlaneCache.waitingInTurn, none, List.filter_nil, List.append_nil, List.foldl_nil]
  exact Engine.onCache_self (by rw [← none])

/-- R126: with no fetch waiting for a place, a place that settles raises none. -/
theorem Engine.fetchReturned_alone (placed : (e.cache f.plane).place? f.row = some old)
    (last : ∀ q ∈ old.pieces, q.addr ≠ f.addr → q.result ≠ .waiting)
    (settled : (old.receive f.addr r data).settle = some done) (none : (e.cache f.plane).waiting = []) :
    e.fetchReturned f r data = e.onCache f.plane (·.settled old (old.receive f.addr r data) done) := by
  rw [Engine.fetchReturned_of_settled placed last settled, Engine.retryWaiting_of_none, Engine.onCache_onCache]
  · rfl
  · simp only [Engine.cache_onCache]
    exact PlaneCache.settled_waiting.trans none

end Sys2Proof.Machine
end

section
/-! Fetches that wait for a place (R126): the obligation on class A responses. -/

namespace Sys2Proof.Machine

variable {c : PlaneCache} {e : Engine} {p : Plane} {f : RowFetch} {old new pl done : CachePlace} {j r : Nat}
  {needed : List Nat} {k : FetchKind} {s : State} {x : OutId}

/-! ### A place is taken (R126) -/

theorem CachePlace.evictable_iff : pl.evictable needed = true ↔ pl.cond ≠ .fetching ∧ pl.row ∉ needed := by
  simp [CachePlace.evictable]

/-- R126: the place taken longest ago of those neither FETCHING nor needed gives way. -/
theorem PlaneCache.takePlace_of_evicted {pre post : List CachePlace} (full : c.places.length = 4)
    (places : c.places = pre ++ old :: post) (kept : ∀ q ∈ pre, q.evictable needed = false)
    (gives : old.evictable needed = true) : c.takePlace needed new = some { c with places := pre ++ post ++ [new] } := by
  have first : c.places.find? (CachePlace.evictable needed) = some old :=
    List.find?_eq_some_iff_append.2 ⟨gives, pre, post, places, fun q mem => by rw [kept q mem]; rfl⟩
  have away : old ∉ pre := fun mem => absurd gives (by rw [kept old mem]; exact Bool.false_ne_true)
  have erased : c.places.erase old = pre ++ post := by
    rw [places, List.erase_append_right _ away, List.erase_cons_head]
  have notFree : ¬ c.places.length < Config.cachePlaces := by rw [full]; decide
  simp only [PlaneCache.takePlace, if_neg notFree, first, erased]

/-- R126: with every place FETCHING or needed, a fetch waits. -/
theorem PlaneCache.takePlace_of_none (full : c.places.length = 4) (kept : ∀ q ∈ c.places, q.evictable needed = false) :
    c.takePlace needed new = none := by
  have none : c.places.find? (CachePlace.evictable needed) = none :=
    List.find?_eq_none.2 fun q mem => by rw [kept q mem]; exact Bool.false_ne_true
  have notFree : ¬ c.places.length < Config.cachePlaces := by rw [full]; decide
  simp only [PlaneCache.takePlace, if_neg notFree, none]

/-- R126: a row gets a place when one is free or gives way. -/
theorem PlaneCache.takePlace_of_some (room : c.places.length < 4 ∨ ∃ q ∈ c.places, q.evictable needed = true) :
    ∃ l, (∀ q ∈ l, q ∈ c.places) ∧ c.takePlace needed new = some { c with places := l ++ [new] } := by
  unfold PlaneCache.takePlace
  split
  · exact ⟨_, fun _ => id, rfl⟩
  next full =>
    split
    next old _ => exact ⟨_, fun _ mem => List.mem_of_mem_erase mem, rfl⟩
    next none =>
      obtain ⟨q, mem, gives⟩ := room.resolve_left full
      exact absurd gives (List.find?_eq_none.1 none q mem)

/-- R126: the fetch of a row that gets a place. -/
theorem Engine.fetchRow_of_some (unplaced : (e.cache p).place? j = none) (sound : (e.cache p).failed? j = none)
    (room : (e.cache p).places.length < 4 ∨ ∃ q ∈ (e.cache p).places, q.evictable needed = true) :
    let t := e.fetchRow p k needed j
    let reads := e.rowReads p j
    (t.cache p).waiting = (e.cache p).waiting.filter (fun w => decide (w.1 ≠ j))
      ∧ (t.cache p).place? j = some (fetchingPlace j k reads)
      ∧ t.fetchWaiting = e.fetchWaiting ++ reads.map fun a => ⟨a.1, a.2, p, j, false⟩ := by
  obtain ⟨l, kept, taken⟩ := PlaneCache.takePlace_of_some (new := fetchingPlace j k (e.rowReads p j)) room
  rw [Engine.fetchRow_of_taken unplaced sound taken]
  refine ⟨by simp, ?_, ?_⟩
  · simp only [Engine.cache_raiseReads, Engine.cache_onCache, PlaneCache.place?, List.find?_append]
    have none : l.find? (fun q => decide (q.row = j)) = .none := List.find?_eq_none.2 fun q mem => by
      simpa using PlaneCache.place?_eq_none.1 unplaced q (kept q mem)
    simp [none, fetchingPlace]
  · simp [Engine.raiseReads]

/-! ### What the rows needed depend on -/

theorem Engine.keepRows_onCache {g : PlaneCache → PlaneCache} (current : ∀ c, (g c).current = c.current)
    (previous : ∀ c, (g c).previous = c.previous) (p q : Plane) (e : Engine) :
    (e.onCache p g).keepRows q = e.keepRows q := by
  have buffers (a : Plane) (r : Nat) : ((e.onCache p g).cache a).rowBuffer? r = (e.cache a).rowBuffer? r := by
    by_cases same : a = p
    · rw [same, Engine.cache_onCache]
      simp only [PlaneCache.rowBuffer?, current, previous]
    · rw [Engine.cache_onCache_of_ne same]
  have computing : (e.onCache p g).computing = e.computing := by
    have queue : (e.onCache p g).queue = e.queue := by cases p <;> rfl
    simp only [Engine.computing, buffers, queue, Engine.onCache_geom]
  have computed : (e.onCache p g).computed = e.computed := by cases p <;> rfl
  obtain ⟨needs, -⟩ := Engine.needs_congr (e := e) (e' := e.onCache p g) (by simp) (by simp) q
  simp only [Engine.keepRows, Engine.rowAt, computing, computed, Engine.neededBy, Engine.needsIn, needs, Engine.nextRow,
    Engine.onCache_geom]

/-- R126: the one fetch that waited for a place tries again. -/
theorem Engine.retryWaiting_of_one (one : (e.cache p).waiting = [(j, k)]) : e.retryWaiting p =
    (e.onCache p fun c => { c with waiting := [] }).fetchRow p k (e.keepRows p) j := by
  have turn : (e.cache p).waitingInTurn = [(j, k)] := by
    by_cases prefetch : k = .prefetch
    · simp [PlaneCache.waitingInTurn, one, prefetch]
    · simp [PlaneCache.waitingInTurn, one, prefetch]
  simp only [Engine.retryWaiting, turn, List.foldl_cons, List.foldl_nil]
  rw [Engine.keepRows_onCache (g := fun c => { c with waiting := [] }) (fun _ => rfl) fun _ => rfl]

theorem PlaneCache.noteFailed_current (done : CachePlace) (c : PlaneCache) :
    (c.noteFailed done).current = c.current ∧ (c.noteFailed done).previous = c.previous := by
  unfold PlaneCache.noteFailed
  split <;> exact ⟨rfl, rfl⟩

/-- R126: a place that settles and is not needed gives way to the fetch that waited for one. -/
theorem Engine.fetchReturned_retries {r : Resp} {data : List Byte} (placed : (e.cache f.plane).place? f.row = some old)
    (last : ∀ q ∈ old.pieces, q.addr ≠ f.addr → q.result ≠ .waiting)
    (settled : (old.receive f.addr r data).settle = some done) (valid : done.cond = .valid)
    (one : (e.cache f.plane).waiting = [(j, k)]) (unplaced : (e.cache f.plane).place? j = none)
    (sound : (e.cache f.plane).failed = []) (spare : f.row ∉ e.keepRows f.plane) :
    let t := e.fetchReturned f r data
    let reads := e.rowReads f.plane j
    (t.cache f.plane).waiting = [] ∧ (t.cache f.plane).place? j = some (fetchingPlace j k reads)
      ∧ t.fetchWaiting = e.fetchWaiting ++ reads.map fun a => ⟨a.1, a.2, f.plane, j, false⟩ := by
  have row := CachePlace.receive_row (pl := old) (addr := f.addr) (r := r) (data := data)
  have row' := CachePlace.settle_row settled
  let u := e.onCache f.plane (·.settled old (old.receive f.addr r data) done)
  have cache : u.cache f.plane = (e.cache f.plane).settled old (old.receive f.addr r data) done :=
    Engine.cache_onCache ..
  have form : e.fetchReturned f r data =
      (u.onCache f.plane fun c => { c with waiting := [] }).fetchRow f.plane k (e.keepRows f.plane) j := by
    rw [Engine.fetchReturned_of_settled placed last settled, Engine.onCache_onCache]
    have kept : u.keepRows f.plane = e.keepRows f.plane := Engine.keepRows_onCache
      (g := (·.settled old (old.receive f.addr r data) done)) (fun _ => (PlaneCache.noteFailed_current done _).1)
      (fun _ => (PlaneCache.noteFailed_current done _).2) _ _ e
    have waits : (u.cache f.plane).waiting = [(j, k)] := by rw [cache, PlaneCache.settled_waiting, one]
    exact (Engine.retryWaiting_of_one waits).trans (by rw [kept])
  have here := PlaneCache.settled_place? placed row row'
  have reads : (u.onCache f.plane fun c => { c with waiting := [] }).rowReads f.plane = e.rowReads f.plane :=
    (Engine.needs_congr (by simp [u]) (by simp [u]) f.plane).2
  have raised := Engine.fetchRow_of_some (e := u.onCache f.plane fun c => { c with waiting := [] }) (p := f.plane) (j := j)
    (k := k) (needed := e.keepRows f.plane) ?unplaced ?sound ?room
  · rw [reads] at raised
    rw [form]
    simpa [u] using raised
  case unplaced =>
    rw [Engine.cache_onCache, cache]
    refine Eq.trans ?_ (PlaneCache.place?_replace_of_none row' (PlaneCache.place?_replace_of_none row unplaced))
    simp only [PlaneCache.place?, PlaneCache.settled, PlaneCache.noteFailed_places]
  case sound =>
    rw [Engine.cache_onCache, cache, PlaneCache.settled, PlaneCache.noteFailed_of_sound (by rw [valid]; nofun)]
    simp [PlaneCache.failed?, sound]
  case room =>
    rw [Engine.cache_onCache, cache]
    refine .inr ⟨done, PlaneCache.mem_of_place? here, CachePlace.evictable_iff.2 ⟨by rw [valid]; nofun, ?_⟩⟩
    rw [PlaneCache.place?_row here]
    exact spare

/-! ### The obligation -/

/-- R127: an OKAY of the last read of a segment none of whose reads failed makes its place VALID. -/
theorem CachePlace.settle_okay {data : List Byte} (good : old.failAddr = none) :
    (old.receive f.addr .okay data).settle = some { old with
      cond := .valid, pieces := old.pieces.map fun q => if q.addr = f.addr then { q with result := .ok data } else q } := by
  simp only [CachePlace.settle, CachePlace.receive, good]
  rfl

/-- R126: the rows the engine keeps are those of the row it is at and of the next. -/
theorem Engine.keepRows_of_row {g : OutGeom} {a : Plane} (geom : e.geom = some g) (row : e.rowAt = some (a, r)) (p' : Plane) :
    e.keepRows p' = (if p' = a then e.needs a r else [])
      ++ (if r + 1 < g.rows a then if p' = a then e.needs a (r + 1) else []
          else if a = .luma ∧ p' = .chroma then e.needs .chroma 0 else []) := by
  rw [Engine.keepRows_eq row, Engine.neededBy, Engine.needsIn]
  congr 1
  · cases a <;> cases p' <;> rfl
  · simp only [Engine.nextRow, geom]
    by_cases more : r + 1 < g.rows a
    · simp only [if_pos more]
      cases a <;> cases p' <;> rfl
    · simp only [if_neg more]
      cases a <;> cases p' <;> rfl

theorem Engine.rowAt_of_head {g : OutGeom} {a : Plane} (geom : e.geom = some g)
    (row : (e.queue = [] ∧ e.computed = some (a, r))
      ∨ (∃ q rest, e.queue = q :: rest ∧ (q.off ≠ 0 ∨ q.started = true) ∧ g.rowsOf q.off q.len = [(a, r)]
          ∧ (e.cache a).rowBuffer? r = none)) : e.rowAt = some (a, r) := by
  obtain ⟨empty, computed⟩ | ⟨q, rest, queue, started, rows, uncomputed⟩ := row
  · simp only [Engine.rowAt, Engine.computing, empty, Option.none_or, computed]
  · have waits : ¬ (q.off = 0 ∧ q.started = false) := fun both => started.elim (· both.1) (by simp [both.2])
    simp [Engine.rowAt, Engine.computing, queue, geom, waits, rows, uncomputed]

theorem Engine.addr_of_inFlight {addr : Nat} (found : e.fetchFlight.find? (fun f => decide (f.addr = addr)) = some f) :
    f.addr = addr := of_decide_eq_true (List.find?_some (p := fun f : RowFetch => decide (f.addr = addr)) found)

/-- R126, R127: an ERROR among the reads of a segment: a prefetch is MARKED, a demand fetch read again, a segment read
again FAILED. -/
theorem Engine.fetchReturned_error {data : List Byte} (placed : (e.cache f.plane).place? f.row = some old)
    (last : ∀ q ∈ old.pieces, q.addr ≠ f.addr → q.result ≠ .waiting) (good : old.failAddr = none)
    (none : (e.cache f.plane).waiting = []) :
    let t := e.fetchReturned f .error data
    ∃ new, (t.cache f.plane).place? f.row = some new
      ∧ (old.kind = .prefetch → new.cond = .marked ∧ t.fetchWaiting = e.fetchWaiting)
      ∧ (old.kind = .demand → new.cond = .fetching ∧ new.kind = .refetch ∧ t.fetchWaiting =
          e.fetchWaiting ++ old.pieces.map fun q => ⟨q.addr, q.len, f.plane, old.row, false⟩)
      ∧ (old.kind = .refetch → new.cond = .failed
          ∧ (t.cache f.plane).failed = (e.cache f.plane).failed ++ [(old.row, f.addr)]) := by
  have fail : (old.receive f.addr .error data).failAddr = some f.addr := by simp only [CachePlace.receive, good, Option.getD]
  have settle (done : CachePlace) (settled : (old.receive f.addr .error data).settle = some done) :=
    Engine.fetchReturned_alone placed last settled none
  have row := CachePlace.receive_row (pl := old) (addr := f.addr) (r := .error) (data := data)
  have kind' := CachePlace.receive_kind (pl := old) (addr := f.addr) (r := .error) (data := data)
  dsimp only
  cases kind : old.kind with
  | prefetch =>
    have settled : (old.receive f.addr .error data).settle =
        some { old.receive f.addr .error data with cond := .marked } := by
      simp only [CachePlace.settle, fail, kind', kind]
    refine ⟨{ old.receive f.addr .error data with cond := .marked }, ?_,
      fun _ => ⟨rfl, by rw [settle _ settled, Engine.onCache_fetchWaiting]⟩, nofun, nofun⟩
    rw [settle _ settled, Engine.cache_onCache]
    exact PlaneCache.settled_place? placed row rfl
  | demand =>
    obtain ⟨-, -, place, waiting⟩ := Engine.fetchReturned_of_refetch (data := data) (r := .error) placed last kind (.inl rfl)
    exact ⟨_, place, nofun, fun _ => ⟨rfl, rfl, waiting⟩, nofun⟩
  | refetch =>
    have settled : (old.receive f.addr .error data).settle =
        some { old.receive f.addr .error data with cond := .failed } := by
      simp only [CachePlace.settle, fail, kind', kind]
    refine ⟨{ old.receive f.addr .error data with cond := .failed }, ?_, nofun, nofun, fun _ => ⟨rfl, ?_⟩⟩
    · rw [settle _ settled, Engine.cache_onCache]
      exact PlaneCache.settled_place? placed row rfl
    · rw [settle _ settled, Engine.cache_onCache]
      simp only [PlaneCache.settled, PlaneCache.noteFailed, fail, PlaneCache.replace_failed, row]

theorem Engine.placed_afterErase : (({ e with fetchFlight := e.fetchFlight.erase f } : Engine).cache f.plane).place? f.row =
    (e.cache f.plane).place? f.row := by rw [Engine.cache_fetchFlight]

theorem exec_fetchReturned {addr : Nat} {resp : Resp} {data : List Byte} (running : s.notice.halted = false)
    (found : (s.out x).fetchFlight.find? (fun f => decide (f.addr = addr)) = some f) (fresh : f.stale = false)
    (fits : resp = .okay → data.length = f.len) : exec (.sourceRowFetchResponse x addr resp data) s = .next
      (s.onOut x fun e => ({ e with fetchFlight := e.fetchFlight.erase f } : Engine).fetchReturned f resp data) := by
  rw [exec_sourceRowFetchResponse running found fits]
  simp only [fresh, Bool.false_eq_true, if_false]

theorem State.changesOnly_onOut (x : OutId) (g : Engine → Engine) (s : State) :
    s.changesOnly [.outA, .outB] (s.onOut x g) := by
  intro b hb
  cases b with
  | outA | outB => simp at hb
  | _ => simp [Block.same]

/-- Settles O48: a response by the settlement of its place; the rest by the rules of the line cache and of the span. -/
theorem sourceRowFetchSettlesItsPlace : Obligations.SourceRowFetchSettlesItsPlace := by
  refine ⟨?_, ?_, ?_, ?_, ?_, ?_, ?_, spanOf_splits⟩
  · intro x addr data f pl s running found fits c c' s'
    obtain rfl := Engine.addr_of_inFlight found
    refine ⟨fun stale => ⟨?_, ?_⟩, fun fresh placed good last none => ⟨?_, ?_⟩⟩
    · rw [exec_sourceRowFetchResponse running found fun _ => fits]
      simp only [stale, if_true, s']
    · rw [exec_sourceRowFetchResponse running found fun _ => fits]
      simp only [stale, if_true, s']
    · have placed := (Engine.placed_afterErase (f := f)).trans placed
      have form := Engine.fetchReturned_alone (data := data) placed last (CachePlace.settle_okay good)
        (by rw [Engine.cache_fetchFlight]; exact none)
      refine ⟨_, exec_fetchReturned running found fresh fun _ => fits, ?_⟩
      rw [State.onOut_out, form]
      refine ⟨?_, by simp, by cases f.plane <;> rfl, State.changesOnly_onOut _ _ _⟩
      rw [Engine.cache_onCache]
      exact PlaneCache.settled_place? placed rfl rfl
    · obtain ⟨pl', place, marked, again, failed⟩ := Engine.fetchReturned_error (data := data)
        ((Engine.placed_afterErase (f := f)).trans placed) last good (by rw [Engine.cache_fetchFlight]; exact none)
      refine ⟨_, pl', exec_fetchReturned running found fresh nofun, ?_⟩
      rw [State.onOut_out]
      exact ⟨place, marked, again, by simpa using failed, State.changesOnly_onOut _ _ _⟩
  · intro x addr r data f pl s running found fresh placed demand last bad
    obtain rfl := Engine.addr_of_inFlight found
    refine ⟨_, exec_fetchReturned running found fresh fun okay => ?_, ?_⟩
    · exact (bad.resolve_left (by rw [okay]; nofun)).1
    rw [State.onOut_out]
    simpa using Engine.fetchReturned_of_refetch (data := data)
      ((Engine.placed_afterErase (f := f)).trans placed) last demand (bad.imp id And.right)
  · exact fun e g p p' r geom row => Engine.keepRows_of_row geom (Engine.rowAt_of_head geom row) p'
  · intro x addr j k data f pl s running found fits fresh placed good last one unplaced sound spare reads
    obtain rfl := Engine.addr_of_inFlight found
    have kept : ({ s.out x with fetchFlight := (s.out x).fetchFlight.erase f } : Engine).keepRows f.plane =
        (s.out x).keepRows f.plane := rfl
    refine ⟨_, exec_fetchReturned running found fresh fun _ => fits, ?_⟩
    rw [State.onOut_out]
    exact Engine.fetchReturned_retries ((Engine.placed_afterErase (f := f)).trans placed) last
      (CachePlace.settle_okay good) rfl one unplaced sound spare
  · intro e p needed j full busy sound none
    have unplaced : (e.cache p).place? j = .none := PlaneCache.place?_eq_none.2 fun pl mem => (busy pl mem).2
    have full := PlaneCache.takePlace_of_none (needed := needed) (new := fetchingPlace j .demand (e.rowReads p j)) full
      fun q mem => by simp [CachePlace.evictable, (busy q mem).1]
    simp only [Engine.demandRow, unplaced]
    rw [Engine.fetchRow_of_full unplaced (by simp [PlaneCache.failed?, sound]) full]
    simp [PlaneCache.await, none]
  · intro e p needed j k old pre post places full kept settled spare others sound
    have taken := PlaneCache.takePlace_of_evicted (needed := needed) (new := fetchingPlace j k (e.rowReads p j)) full places
      (fun q mem => Bool.eq_false_iff.2 fun gives => (kept q mem).elim (CachePlace.evictable_iff.1 gives).1
        (CachePlace.evictable_iff.1 gives).2) (CachePlace.evictable_iff.2 ⟨settled, spare⟩)
    rw [Engine.fetchRow_of_taken (PlaneCache.place?_eq_none.2 others) (by simp [PlaneCache.failed?, sound]) taken]
    exact ⟨by simp [fetchingPlace], by simp [Engine.raiseReads]⟩
  · intro l g p j lo hi c c' v column used first least last most second first' last'
    refine ⟨?_, fun e latch geom => Engine.rowReads_of_latch latch geom p j⟩
    have span : v.span = (lo, second) := by
      cases p
      · exact PlaneView.span_eq first least last most
      · exact PlaneView.span_eq first least last most
    rw [segmentReads_eq span]
    cases p <;> rfl

end Sys2Proof.Machine
end

section
/-! OUTPUT_READ_SERVED (R114, R124): the rows found for the head read, and its answer. -/

namespace Sys2Proof.Machine

variable {s t u : State} {x : OutId} {p p' : Plane} {r r' o : Nat} {b b' : List Byte} {g : OutGeom} {q : QueuedRead}
  {rest : List QueuedRead} {rows : List (Plane × Nat)} {found : List (Plane × Nat × List Byte)}

/-! ### One row, and the rows in turn -/

theorem State.ensureRow_of_buffered (buffered : ((s.out x).cache p).rowBuffer? r = some b) :
    s.ensureRow x p r = (s, some b) := by
  simp only [State.ensureRow, buffered]

theorem State.ensureRow_of_ready (unbuffered : ((s.out x).cache p).rowBuffer? r = none)
    (ready : (s.out x).rowWork p r = .ready b) : s.ensureRow x p r = (s.rowComputed x p r b, some b) := by
  simp only [State.ensureRow, unbuffered, ready]

theorem State.ensureRow_of_failed {a : Nat} (unbuffered : ((s.out x).cache p).rowBuffer? r = none)
    (failed : (s.out x).rowWork p r = .failed a) : s.ensureRow x p r =
      ((s.noteDamaged x a).rowComputed x p r ((s.out x).heldRow p), some ((s.out x).heldRow p)) := by
  simp only [State.ensureRow, unbuffered, failed]

theorem State.ensureRow_of_blocked (unbuffered : ((s.out x).cache p).rowBuffer? r = none)
    (blocked : (s.out x).rowWork p r = .blocked) : s.ensureRow x p r = (s.onOut x (·.demandFor p r), none) := by
  simp only [State.ensureRow, unbuffered, blocked]

theorem State.ensureRows_one (row : s.ensureRow x p r = (t, some b)) : s.ensureRows x [(p, r)] = (t, some [(p, r, b)]) := by
  simp only [State.ensureRows, row]

theorem State.ensureRows_one_none (row : s.ensureRow x p r = (t, none)) : s.ensureRows x [(p, r)] = (t, none) := by
  simp only [State.ensureRows, row]

theorem State.ensureRows_two (first : s.ensureRow x p r = (t, some b)) (second : t.ensureRow x p' r' = (u, some b')) :
    s.ensureRows x [(p, r), (p', r')] = (u, some [(p, r, b), (p', r', b')]) := by
  simp only [State.ensureRows, first, second]

/-! ### The bytes gathered -/

theorem byteFrom_one : byteFrom g [(p, r, b)] o =
    if (g.locate o).1 = p ∧ (g.locate o).2.1 = r then b.getD (g.locate o).2.2 0 else 0 := by
  by_cases here : (g.locate o).1 = p ∧ (g.locate o).2.1 = r
  · simp [byteFrom, here]
  · have away : ¬ (p = (g.locate o).1 ∧ r = (g.locate o).2.1) := fun both => here ⟨both.1.symm, both.2.symm⟩
    simp [byteFrom, here, away]

theorem byteFrom_two : byteFrom g [(p, r, b), (p', r', b')] o =
    if (g.locate o).1 = p ∧ (g.locate o).2.1 = r then b.getD (g.locate o).2.2 0
    else if (g.locate o).1 = p' ∧ (g.locate o).2.1 = r' then b'.getD (g.locate o).2.2 0 else 0 := by
  by_cases here : (g.locate o).1 = p ∧ (g.locate o).2.1 = r
  · simp [byteFrom, here]
  · have away : ¬ (p = (g.locate o).1 ∧ r = (g.locate o).2.1) := fun both => here ⟨both.1.symm, both.2.symm⟩
    rw [if_neg here, ← byteFrom_one]
    simp [byteFrom, away]

/-! ### The answer -/

/-- R114: the head read, answered from the rows gathered, leaves the queue. -/
def State.answerHead (x : OutId) (q : QueuedRead) (g : OutGeom) (found : List (Plane × Nat × List Byte)) (s : State) : State :=
  (s.onOut x fun e => { e with queue := e.queue.drop 1 }).onPath fun u => { u with
    upLog := u.upLog ++ [⟨q.id, .read, .okay, (List.range q.len).map fun i => byteFrom g found (q.off + i)⟩] }

theorem State.answerHead_out : (t.answerHead x q g found).out x = { t.out x with queue := (t.out x).queue.drop 1 } := by
  cases x <;> rfl

theorem exec_outputReadServed_of_waits (running : s.notice.halted = false) (queue : (s.out x).queue = q :: rest)
    (geom : (s.out x).geom = some g) (waits : q.off = 0 ∧ q.started = false) :
    exec (.outputReadServed x) s = .next s := by
  simp only [exec, execOutputReadServed, State.unlessHalted_of_not running, queue, geom, if_pos waits]

theorem exec_outputReadServed_of_found (running : s.notice.halted = false) (queue : (s.out x).queue = q :: rest)
    (geom : (s.out x).geom = some g) (started : q.off ≠ 0 ∨ q.started = true)
    (rows : s.ensureRows x (g.rowsOf q.off q.len) = (t, some found)) :
    exec (.outputReadServed x) s = .next ((t.answerHead x q g found).finishLeaving x) := by
  have due : ¬ (q.off = 0 ∧ q.started = false) := fun both => started.elim (· both.1) (by simp [both.2])
  simp only [exec, execOutputReadServed, State.unlessHalted_of_not running, queue, geom, if_neg due, rows]
  rfl

theorem exec_outputReadServed_of_blocked (running : s.notice.halted = false) (queue : (s.out x).queue = q :: rest)
    (geom : (s.out x).geom = some g) (started : q.off ≠ 0 ∨ q.started = true)
    (rows : s.ensureRows x (g.rowsOf q.off q.len) = (t, none)) : exec (.outputReadServed x) s = .next t := by
  have due : ¬ (q.off = 0 ∧ q.started = false) := fun both => started.elim (· both.1) (by simp [both.2])
  simp only [exec, execOutputReadServed, State.unlessHalted_of_not running, queue, geom, if_neg due, rows]

theorem State.finishLeaving_of_stays (stays : (s.out x).leaving = false ∨ (s.out x).queue ≠ []) : s.finishLeaving x = s := by
  obtain stays | busy := stays
  · simp [State.finishLeaving, stays]
  · exact State.finishLeaving_of_busy busy

theorem State.onOut_congr {f f' : Engine → Engine} (same : f (s.out x) = f' (s.out x)) : s.onOut x f = s.onOut x f' := by
  cases x
  · exact congrArg (fun e => ({ s with outA := e } : State)) same
  · exact congrArg (fun e => ({ s with outB := e } : State)) same

/-- R114: the answer of an output that does not leave with it. -/
theorem State.finishLeaving_answerHead (queue : (t.out x).queue = q :: rest)
    (stays : (t.out x).leaving = false ∨ rest ≠ []) : (t.answerHead x q g found).finishLeaving x =
      (t.onOut x fun e => { e with queue := rest }).onPath fun u => { u with
        upLog := u.upLog ++ [⟨q.id, .read, .okay, (List.range q.len).map fun i => byteFrom g found (q.off + i)⟩] } := by
  have form : t.onOut x (fun e => { e with queue := e.queue.drop 1 }) = t.onOut x fun e => { e with queue := rest } :=
    State.onOut_congr (by rw [queue]; rfl)
  rw [State.finishLeaving_of_stays]
  · rw [State.answerHead, form]
  · rw [State.answerHead_out, queue]
    exact stays

end Sys2Proof.Machine
end

section
/-! Reads answered from the row buffers and in black (R122, R124). -/

namespace Sys2Proof.Machine

variable {s t u : State} {x : OutId} {p p' : Plane} {r r' o : Nat} {b b' : List Byte} {g : OutGeom} {q : QueuedRead}
  {rest : List QueuedRead} {e : Engine}

/-! ### A row computed (R124, R126) -/

/-- R124: a computed row pushed into its plane's buffers. -/
def Engine.pushed (p : Plane) (r : Nat) (b : List Byte) (e : Engine) : Engine :=
  { e.onCache p (·.pushRow r b) with computed := some (p, r) }

theorem State.rowComputed_out : (s.rowComputed x p r b).out x = ((s.out x).pushed p r b).prefetchAfter p r := by
  rw [State.rowComputed, State.onOut_out]
  rfl

/-- A computed row leaves the queue, the latch and the flags of the engine as they are. -/
theorem Engine.pushed_prefetchAfter (p : Plane) (r : Nat) (b : List Byte) (e : Engine) :
    let t := (e.pushed p r b).prefetchAfter p r
    t.queue = e.queue ∧ t.leaving = e.leaving ∧ t.latch = e.latch ∧ t.damaged = e.damaged
      ∧ t.computed = some (p, r) := by
  have fetches := (e.pushed p r b).fetches_prefetchAfter p r
  have same : (e.pushed p r b).queue = e.queue ∧ (e.pushed p r b).leaving = e.leaving
      ∧ (e.pushed p r b).latch = e.latch ∧ (e.pushed p r b).damaged = e.damaged := by
    cases p <;> exact ⟨rfl, rfl, rfl, rfl⟩
  obtain ⟨queue, leaving, latch, damaged⟩ := same
  exact ⟨fetches.queue.trans queue, fetches.leaving.trans leaving, fetches.latch.trans latch,
    fetches.damaged.trans damaged, fetches.computed⟩

theorem State.rowComputed_changesOnly (x : OutId) (p : Plane) (r : Nat) (b : List Byte) (s : State) :
    s.changesOnly [.outA, .outB] (s.rowComputed x p r b) := State.changesOnly_onOut _ _ _

/-! ### Which rows a read covers (R124) -/

/-- Three positions within one row's width lie in at most two rows. -/
theorem div_eq_of_between {w a c b : Nat} (low : a ≤ c) (high : c ≤ b) (near : b < a + w) :
    c / w = a / w ∨ c / w = b / w := by
  have next : (a + w) / w = a / w + 1 := Nat.add_div_right a (by omega)
  have first : a / w ≤ c / w := Nat.div_le_div_right low
  have second : c / w ≤ b / w := Nat.div_le_div_right high
  have third : b / w ≤ (a + w) / w := Nat.div_le_div_right near.le
  omega

/-- The rows at the end of a plane of whole rows. -/
theorem div_eq_of_last {w n a c b : Nat} (low : a ≤ c) (inside : c < w * n) (past : w * n ≤ b) (near : b < a + w) :
    c / w = a / w := by
  obtain ⟨k, rfl⟩ : ∃ k, n = k + 1 := Nat.exists_eq_succ_of_ne_zero (by rintro rfl; omega)
  rw [Nat.mul_succ] at inside past
  have here (y : Nat) (l : w * k ≤ y) (h : y < w * k + w) : y / w = k :=
    Nat.div_eq_of_lt_le (by rwa [Nat.mul_comm]) (by rw [Nat.succ_mul, Nat.mul_comm k]; exact h)
  rw [here c (by omega) inside, here a (by omega) (by omega)]

/-- R124: a read no longer than a row covers the rows of its first and its last byte only. -/
theorem OutGeom.locate_mem_rowsOf {off len i : Nat} (short : len ≤ g.ow) (inside : i < len) :
    ((g.locate (off + i)).1, (g.locate (off + i)).2.1) ∈ g.rowsOf off len := by
  suffices same : ((g.locate (off + i)).1, (g.locate (off + i)).2.1) = ((g.locate off).1, (g.locate off).2.1)
      ∨ ((g.locate (off + i)).1, (g.locate (off + i)).2.1) =
        ((g.locate (off + len - 1)).1, (g.locate (off + len - 1)).2.1) by
    simp only [OutGeom.rowsOf]
    split
    next one => exact List.mem_singleton.2 (same.elim id fun last => last.trans one.symm)
    next =>
      exact same.elim (fun first => first ▸ List.mem_cons_self)
        fun last => last ▸ List.mem_cons_of_mem _ List.mem_cons_self
  have low : off ≤ off + i := Nat.le_add_right ..
  have high : off + i ≤ off + len - 1 := by omega
  have near : off + len - 1 < off + g.ow := by omega
  generalize off + i = c at low high
  generalize off + len - 1 = b at high near
  unfold OutGeom.locate
  by_cases inC : c < g.ow * g.oh
  · have inA : off < g.ow * g.oh := by omega
    rw [if_pos inC, if_pos inA]
    by_cases inB : b < g.ow * g.oh
    · rw [if_pos inB]
      exact (div_eq_of_between low high near).imp (congrArg (Prod.mk Plane.luma)) (congrArg (Prod.mk Plane.luma))
    · exact .inl (congrArg (Prod.mk Plane.luma) (div_eq_of_last low inC (Nat.le_of_not_lt inB) near))
  · have inB : ¬ b < g.ow * g.oh := by omega
    rw [if_neg inC, if_neg inB]
    by_cases inA : off < g.ow * g.oh
    · refine .inr (congrArg (Prod.mk Plane.chroma) ?_)
      show (c - g.ow * g.oh) / g.ow = (b - g.ow * g.oh) / g.ow
      rw [Nat.div_eq_of_lt (by omega), Nat.div_eq_of_lt (by omega)]
    · rw [if_neg inA]
      have between : (c - g.ow * g.oh) / g.ow = (off - g.ow * g.oh) / g.ow
          ∨ (c - g.ow * g.oh) / g.ow = (b - g.ow * g.oh) / g.ow :=
        div_eq_of_between (by omega) (by omega) (by omega)
      exact between.imp (congrArg (Prod.mk Plane.chroma)) (congrArg (Prod.mk Plane.chroma))

theorem OutGeom.locate_col_lt (wide : 0 < g.ow) (o : Nat) : (g.locate o).2.2 < g.ow := by
  unfold OutGeom.locate
  split <;> exact Nat.mod_lt _ wide

theorem OutGeom.rowsOf_cases (g : OutGeom) (off len : Nat) :
    (∃ a, g.rowsOf off len = [a]) ∨ ∃ a a', a ≠ a' ∧ g.rowsOf off len = [a, a'] := by
  unfold OutGeom.rowsOf
  dsimp only
  split
  · exact .inl ⟨_, rfl⟩
  next apart => exact .inr ⟨_, _, apart, rfl⟩

/-! ### Black (R122) -/

theorem Engine.rowWork_of_dark (dark : e.latch = none) (geom : e.geom = some g) (p : Plane) (r : Nat) :
    e.rowWork p r = .ready (blackRow p g.ow) := by
  have view : e.planeView? p = none := by simp only [Engine.planeView?, dark]
  simp only [Engine.rowWork, Engine.needs_of_none dark, List.findSome?_nil, Engine.rowBytes?, view, geom, Option.map_some,
    Option.getD_some]

theorem Engine.prefetchAfter_of_dark (dark : e.latch = none) (p : Plane) (r : Nat) : e.prefetchAfter p r = e := by
  unfold Engine.prefetchAfter
  split
  · rw [Engine.prefetchFor, Engine.needs_of_none dark]
    rfl
  · rfl

theorem Engine.pushed_rowBuffer? (empty : (e.cache .luma).current = none) (empty' : (e.cache .chroma).current = none)
    (apart : (p, r) ≠ (p', r')) : ((e.pushed p r b).cache p').rowBuffer? r' = none := by
  have none (a : Plane) : (e.cache a).current = .none := by cases a; exact empty; exact empty'
  have cache : (e.pushed p r b).cache p' = (e.onCache p (·.pushRow r b)).cache p' := by cases p' <;> rfl
  rw [cache]
  by_cases same : p' = p
  · have rows : r ≠ r' := fun h => apart (by rw [same, h])
    rw [same, Engine.cache_onCache]
    simp [PlaneCache.rowBuffer?, PlaneCache.pushRow, none, rows]
  · rw [Engine.cache_onCache_of_ne same]
    simp [PlaneCache.rowBuffer?, none]

/-- A byte of rows that are all black. -/
theorem byteFrom_black {found : List (Plane × Nat × List Byte)} (wide : 0 < g.ow)
    (black : ∀ a ∈ found, a.2.2 = blackRow a.1 g.ow)
    (here : ((g.locate o).1, (g.locate o).2.1) ∈ found.map fun a => (a.1, a.2.1)) :
    byteFrom g found o = if o < g.ow * g.oh then 16 else 128 := by
  have col := OutGeom.locate_col_lt wide o
  have plane : (g.locate o).1 = if o < g.ow * g.oh then Plane.luma else .chroma := by
    unfold OutGeom.locate
    split <;> rfl
  obtain ⟨a, mem, row⟩ := List.mem_map.1 here
  obtain ⟨h1, h2⟩ := Prod.mk.inj row
  unfold byteFrom
  dsimp only
  cases first : found.find? fun q => decide (q.1 = (g.locate o).1 ∧ q.2.1 = (g.locate o).2.1) with
  | none => exact absurd (decide_eq_true ⟨h1, h2⟩) (List.find?_eq_none.1 first a mem)
  | some a' =>
    have same : a'.1 = (g.locate o).1 ∧ a'.2.1 = (g.locate o).2.1 := by
      simpa using List.find?_some first
    simp only [black a' (List.mem_of_find?_eq_some first), same.1, plane, blackRow]
    rw [List.getD_eq_getElem?_getD, List.getElem?_replicate, if_pos col]
    split <;> rfl

end Sys2Proof.Machine
end

section
/-! Reads in black, and the last read of an output that leaves (R108, R122, R131). -/

namespace Sys2Proof.Machine

variable {s t u : State} {x : OutId} {p p' : Plane} {r r' o k n : Nat} {b b' : List Byte} {g : OutGeom} {q : QueuedRead}
  {rest : List QueuedRead} {e : Engine}

/-! ### Nothing latched, nothing buffered (R122) -/

/-- R122: with nothing latched and nothing buffered the rows of a read are black. -/
theorem State.ensureRows_black (dark : (s.out x).latch = none) (geom : (s.out x).geom = some g)
    (luma : (s.out x).luma.current = none) (chroma : (s.out x).chroma.current = none) (off len : Nat) :
    ∃ t found, s.ensureRows x (g.rowsOf off len) = (t, some found) ∧ (∀ a ∈ found, a.2.2 = blackRow a.1 g.ow)
      ∧ found.map (fun a => (a.1, a.2.1)) = g.rowsOf off len ∧ (t.out x).queue = (s.out x).queue
      ∧ (t.out x).leaving = (s.out x).leaving ∧ s.changesOnly [.outA, .outB] t
      ∧ t.out (otherOut x) = s.out (otherOut x) := by
  have unbuffered (a : Plane) (r : Nat) : ((s.out x).cache a).rowBuffer? r = none := by
    cases a
    · simp only [Engine.cache, PlaneCache.rowBuffer?, luma]
    · simp only [Engine.cache, PlaneCache.rowBuffer?, chroma]
  have row (p : Plane) (r : Nat) := State.ensureRow_of_ready (unbuffered p r) (Engine.rowWork_of_dark dark geom p r)
  have effect (p : Plane) (r : Nat) : ((s.rowComputed x p r (blackRow p g.ow)).out x) =
      (s.out x).pushed p r (blackRow p g.ow) := by
    rw [State.rowComputed_out, Engine.prefetchAfter_of_dark]
    cases p <;> exact dark
  have first (p : Plane) (r : Nat) : ((s.rowComputed x p r (blackRow p g.ow)).out x).queue = (s.out x).queue
      ∧ ((s.rowComputed x p r (blackRow p g.ow)).out x).leaving = (s.out x).leaving := by
    rw [effect]
    cases p <;> exact ⟨rfl, rfl⟩
  obtain ⟨⟨p, r⟩, rows⟩ | ⟨⟨p, r⟩, ⟨p', r'⟩, apart, rows⟩ := g.rowsOf_cases off len
  · refine ⟨_, _, by rw [rows]; exact State.ensureRows_one (row p r), ?_, by rw [rows]; rfl, (first p r).1, (first p r).2,
      State.rowComputed_changesOnly _ _ _ _ _, State.onOut_out_other⟩
    simp
  · have dark' : ((s.rowComputed x p r (blackRow p g.ow)).out x).latch = none := by
      rw [effect]
      cases p <;> exact dark
    have geom' : ((s.rowComputed x p r (blackRow p g.ow)).out x).geom = some g := by
      rw [effect]
      cases p <;> exact geom
    have second := State.ensureRow_of_ready (s := s.rowComputed x p r (blackRow p g.ow)) (x := x) (p := p') (r := r')
      (by rw [effect]; exact Engine.pushed_rowBuffer? luma chroma apart) (Engine.rowWork_of_dark dark' geom' p' r')
    obtain ⟨queue, leaving, -⟩ := Engine.pushed_prefetchAfter p' r' (blackRow p' g.ow)
      ((s.rowComputed x p r (blackRow p g.ow)).out x)
    refine ⟨_, _, by rw [rows]; exact State.ensureRows_two (row p r) second, by simp, by rw [rows]; rfl, ?_, ?_,
      State.changesOnly.trans (State.rowComputed_changesOnly x p r _ s) (State.rowComputed_changesOnly x p' r' _ _), ?_⟩
    · rw [State.rowComputed_out, queue, (first p r).1]
    · rw [State.rowComputed_out, leaving, (first p r).2]
    · exact (State.onOut_out_other (s := State.rowComputed x p r _ s)).trans State.onOut_out_other

/-! ### The last read of an output that leaves -/

theorem State.finishLeaving_of_restart (leaving : (s.out x).leaving = true) (done : (s.out x).queue = [])
    (restarting : s.ring.restarting = true) : s.finishLeaving x = (s.leaveOutput x).finishRestart := by
  simp [State.finishLeaving, leaving, done, restarting]

theorem State.startCopy_flight (p : Nat) (s : State) :
    (s.startCopy p).store.engine.flight = s.store.engine.flight := by
  have raised (u : State) : (u.raiseOrPause p).store.engine.flight = u.store.engine.flight := by
    unfold State.raiseOrPause State.raiseChunk
    repeat' split
    all_goals rfl
  unfold State.startCopy
  split
  · dsimp only
    rw [raised]
    split <;> rfl
  · rfl

theorem State.dropRecalls_flight : ∀ (l : List Nat) (s : State),
    (s.dropRecalls x l).store.engine.flight = s.store.engine.flight
  | [], _ => rfl
  | p :: l, s => by
    have handed (u : State) : (u.handover p).store.engine.flight = u.store.engine.flight := by
      unfold State.handover
      dsimp only
      split
      · exact u.startCopy_flight p
      · rfl
    rw [State.dropRecalls, State.dropRecalls_flight]
    split
    · exact handed _
    · rfl

theorem State.leaveOutput_flight (x : OutId) (s : State) :
    (s.leaveOutput x).store.engine.flight = s.store.engine.flight := by
  rw [State.leaveOutput, State.onOut_store]
  exact (State.dropRecalls_flight _ _).trans (by simp)

/-- R108, R131: what the last read answered makes of an output that leaves. -/
theorem State.finishLeaving_left (leaving : (s.out x).leaving = true) (done : (s.out x).queue = []) :
    let t := s.finishLeaving x
    t.path = s.path ∧ (t.out x).state = .disabled ∧ (t.out x).leaving = false ∧ (t.out x).latch = none
      ∧ (t.out x).queue = [] ∧ (t.out x).damaged = false ∧ t.out (otherOut x) = s.out (otherOut x)
      ∧ (∀ k, (s.out x).latch.map (·.what) = some (.slot k) → (t.slots.slot k).shows x = false)
      ∧ (∀ n, (t.store.recAt n).recalled x = false)
      ∧ (s.ring.restarting = false → s.AnswersLater 7 .done t)
      ∧ (s.ring.restarting = true → (t.out x).source = .live
          ∧ (s.cap.tearing = false → (s.out (otherOut x)).leaving = false → s.store.engine.flight = [] →
              t.ring.restarting = false ∧ s.AnswersLater 26 .done t)
          ∧ (s.cap.tearing = true ∨ (s.out (otherOut x)).leaving = true ∨ s.store.engine.flight ≠ [] →
              t.ring = s.ring)) := by
  have ring : (s.leaveOutput x).ring = s.ring := by simp
  have shows (k : Nat) (latched : (s.out x).latch.map (·.what) = some (.slot k)) :
      ((s.leaveOutput x).slots.slot k).shows x = false :=
    State.leaveOutput_shows (Engine.latchedSlot_eq_some_iff.2 latched)
  have settled : (s.leaveOutput x).restartSettled = true ↔
      s.cap.tearing = false ∧ (s.out (otherOut x)).leaving = false ∧ s.store.engine.flight = [] := by
    have own : ((s.leaveOutput x).out x).leaving = false := by rw [State.leaveOutput_out]
    have other := State.leaveOutput_out_other x s
    rw [State.restartSettled_iff, State.leaveOutput_flight, ← State.out_a, ← State.out_b]
    cases x
    · rw [own, show (s.leaveOutput .a).out .b = s.out .b from other]
      simp [otherOut]
    · rw [own, show (s.leaveOutput .b).out .a = s.out .a from other]
      simp [otherOut]
  have left : (∀ y, (s.finishLeaving x).out y = (s.leaveOutput x).out y)
      ∧ (s.finishLeaving x).slots = (s.leaveOutput x).slots ∧ (s.finishLeaving x).store = (s.leaveOutput x).store
      ∧ (s.finishLeaving x).path = s.path := by
    by_cases restarting : s.ring.restarting = true
    · rw [State.finishLeaving_of_restart leaving done restarting]
      exact ⟨fun y => State.finishRestart_out y _, by simp, by simp, by simp⟩
    · rw [State.finishLeaving_of_done leaving done (by simpa using restarting)]
      exact ⟨fun y => State.answerAccepted_out .., by simp, by simp, by simp⟩
  obtain ⟨out, slots, store, path⟩ := left
  dsimp only
  rw [out, out, slots, store, State.leaveOutput_out]
  refine ⟨path, rfl, rfl, rfl, done, rfl, State.leaveOutput_out_other x s, shows, State.leaveOutput_recalled x s,
    fun alone => ?_, fun restarting => ⟨if_pos restarting, fun untorn stays idle => ?_, fun waits => ?_⟩⟩
  · rw [State.finishLeaving_of_done leaving done alone]
    exact State.answersLater_answerAccepted (by rw [ring]) 7 .done
  · rw [State.finishLeaving_of_restart leaving done restarting]
    exact State.finishRestart_answers (settled.2 ⟨untorn, stays, idle⟩) (by rw [ring]; exact restarting) (by rw [ring])
  · rw [State.finishLeaving_of_restart leaving done restarting, State.finishRestart_of_not_settled, ring]
    refine Bool.eq_false_iff.2 fun done => ?_
    obtain ⟨untorn, stays, idle⟩ := settled.1 done
    obtain torn | leaves | flight := waits
    · exact absurd torn (by rw [untorn]; exact Bool.false_ne_true)
    · exact absurd leaves (by rw [stays]; exact Bool.false_ne_true)
    · exact flight idle

end Sys2Proof.Machine
end

section
/-! What fetches leave of the rows that have a place (R126): the fetches of an output row in turn. -/

namespace Sys2Proof.Machine

variable {c c' : PlaneCache} {e t u : Engine} {p : Plane} {old new pl : CachePlace} {i j r : Nat} {needed : List Nat}
  {k : FetchKind}

/-! ### One fetch -/

theorem find?_erase_of_false {α : Type} [DecidableEq α] {f : α → Bool} {a : α} (none : f a = false) :
    ∀ l : List α, (l.erase a).find? f = l.find? f
  | [] => rfl
  | b :: l => by
    rw [List.erase_cons]
    by_cases same : b = a
    · rw [if_pos (by simpa using same), same, List.find?_cons_of_neg (by rw [none]; exact Bool.false_ne_true)]
    · rw [if_neg (by simpa using same), List.find?_cons, List.find?_cons, find?_erase_of_false none l]

/-- R126: a place taken leaves the rows needed, and every row while a place is free, where they are. -/
theorem PlaneCache.takePlace_apart (taken : c.takePlace needed new = some c') :
    (∀ i, i ≠ new.row → i ∈ needed ∨ c.places.length < 4 → c'.place? i = c.place? i)
      ∧ c'.places.length ≤ c.places.length + 1 ∧ c'.failed = c.failed := by
  have last (i : Nat) (l : List CachePlace) (away : i ≠ new.row) :
      (l ++ [new]).find? (fun q => decide (q.row = i)) = l.find? fun q => decide (q.row = i) := by
    rw [List.find?_append, List.find?_cons_of_neg (by simpa using away.symm), List.find?_nil, Option.or_none]
  unfold PlaneCache.takePlace at taken
  split at taken
  · obtain rfl := Option.some.inj taken
    exact ⟨fun i away _ => last i c.places away, by simp, rfl⟩
  next full =>
    split at taken
    next old gives =>
      obtain rfl := Option.some.inj taken
      refine ⟨fun i away kept => (last i _ away).trans (find?_erase_of_false ?_ _), ?_, rfl⟩
      · have spare := (CachePlace.evictable_iff.1 (List.find?_some gives)).2
        exact decide_eq_false fun here => spare (here ▸ kept.resolve_right full)
      · have shorter : (c.places.erase old).length ≤ c.places.length := List.length_erase_le
        simp only [List.length_append, List.length_singleton]
        omega
    next => cases taken

/-- From `e` to `t` source row `j` of plane `p` has been asked for: the other rows that are needed keep their places. -/
structure Engine.Fetched (p : Plane) (needed : List Nat) (j : Nat) (e t : Engine) : Prop where
  fetches : e.FetchesTo t
  waiting : ∃ more, t.fetchWaiting = e.fetchWaiting ++ more
  apart : ∀ i, i ≠ j → i ∈ needed ∨ (e.cache p).places.length < 4 → (t.cache p).place? i = (e.cache p).place? i
  length : (t.cache p).places.length ≤ (e.cache p).places.length + 1
  failed : (t.cache p).failed = (e.cache p).failed

theorem Engine.Fetched.refl (p : Plane) (needed : List Nat) (j : Nat) (e : Engine) : e.Fetched p needed j e :=
  ⟨.refl e, ⟨[], (List.append_nil _).symm⟩, fun _ _ _ => rfl, Nat.le_succ _, rfl⟩

theorem PlaneCache.await_places (j : Nat) (k : FetchKind) (c : PlaneCache) :
    (c.await j k).places = c.places ∧ (c.await j k).failed = c.failed := by
  unfold PlaneCache.await
  dsimp only
  repeat' split
  all_goals exact ⟨rfl, rfl⟩

theorem Engine.fetched_fetchRow (p : Plane) (k : FetchKind) (needed : List Nat) (j : Nat) (e : Engine) :
    e.Fetched p needed j (e.fetchRow p k needed j) := by
  have fetches := e.fetches_fetchRow p k needed j
  by_cases known : (e.cache p).place? j ≠ none ∨ (e.cache p).failed? j ≠ none
  · rw [Engine.fetchRow_of_placed known]
    exact .refl p needed j e
  · obtain ⟨unplaced, sound⟩ := not_or.1 known
    rw [ne_eq, not_not] at unplaced sound
    cases taken : (e.cache p).takePlace needed (fetchingPlace j k (e.rowReads p j)) with
    | none =>
      rw [Engine.fetchRow_of_full unplaced sound taken] at fetches ⊢
      obtain ⟨places, failed⟩ := PlaneCache.await_places j k (e.cache p)
      refine ⟨fetches, ⟨[], by simp⟩, fun i _ _ => ?_, ?_, by simpa using failed⟩
      · simp only [Engine.cache_onCache, PlaneCache.place?, places]
      · rw [Engine.cache_onCache, places]
        exact Nat.le_succ _
    | some c =>
      obtain ⟨apart, length, failed⟩ := PlaneCache.takePlace_apart taken
      rw [Engine.fetchRow_of_taken unplaced sound taken] at fetches ⊢
      refine ⟨fetches, ⟨_, by rw [Engine.raiseReads, Engine.onCache_fetchWaiting]⟩, ?_, ?_, ?_⟩
      · rw [Engine.cache_raiseReads, Engine.cache_onCache]
        exact apart
      · rw [Engine.cache_raiseReads, Engine.cache_onCache]
        exact length
      · rw [Engine.cache_raiseReads, Engine.cache_onCache]
        exact failed

theorem PlaneCache.place?_replace_of_ne (same : new.row = old.row) (away : i ≠ old.row) (c : PlaneCache) :
    (c.replace old new).place? i = c.place? i := by
  have rows : ∀ l : List CachePlace, (l.map fun q => if q = old then new else q).find? (fun q => decide (q.row = i)) =
      l.find? fun q => decide (q.row = i) := by
    intro l
    induction l with
    | nil => rfl
    | cons q l ih =>
      by_cases here : q = old
      · rw [List.map_cons, if_pos here, List.find?_cons_of_neg, List.find?_cons_of_neg, ih]
        · simpa [here] using away.symm
        · simpa [same] using away.symm
      · rw [List.map_cons, if_neg here, List.find?_cons, List.find?_cons, ih]
  exact rows c.places

theorem Engine.fetched_refetch (placed : (e.cache p).place? j = some pl) : e.Fetched p needed j (e.refetch p pl) := by
  have row := PlaneCache.place?_row placed
  have fetches := e.fetches_refetch p pl
  rw [Engine.refetch_eq] at fetches ⊢
  refine ⟨fetches, ⟨_, by rw [Engine.raiseReads, Engine.onCache_fetchWaiting]⟩, fun i away _ => ?_, ?_, ?_⟩
  · rw [Engine.cache_raiseReads, Engine.cache_onCache]
    refine PlaneCache.place?_replace_of_ne ?_ (row ▸ away) _
    rfl
  · simp [PlaneCache.replace]
  · simp [PlaneCache.replace]

theorem Engine.fetched_demandRow (p : Plane) (needed : List Nat) (j : Nat) (e : Engine) :
    e.Fetched p needed j (e.demandRow p needed j) := by
  unfold Engine.demandRow
  split
  · exact e.fetched_fetchRow p .demand needed j
  next pl placed =>
    split
    · exact Engine.fetched_refetch placed
    · exact .refl p needed j e

/-! ### The fetches of an output row in turn -/

/-- Of the source rows an output row needs, each is asked for while the other keeps its place. -/
theorem Engine.foldl_fetched {f : Engine → Nat → Engine} (step : ∀ (e : Engine) (j : Nat), e.Fetched p needed j (f e j))
    {l : List Nat}
    (few : l = [] ∨ (∃ j, l = [j]) ∨ ∃ j j', j ≠ j' ∧ l = [j, j']) (mem : i ∈ l)
    (kept : i ∈ needed ∨ (e.cache p).places.length ≤ 2) :
    ∃ u, e.FetchesTo u ∧ (u.cache p).place? i = (e.cache p).place? i
      ∧ (u.cache p).places.length ≤ (e.cache p).places.length + 1 ∧ (u.cache p).failed = (e.cache p).failed
      ∧ ((l.foldl f e).cache p).place? i = ((f u i).cache p).place? i
      ∧ (∃ more, u.fetchWaiting = e.fetchWaiting ++ more)
      ∧ ∃ more, (l.foldl f e).fetchWaiting = (f u i).fetchWaiting ++ more := by
  obtain rfl | ⟨j, rfl⟩ | ⟨j, j', apart, rfl⟩ := few
  · exact absurd mem List.not_mem_nil
  · obtain rfl := List.mem_singleton.1 mem
    exact ⟨e, .refl e, rfl, Nat.le_succ _, rfl, rfl, ⟨[], (List.append_nil _).symm⟩, [], (List.append_nil _).symm⟩
  · have first := step e j
    have second := step (f e j) j'
    obtain rfl | mem := List.mem_cons.1 mem
    · refine ⟨e, .refl e, rfl, Nat.le_succ _, rfl, second.apart _ apart (kept.imp id fun short => ?_),
        ⟨[], (List.append_nil _).symm⟩, second.waiting⟩
      exact Nat.lt_of_le_of_lt first.length (by omega)
    · obtain rfl := List.mem_singleton.1 mem
      exact ⟨f e j, first.fetches, first.apart _ apart.symm (kept.imp id fun short => by omega), first.length, first.failed,
        rfl, first.waiting, [], (List.append_nil _).symm⟩

end Sys2Proof.Machine
end

section
/-! Rows computed, failed and blocked (R122, R126 to R128). -/

namespace Sys2Proof.Machine

variable {s t u : State} {x : OutId} {p p' : Plane} {r r' i j : Nat} {b : List Byte} {g : OutGeom} {q : QueuedRead}
  {rest : List QueuedRead} {e : Engine} {l : Latch} {needed : List Nat} {below : List Nat} {pl pl2 : CachePlace}

/-! ### The row buffers stand through the fetches -/

/-- From `e` to `t` the row buffers have not changed. -/
def Engine.SameBuffers (e t : Engine) : Prop :=
  ∀ p, (t.cache p).current = (e.cache p).current ∧ (t.cache p).previous = (e.cache p).previous

theorem Engine.SameBuffers.trans {e' : Engine} (h : e.SameBuffers e') {e'' : Engine} (h' : e'.SameBuffers e'') :
    e.SameBuffers e'' := fun p => ⟨(h' p).1.trans (h p).1, (h' p).2.trans (h p).2⟩

theorem Engine.sameBuffers_onCache {f : PlaneCache → PlaneCache}
    (same : (f (e.cache p)).current = (e.cache p).current ∧ (f (e.cache p)).previous = (e.cache p).previous) :
    e.SameBuffers (e.onCache p f) := by
  intro q
  by_cases here : q = p
  · rw [here, Engine.cache_onCache]
    exact same
  · rw [Engine.cache_onCache_of_ne here]
    exact ⟨rfl, rfl⟩

theorem Engine.sameBuffers_fetchRow (p : Plane) (k : FetchKind) (needed : List Nat) (j : Nat) (e : Engine) :
    e.SameBuffers (e.fetchRow p k needed j) := by
  by_cases known : (e.cache p).place? j ≠ none ∨ (e.cache p).failed? j ≠ none
  · rw [Engine.fetchRow_of_placed known]
    exact fun _ => ⟨rfl, rfl⟩
  · obtain ⟨unplaced, sound⟩ := not_or.1 known
    rw [ne_eq, not_not] at unplaced sound
    cases taken : (e.cache p).takePlace needed (fetchingPlace j k (e.rowReads p j)) with
    | none =>
      rw [Engine.fetchRow_of_full unplaced sound taken]
      refine Engine.sameBuffers_onCache ?_
      unfold PlaneCache.await
      dsimp only
      repeat' split
      all_goals exact ⟨rfl, rfl⟩
    | some c =>
      rw [Engine.fetchRow_of_taken unplaced sound taken]
      have same : c.current = (e.cache p).current ∧ c.previous = (e.cache p).previous := by
        unfold PlaneCache.takePlace at taken
        split at taken
        · obtain rfl := Option.some.inj taken
          exact ⟨rfl, rfl⟩
        · split at taken
          · obtain rfl := Option.some.inj taken
            exact ⟨rfl, rfl⟩
          · cases taken
      intro q
      rw [Engine.cache_raiseReads]
      exact Engine.sameBuffers_onCache same q

theorem Engine.sameBuffers_prefetchAfter (p : Plane) (r : Nat) (e : Engine) : e.SameBuffers (e.prefetchAfter p r) := by
  have all (p : Plane) (needed : List Nat) : ∀ (l : List Nat) (e : Engine),
      e.SameBuffers (l.foldl (fun e j => e.prefetchRow p needed j) e) := by
    intro l
    induction l with
    | nil => exact fun _ _ => ⟨rfl, rfl⟩
    | cons j l ih => exact fun e => (e.sameBuffers_fetchRow p .prefetch needed j).trans (ih _)
  unfold Engine.prefetchAfter
  split
  · exact all _ _ _ e
  · exact fun _ => ⟨rfl, rfl⟩

/-! ### The next row's source rows prefetched (R126) -/

/-- R126: a source row without a place, not FAILED, is prefetched while places are free. -/
theorem Engine.prefetchFor_fetched (mem : i ∈ e.needs p r) (unplaced : (e.cache p).place? i = none)
    (sound : ∀ f ∈ (e.cache p).failed, f.1 ≠ i) (room : (e.cache p).places.length ≤ 2) :
    let t := e.prefetchFor p r needed
    (t.cache p).place? i = some (fetchingPlace i .prefetch (e.rowReads p i))
      ∧ ∀ a ∈ e.rowReads p i, ⟨a.1, a.2, p, i, false⟩ ∈ t.fetchWaiting := by
  obtain ⟨u, fetches, same, length, failed, place, -, more, waiting⟩ := Engine.foldl_fetched
    (f := fun e j => e.prefetchRow p needed j) (fun e j => e.fetched_fetchRow p .prefetch needed j) (e.needs_cases p r) mem
    (.inr room)
  obtain ⟨-, taken, raised⟩ := Engine.fetchRow_of_some (k := .prefetch) (needed := needed) (same.trans unplaced)
    (show (u.cache p).failed? i = none by
      rw [PlaneCache.failed?, failed, List.find?_eq_none.2 fun f mem => by simpa using sound f mem]
      rfl) (.inl (Nat.lt_of_le_of_lt length (by omega)))
  rw [fetches.rowReads] at taken raised
  refine ⟨place.trans taken, fun a mem => ?_⟩
  rw [show (e.prefetchFor p r needed).fetchWaiting = _ from waiting, Engine.prefetchRow, raised]
  exact List.mem_append_left _ (List.mem_append_right _ (List.mem_map_of_mem mem))

theorem Engine.prefetchAfter_of_next (next : e.nextRow p r = some (p', r')) :
    e.prefetchAfter p r = e.prefetchFor p' r' (e.neededBy p' (p, r)) := by
  simp only [Engine.prefetchAfter, next]

theorem Engine.pushed_keeps (p : Plane) (r : Nat) (b : List Byte) (e : Engine) (q : Plane) :
    (e.pushed p r b).latch = e.latch ∧ (e.pushed p r b).geom = e.geom
      ∧ ((e.pushed p r b).cache q).places = (e.cache q).places
      ∧ ((e.pushed p r b).cache q).failed = (e.cache q).failed := by
  cases p <;> cases q <;> exact ⟨rfl, rfl, rfl, rfl⟩

/-- R126: after a row is computed the next one's source rows that have no place are prefetched while places are free. -/
theorem State.rowComputed_prefetched (latch : (s.out x).latch = some l) (geom : (s.out x).geom = some g)
    (next : (r + 1 < g.rows p ∧ p' = p ∧ r' = r + 1) ∨ (g.rows p ≤ r + 1 ∧ p = .luma ∧ p' = .chroma ∧ r' = 0))
    (mem : i ∈ (planeView l g p').sourceRows r') (unplaced : ((s.out x).cache p').place? i = none)
    (sound : ∀ f ∈ ((s.out x).cache p').failed, f.1 ≠ i) (room : ((s.out x).cache p').places.length ≤ 2) :
    let t := (s.rowComputed x p r b).out x
    let reads := segmentReads l p' (planeView l g p') i
    (t.cache p').place? i = some ⟨i, .fetching, .prefetch, reads.map fun a => ⟨a.1, a.2, .waiting⟩, none⟩
      ∧ ∀ a ∈ reads, ⟨a.1, a.2, p', i, false⟩ ∈ t.fetchWaiting := by
  obtain ⟨latch', geom', places, failed⟩ := (s.out x).pushed_keeps p r b p'
  have latch' := latch'.trans latch
  have geom' := geom'.trans geom
  have follows : ((s.out x).pushed p r b).nextRow p r = some (p', r') := by
    obtain ⟨more, rfl, rfl⟩ | ⟨last, rfl, rfl, rfl⟩ := next
    · simp only [Engine.nextRow, geom', if_pos more]
    · simp only [Engine.nextRow, geom', if_neg (Nat.not_lt.2 last)]
  have fetched := Engine.prefetchFor_fetched (e := (s.out x).pushed p r b) (p := p') (r := r') (i := i)
    (needed := ((s.out x).pushed p r b).neededBy p' (p, r)) (by rw [Engine.needs_of_latch latch' geom']; exact mem)
    (by rw [PlaneCache.place?, places]; exact unplaced) (by rw [failed]; exact sound) (by rw [places]; exact room)
  rw [Engine.rowReads_of_latch latch' geom', ← Engine.prefetchAfter_of_next follows, ← State.rowComputed_out] at fetched
  exact fetched

/-- R124: the buffers after a row is computed. -/
theorem State.rowComputed_buffers : (((s.rowComputed x p r b).out x).cache p).current = some ⟨r, b⟩
    ∧ (((s.rowComputed x p r b).out x).cache p).previous = ((s.out x).cache p).current := by
  obtain ⟨current, previous⟩ := ((s.out x).pushed p r b).sameBuffers_prefetchAfter p r p
  rw [State.rowComputed_out, current, previous]
  cases p <;> exact ⟨rfl, rfl⟩

/-! ### What a row finds (R122, R126 to R128) -/

theorem Engine.needs_eq (latch : e.latch = some l) (geom : e.geom = some g)
    (rows : (planeView l g p).sourceRows r = j :: below) :
    e.needs p r = j :: below := by rw [Engine.needs_of_latch latch geom, rows]

/-- R122: a row whose source rows are VALID. -/
theorem Engine.rowWork_of_valid (latch : e.latch = some l) (geom : e.geom = some g)
    (rows : (planeView l g p).sourceRows r = j :: below) (sound : (e.cache p).failed = [])
    (first : (e.cache p).place? j = some pl) (second : (e.cache p).place? (below.headD j) = some pl2)
    (valid : pl.cond = .valid) (valid2 : pl2.cond = .valid) : e.rowWork p r = .ready
      (outputRow p (planeView l g p) g.ow r (fun i => pieceByte (rowAddr l p j + i) pl.pieces)
        fun i => pieceByte (rowAddr l p (below.headD j) + i) pl2.pieces) := by
  have none : (e.needs p r).findSome? (e.cache p).failed? = .none := by
    rw [List.findSome?_eq_none_iff]
    intro i _
    simp [PlaneCache.failed?, sound]
  have view : e.planeView? p = some (l, g, planeView l g p) := by simp only [Engine.planeView?, latch, geom]
  simp only [Engine.rowWork, none, Engine.rowBytes?, view, rows, PlaneCache.pieces?, first, second, valid, valid2, if_true]

/-- R128: a row that needs the FAILED source row. -/
theorem Engine.rowWork_of_failed {m a : Nat} (latch : e.latch = some l) (geom : e.geom = some g)
    (rows : (planeView l g p).sourceRows r = j :: below) (failed : (e.cache p).failed = [(m, a)])
    (needed : m = j ∨ m ∈ below) : e.rowWork p r = .failed a := by
  have found : (e.needs p r).findSome? (e.cache p).failed? = some a := by
    rw [Engine.needs_eq latch geom rows]
    have only (i : Nat) : (e.cache p).failed? i = if m = i then some a else none := by
      by_cases here : m = i
      · simp [PlaneCache.failed?, failed, here]
      · simp [PlaneCache.failed?, failed, here]
    have mem : m ∈ j :: below := needed.elim (fun h => h ▸ List.mem_cons_self) fun h => List.mem_cons_of_mem _ h
    cases first : (j :: below).findSome? (e.cache p).failed? with
    | none => exact absurd (List.findSome?_eq_none_iff.1 first m mem) (by simp [only])
    | some b =>
      obtain ⟨i, -, here⟩ := List.exists_of_findSome?_eq_some first
      rw [only] at here
      split at here
      · exact here.symm
      · cases here
  simp only [Engine.rowWork, found]

theorem PlaneCache.pieces?_eq_none {c : PlaneCache} (unready : ∀ pl, c.place? i = some pl → pl.cond ≠ .valid) :
    c.pieces? i = none := by
  unfold PlaneCache.pieces?
  split
  next pl here => exact if_neg (unready pl here)
  next => rfl

/-- R126: a row one of whose source rows is not VALID, and none FAILED. -/
theorem Engine.rowWork_of_blocked (latch : e.latch = some l) (geom : e.geom = some g)
    (rows : (planeView l g p).sourceRows r = j :: below) (sound : ∀ f ∈ (e.cache p).failed, f.1 ≠ j ∧ f.1 ∉ below)
    (waits : ∃ i ∈ j :: below, ∀ pl, (e.cache p).place? i = some pl → pl.cond ≠ .valid) : e.rowWork p r = .blocked := by
  have none : (e.needs p r).findSome? (e.cache p).failed? = .none := by
    rw [Engine.needs_eq latch geom rows, List.findSome?_eq_none_iff]
    intro i mem
    rw [PlaneCache.failed?, List.find?_eq_none.2, Option.map_none]
    intro f hf here
    have here : f.1 = i := of_decide_eq_true here
    obtain rfl | mem := List.mem_cons.1 mem
    · exact (sound f hf).1 here
    · exact (sound f hf).2 (here ▸ mem)
  have view : e.planeView? p = some (l, g, planeView l g p) := by simp only [Engine.planeView?, latch, geom]
  obtain ⟨i, mem, unready⟩ := waits
  have missing := PlaneCache.pieces?_eq_none unready
  have one : i = j ∨ i = below.headD j := by
    obtain h | ⟨a, h⟩ | ⟨a, a', -, h⟩ := (planeView l g p).sourceRows_cases r
    · exact absurd (rows.symm.trans h) (List.cons_ne_nil _ _)
    · obtain ⟨rfl, rfl⟩ := List.cons.inj (rows.symm.trans h)
      exact .inl (List.mem_singleton.1 mem)
    · obtain ⟨rfl, rfl⟩ := List.cons.inj (rows.symm.trans h)
      exact (List.mem_cons.1 mem).imp id List.mem_singleton.1
  have unready : e.rowBytes? p r = .none := by
    simp only [Engine.rowBytes?, view, rows]
    obtain rfl | rfl := one
    · rw [missing]
    · rw [missing]
      cases (e.cache p).pieces? j <;> rfl
  simp only [Engine.rowWork, none, unready]

/-! ### A blocked row asks for its source rows (R126, R127) -/

theorem Engine.needs_mem_neededBy (mem : i ∈ e.needs p r) : i ∈ e.neededBy p (p, r) := by
  refine List.mem_append_left _ ?_
  rw [Engine.needsIn, if_pos rfl]
  exact mem

theorem Engine.FetchesTo.neededBy_eq {e' : Engine} (h : e.FetchesTo e') (p : Plane) (a : Plane × Nat) :
    e'.neededBy p a = e.neededBy p a := by
  simp only [Engine.neededBy, Engine.needsIn, h.needs, h.nextRow]

theorem Engine.demandFor_eq (p : Plane) (r : Nat) (e : Engine) :
    e.demandFor p r = (e.needs p r).foldl (fun e' j => e'.demandRow p (e.neededBy p (p, r)) j) e := by
  have all : ∀ (rows : List Nat) (e' : Engine), e.FetchesTo e' →
      rows.foldl (fun e' j => e'.demandRow p (e'.neededBy p (p, r)) j) e' =
        rows.foldl (fun e' j => e'.demandRow p (e.neededBy p (p, r)) j) e' := by
    intro rows
    induction rows with
    | nil => exact fun _ _ => rfl
    | cons j rows ih =>
      intro e' fetches
      rw [List.foldl_cons, List.foldl_cons, fetches.neededBy_eq]
      exact ih _ (fetches.trans (e'.fetches_demandRow p _ j))
  exact all _ e (.refl e)

/-- R126, R127: what a blocked row asks for: a source row without a place is fetched, a MARKED one once more, and the
others are waited for. -/
theorem Engine.demandFor_effect (mem : i ∈ e.needs p r) (sound : ∀ f ∈ (e.cache p).failed, f.1 ≠ i) :
    let t := e.demandFor p r
    let fetched (k : FetchKind) (reads : List (Nat × Nat)) :=
      (t.cache p).place? i = some (fetchingPlace i k reads)
        ∧ ∀ a ∈ reads, ⟨a.1, a.2, p, i, false⟩ ∈ t.fetchWaiting
    ((e.cache p).place? i = none → (e.cache p).places.length ≤ 2 → fetched .demand (e.rowReads p i))
      ∧ (∀ pl, (e.cache p).place? i = some pl → pl.cond = .marked →
          fetched .refetch (pl.pieces.map fun a => (a.addr, a.len)))
      ∧ ∀ pl, (e.cache p).place? i = some pl → pl.cond ≠ .marked → (t.cache p).place? i = some pl := by
  obtain ⟨u, fetches, same, length, failed, place, -, more, waiting⟩ := Engine.foldl_fetched
    (f := fun e' j => e'.demandRow p (e.neededBy p (p, r)) j)
    (fun e' j => e'.fetched_demandRow p (e.neededBy p (p, r)) j) (e.needs_cases p r) mem
    (.inl (Engine.needs_mem_neededBy mem))
  rw [← Engine.demandFor_eq] at place waiting
  have known (pl : CachePlace) (here : (e.cache p).place? i = some pl) :
      u.demandRow p (e.neededBy p (p, r)) i = if pl.cond = .marked then u.refetch p pl else u := by
    simp only [Engine.demandRow, same.trans here]
  refine ⟨fun unplaced room => ?_, fun pl here marked => ?_, fun pl here other => ?_⟩
  · have form : u.demandRow p (e.neededBy p (p, r)) i = u.fetchRow p .demand (e.neededBy p (p, r)) i := by
      simp only [Engine.demandRow, same.trans unplaced]
    obtain ⟨-, taken, raised⟩ := Engine.fetchRow_of_some (k := .demand) (needed := e.neededBy p (p, r))
      (same.trans unplaced) (show (u.cache p).failed? i = none by
        rw [PlaneCache.failed?, failed, List.find?_eq_none.2 fun f mem => by simpa using sound f mem]
        rfl) (.inl (Nat.lt_of_le_of_lt length (by omega)))
    rw [fetches.rowReads, ← form] at taken raised
    refine ⟨place.trans taken, fun a mem => ?_⟩
    rw [waiting, raised]
    exact List.mem_append_left _ (List.mem_append_right _ (List.mem_map_of_mem mem))
  · rw [known pl here, if_pos marked, Engine.refetch_eq] at place waiting
    rw [Engine.cache_raiseReads, Engine.cache_onCache] at place
    have row := PlaneCache.place?_row here
    rw [row] at place waiting
    refine ⟨place.trans (PlaneCache.place?_replace (same.trans here) row.symm), fun a mem => ?_⟩
    rw [waiting]
    exact List.mem_append_left _ (List.mem_append_right _ (List.mem_map_of_mem mem))
  · rw [known pl here, if_neg other] at place
    exact place.trans (same.trans here)

theorem Engine.demandFor_waiting (p : Plane) (r : Nat) (e : Engine) :
    ∃ more, (e.demandFor p r).fetchWaiting = e.fetchWaiting ++ more := by
  have all : ∀ (rows : List Nat) (e' : Engine), ∃ more,
      (rows.foldl (fun e' j => e'.demandRow p (e'.neededBy p (p, r)) j) e').fetchWaiting = e'.fetchWaiting ++ more := by
    intro rows
    induction rows with
    | nil => exact fun e' => ⟨[], (List.append_nil _).symm⟩
    | cons j rows ih =>
      intro e'
      obtain ⟨more, first⟩ := (e'.fetched_demandRow p (e'.neededBy p (p, r)) j).waiting
      obtain ⟨more', later⟩ := ih (e'.demandRow p (e'.neededBy p (p, r)) j)
      exact ⟨more ++ more', by rw [List.foldl_cons, later, first, List.append_assoc]⟩
  exact all _ e

end Sys2Proof.Machine
end

section
/-! OUTPUT_READ_SERVED: the obligation. -/

namespace Sys2Proof.Machine

variable {s t u : State} {x : OutId} {p p' : Plane} {r r' i j a : Nat} {b b' : List Byte} {g : OutGeom} {q : QueuedRead}
  {rest : List QueuedRead} {e : Engine} {l : Latch} {found : List (Plane × Nat × List Byte)}

/-! ### The damage of an output frame (R128) -/

/-- R128: the first failed row of an output frame sets the damaged flag, is logged and raises OUTPUT_DAMAGED. -/
theorem State.noteDamaged_effect (x : OutId) (a : Nat) (s : State) :
    let t := s.noteDamaged x a
    t.out x = { s.out x with damaged := true } ∧ t.out (otherOut x) = s.out (otherOut x)
      ∧ ((s.out x).damaged = true → t.notice = s.notice ∧ t.recs = s.recs)
      ∧ ((s.out x).damaged = false → t.notice.faults = s.notice.faults + 1
          ∧ t.notice.isPending .outputDamaged = true ∧ t.notice.isPending .fault = true
          ∧ .given (.fault s.notice.place) (faultRecord (s.notice.faults + 1) .outputFetch (outBlock x) a
              (((s.out x).latch.map (·.frame)).getD 0) (s.out x).faultPos) ∈ t.recs.waiting)
      ∧ s.changesOnly [.outA, .outB, .notice, .recs] t := by
  dsimp only
  cases damaged : (s.out x).damaged with
  | true =>
    have form : s.noteDamaged x a = s := if_pos damaged
    rw [form]
    refine ⟨?_, rfl, fun _ => ⟨rfl, rfl⟩, nofun, fun _ _ => by cases ‹Block› <;> rfl⟩
    rw [← damaged]
  | false =>
    have form : s.noteDamaged x a = ((s.onOut x fun e => { e with damaged := true }).logFault .outputFetch (outBlock x) a
        (((s.out x).latch.map (·.frame)).getD 0) (s.out x).faultPos).raise .outputDamaged :=
      if_neg (by rw [damaged]; exact Bool.false_ne_true)
    have fault := State.fault_mem_logFault .outputFetch (outBlock x) a (((s.out x).latch.map (·.frame)).getD 0)
      (s.out x).faultPos (s.onOut x fun e => { e with damaged := true })
    rw [form]
    refine ⟨?_, ?_, nofun, fun _ => ⟨?_, ?_, ?_, ?_⟩, fun b hb => ?_⟩
    · cases x <;> simp
    · cases x <;> simp [otherOut]
    · simp
    · simp
    · simp
    · exact State.mem_raise_of_mem _ (by simpa using fault)
    · cases b with
      | outA | outB | notice | recs => simp at hb
      | _ => simp [Block.same]

/-! ### The state with the head read answered -/

theorem State.changesOnly.mono {bs bs' : List Block} (h : s.changesOnly bs t) (sub : ∀ b ∈ bs, b ∈ bs') :
    s.changesOnly bs' t := fun b hb => h b fun mem => hb (sub b mem)


/-- R114: the head read answered from the rows gathered. -/
def State.readAnswered (x : OutId) (q : QueuedRead) (rest : List QueuedRead) (g : OutGeom)
    (found : List (Plane × Nat × List Byte)) (s : State) : State :=
  (s.onOut x fun e => { e with queue := rest }).onPath fun u => { u with
    upLog := u.upLog ++ [⟨q.id, .read, .okay, (List.range q.len).map fun i => byteFrom g found (q.off + i)⟩] }

theorem State.readAnswered_out : (s.readAnswered x q rest g found).out x = { s.out x with queue := rest } := by
  cases x <;> rfl

theorem State.readAnswered_out_other : (s.readAnswered x q rest g found).out (otherOut x) = s.out (otherOut x) := by
  cases x <;> rfl

theorem State.readAnswered_path : (s.readAnswered x q rest g found).path = { s.path with
    upLog := s.path.upLog ++ [⟨q.id, .read, .okay, (List.range q.len).map fun i => byteFrom g found (q.off + i)⟩] } := by
  cases x <;> rfl

theorem State.readAnswered_changesOnly : s.changesOnly [.path, .outA, .outB] (s.readAnswered x q rest g found) := by
  intro b hb
  cases b with
  | path | outA | outB => simp at hb
  | _ => simp [Block.same, State.readAnswered]

theorem exec_outputReadServed_readAnswered (running : s.notice.halted = false) (queue : (s.out x).queue = q :: rest)
    (geom : (s.out x).geom = some g) (started : q.off ≠ 0 ∨ q.started = true)
    (stays : (s.out x).leaving = false ∨ rest ≠ []) (rows : s.ensureRows x (g.rowsOf q.off q.len) = (t, some found))
    (queue' : (t.out x).queue = (s.out x).queue) (leaving : (t.out x).leaving = (s.out x).leaving) :
    exec (.outputReadServed x) s = .next (t.readAnswered x q rest g found) := by
  rw [exec_outputReadServed_of_found running queue geom started rows,
    State.finishLeaving_answerHead (queue'.trans queue) (by rw [leaving]; exact stays)]
  rfl

/-- R128: a failed row repeats the plane's current row, or is black. -/
theorem Engine.heldRow_eq (geom : e.geom = some g) : e.heldRow p =
    ((e.cache p).current.map (·.bytes)).getD (List.replicate g.ow (if p = .luma then 16 else 128)) := by
  unfold Engine.heldRow
  cases (e.cache p).current with
  | some b => rfl
  | none =>
    rw [geom]
    cases p <;> rfl

/-! ### The obligation -/

/-- Settles O47: the head read answered from its rows, computed, held or black, and blocked. -/
theorem outputReadServedAnswersTheHeadRead : Obligations.OutputReadServedAnswersTheHeadRead := by
  refine ⟨?_, ?_, ?_⟩
  · intro x q rest g s running queue geom stays c
    refine ⟨fun first unstarted => exec_outputReadServed_of_waits running queue geom ⟨first, unstarted⟩, fun started =>
      ⟨fun p r b rows buffered => ?_, fun p r b p' r' b' rows buffered buffered' => ?_,
        fun dark luma chroma wide tall long short inside => ?_, fun p r rows unbuffered blocked => ?_⟩⟩
    · rw [exec_outputReadServed_readAnswered running queue geom started stays
        (by rw [rows]; exact State.ensureRows_one (State.ensureRow_of_buffered buffered)) rfl rfl, State.readAnswered]
      simp only [byteFrom_one]
    · have both := State.ensureRows_two (State.ensureRow_of_buffered buffered) (State.ensureRow_of_buffered buffered')
      rw [exec_outputReadServed_readAnswered running queue geom started stays (by rw [rows]; exact both) rfl rfl,
        State.readAnswered]
      simp only [byteFrom_two]
    · obtain ⟨t, found, rows, black, covers, queue', leaving, frame, other⟩ :=
        State.ensureRows_black dark geom luma chroma q.off q.len
      refine ⟨_, exec_outputReadServed_readAnswered running queue geom started stays rows queue' leaving,
        by rw [State.readAnswered_out], ?_, State.readAnswered_out_other.trans other, ?_⟩
      · have path : t.path = s.path := frame .path (by simp)
        rw [State.readAnswered_path, path]
        refine congrArg (fun data => ({ s.path with upLog := s.path.upLog ++ [⟨q.id, .read, .okay, data⟩] } : PathUnit)) ?_
        refine List.map_congr_left fun i mem => byteFrom_black (by omega) black ?_
        rw [covers]
        exact OutGeom.locate_mem_rowsOf (by omega) (List.mem_range.1 mem)
      · exact State.changesOnly.trans (frame.mono (by simp)) State.readAnswered_changesOnly
    · refine ⟨_, exec_outputReadServed_of_blocked running queue geom started
        (by rw [rows]; exact State.ensureRows_one_none (State.ensureRow_of_blocked unbuffered blocked)), ?_, ?_,
        State.changesOnly_onOut _ _ _⟩
      · rw [State.onOut_out, ((s.out x).fetches_demandFor p r).queue, queue]
      · rw [State.onOut_out, ((s.out x).fetches_demandFor p r).latch]
  · intro x q rest g l p r j below s running queue geom latch stays started rows unbuffered source c answer reads fetched
      prefetched
    have answered {t : State} {row : List Byte} (found : s.ensureRow x p r = (t, some row))
        (queue' : (t.out x).queue = (s.out x).queue) (leaving : (t.out x).leaving = (s.out x).leaving) :
        exec (.outputReadServed x) s = .next (t.readAnswered x q rest g [(p, r, row)]) :=
      exec_outputReadServed_readAnswered running queue geom started stays
        (by rw [rows]; exact State.ensureRows_one found) queue' leaving
    have path {t : State} {row : List Byte} (same : t.path = s.path) : (t.readAnswered x q rest g [(p, r, row)]).path =
        { s.path with upLog := s.path.upLog ++ [answer row] } := by
      rw [State.readAnswered_path, same]
      simp only [byteFrom_one, answer]
    have cache {t : State} {row : List Byte} (a : Plane) :
        ((t.readAnswered x q rest g [(p, r, row)]).out x).cache a = (t.out x).cache a := by
      rw [State.readAnswered_out]
      cases a <;> rfl
    have next {t0 : State} {row : List Byte} (latch : (t0.out x).latch = some l) (geom : (t0.out x).geom = some g)
        (same : ∀ a, (t0.out x).cache a = (s.out x).cache a) :
        prefetched ((t0.rowComputed x p r row).readAnswered x q rest g [(p, r, row)]) := by
      intro p' r' i follows mem unplaced sound room
      have got := State.rowComputed_prefetched (s := t0) (b := row) latch geom follows mem (by rw [same]; exact unplaced)
        (by rw [same]; exact sound) (by rw [same]; exact room)
      simp only [fetched, cache]
      rw [State.readAnswered_out]
      exact got
    refine ⟨fun pl pl2 sound first second valid valid2 => ?_, fun m a failed needed => ?_, fun sound waits => ?_⟩
    · intro row
      have ready := Engine.rowWork_of_valid latch geom source sound first second valid valid2
      obtain ⟨queue', leaving, latch', damaged, computed⟩ := (s.out x).pushed_prefetchAfter p r row
      rw [← State.rowComputed_out] at queue' leaving latch' damaged computed
      refine ⟨_, answered (State.ensureRow_of_ready unbuffered ready) queue' leaving,
        path (by simp), by rw [State.readAnswered_out],
        by rw [cache]; exact State.rowComputed_buffers.1, by rw [State.readAnswered_out]; exact computed,
        by rw [cache]; exact State.rowComputed_buffers.2, by rw [State.readAnswered_out]; exact latch',
        by rw [State.readAnswered_out]; exact damaged, ?_, next latch geom fun _ => rfl, ?_⟩
      · exact State.readAnswered_out_other.trans State.onOut_out_other
      · exact State.changesOnly.trans ((State.rowComputed_changesOnly x p r row s).mono (by simp))
          State.readAnswered_changesOnly
    · intro held
      have broken := Engine.rowWork_of_failed latch geom source failed needed
      have form : (s.out x).heldRow p = held := Engine.heldRow_eq geom
      obtain ⟨out, other, quiet, logged, frame⟩ := s.noteDamaged_effect x a
      have same (o : Plane) : ((s.noteDamaged x a).out x).cache o = (s.out x).cache o := by
        rw [out]
        cases o <;> rfl
      obtain ⟨queue', leaving, -, damaged, computed⟩ := ((s.noteDamaged x a).out x).pushed_prefetchAfter p r held
      rw [← State.rowComputed_out] at queue' leaving damaged computed
      rw [out] at queue' leaving damaged
      have found := State.ensureRow_of_failed unbuffered broken
      rw [form] at found
      have notice : (((s.noteDamaged x a).rowComputed x p r held).readAnswered x q rest g [(p, r, held)]).notice =
          (s.noteDamaged x a).notice := by simp [State.readAnswered]
      have recs : (((s.noteDamaged x a).rowComputed x p r held).readAnswered x q rest g [(p, r, held)]).recs =
          (s.noteDamaged x a).recs := by simp [State.readAnswered]
      refine ⟨_, answered found queue' leaving, path (by simp), by rw [State.readAnswered_out],
        by rw [cache]; exact State.rowComputed_buffers.1, by rw [State.readAnswered_out]; exact computed,
        by rw [cache]; exact State.rowComputed_buffers.2.trans (by rw [same]), by rw [State.readAnswered_out]; exact damaged,
        by rw [notice, recs]; exact quiet, fun clean => ?_, ?_, next (by rw [out]; exact latch) (by rw [out]; exact geom) same,
        ?_⟩
      · obtain ⟨faults, damage, fault, record⟩ := logged clean
        rw [latch, Engine.faultPos, latch] at record
        rw [notice, recs]
        refine ⟨faults, damage, fault, ?_⟩
        cases x <;> exact record
      · exact State.readAnswered_out_other.trans (State.onOut_out_other.trans other)
      · exact State.changesOnly.trans ((frame.mono (by simp)).trans
          ((State.rowComputed_changesOnly x p r held _).mono (by simp))) (State.readAnswered_changesOnly.mono (by simp))
    · have blocked := Engine.rowWork_of_blocked latch geom source sound waits
      have needs := Engine.needs_eq latch geom source
      refine ⟨_, exec_outputReadServed_of_blocked running queue geom started
        (by rw [rows]; exact State.ensureRows_one_none (State.ensureRow_of_blocked unbuffered blocked)), ?_,
        fun i mem => ?_, ?_, State.changesOnly_onOut _ _ _⟩
      · rw [State.onOut_out, ((s.out x).fetches_demandFor p r).queue, queue]
      · have asked := Engine.demandFor_effect (e := s.out x) (p := p) (r := r) (i := i) (by rw [needs]; exact mem)
          fun f hf here => (List.mem_cons.1 mem).elim (fun h => (sound f hf).1 (here.trans h))
            fun h => (sound f hf).2 (here ▸ h)
        rw [Engine.rowReads_of_latch latch geom] at asked
        simp only [fetched, State.onOut_out]
        exact asked
      · rw [State.onOut_out]
        exact (s.out x).demandFor_waiting p r
  · intro x q g p r b s running queue geom leaving started rows buffered
    have ring : (s.answerHead x q g [(p, r, b)]).ring = s.ring := by cases x <;> rfl
    obtain ⟨path, state, stays, latch, empty, damaged, other, shows, recalled, alone, restart⟩ :=
      State.finishLeaving_left (s := s.answerHead x q g [(p, r, b)]) (x := x)
        (by rw [State.answerHead_out]; exact leaving) (by rw [State.answerHead_out, queue]; rfl)
    refine ⟨_, exec_outputReadServed_of_found running queue geom started
      (by rw [rows]; exact State.ensureRows_one (State.ensureRow_of_buffered buffered)), ?_, state, stays, latch, empty,
      damaged, ?_, fun k latched => ?_, fun n _ => recalled n, fun h => ?_, fun h => ?_⟩
    · rw [path]
      cases x <;> simp only [State.answerHead, State.onPath_path, State.onOut_path, byteFrom_one]
    · rw [other]
      cases x <;> rfl
    · refine Slot.shows_eq_iff.1 (shows k ?_)
      rw [State.answerHead_out]
      exact latched
    · have answered := alone (by rw [ring]; exact h)
      unfold State.AnswersLater at answered ⊢
      rw [ring] at answered
      exact answered
    · obtain ⟨live, done, waits⟩ := restart (by rw [ring]; exact h)
      have kept : (s.answerHead x q g [(p, r, b)]).cap = s.cap ∧ (s.answerHead x q g [(p, r, b)]).store = s.store
          ∧ (s.answerHead x q g [(p, r, b)]).out (otherOut x) = s.out (otherOut x) := by
        cases x <;> exact ⟨rfl, rfl, rfl⟩
      obtain ⟨cap, store, same⟩ := kept
      unfold State.AnswersLater at done ⊢
      rw [cap, store, same, ring] at done waits
      exact ⟨live, done, waits⟩

end Sys2Proof.Machine
end

section
/-! The luma line buffer (R65, R67): which place holds a line, the free places, what a write needs. -/

namespace Sys2Proof.Machine

variable {c c' : Capture} {g : CapGeom} {s : State} {j k n off y : Nat} {p : Place} {data : List Byte}

/-! ### Places -/

theorem getD_set {α : Type} (l : List α) (k j : Nat) (v d : α) :
    (l.set k v).getD j d = if j = k ∧ k < l.length then v else l.getD j d := by
  simp only [List.getD_eq_getElem?_getD, List.getElem?_set]
  by_cases same : k = j
  · subst same
    by_cases inside : k < l.length
    · simp [inside]
    · simp [inside]
  · simp [same, Ne.symm same]

/-- What place `k` holds. -/
def Capture.placeAt (c : Capture) (k : Nat) : Option Place := c.places.getD k none

theorem Capture.placeAt_eq_some : c.placeAt k = some p ↔ c.places[k]? = some (some p) := by
  rw [Capture.placeAt, List.getD_eq_getElem?_getD]
  cases c.places[k]? <;> simp

theorem Capture.lt_of_placeAt (h : c.placeAt k = some p) : k < c.places.length := by
  by_contra outside
  rw [Capture.placeAt, List.getD_eq_getElem?_getD, List.getElem?_eq_none (Nat.le_of_not_lt outside)] at h
  cases h

theorem Capture.placeAt_setPlace (k j : Nat) (v : Option Place) (c : Capture) :
    (c.setPlace k v).placeAt j = if j = k ∧ k < c.places.length then v else c.placeAt j :=
  getD_set c.places k j v none

/-- The line that a place holds; a write of a frame whose order broke holds none. -/
def lineOf : Option Place → Option Nat
  | some p => if p.unit then none else some p.line
  | none => none

/-- The line in place `k`. -/
def Capture.lineAt (c : Capture) (k : Nat) : Option Nat := lineOf (c.placeAt k)

theorem lineOf_eq_some {o : Option Place} : lineOf o = some y ↔ ∃ p, o = some p ∧ p.unit = false ∧ p.line = y := by
  cases o with
  | none => simp [lineOf]
  | some p => cases unit : p.unit <;> simp [lineOf, unit]

theorem Capture.lineAt_eq_some : c.lineAt k = some y ↔ ∃ p, c.placeAt k = some p ∧ p.unit = false ∧ p.line = y :=
  lineOf_eq_some

theorem Capture.placeOf_eq (y : Nat) (c : Capture) :
    c.placeOf y = (List.range c.places.length).find? fun k => decide (c.lineAt k = some y) := by
  unfold Capture.placeOf
  congr 1
  funext k
  unfold Capture.lineAt Capture.placeAt
  cases c.places.getD k none with
  | none => rfl
  | some p => cases unit : p.unit <;> simp [lineOf, unit]

theorem Capture.lt_of_lineAt (h : c.lineAt k = some y) : k < c.places.length := by
  obtain ⟨p, place, -⟩ := Capture.lineAt_eq_some.1 h
  exact Capture.lt_of_placeAt place

theorem Capture.placeOf_eq_none : c.placeOf y = none ↔ ∀ k, c.lineAt k ≠ some y := by
  rw [Capture.placeOf_eq, List.find?_eq_none]
  refine ⟨fun h k here => ?_, fun h k _ => by simpa using h k⟩
  exact h k (List.mem_range.2 (Capture.lt_of_lineAt here)) (decide_eq_true here)

theorem Capture.placeOf_eq_some : c.placeOf y = some k ↔ c.lineAt k = some y ∧ ∀ j, j < k → c.lineAt j ≠ some y := by
  rw [Capture.placeOf_eq]
  refine ⟨fun h => ?_, fun ⟨here, first⟩ => ?_⟩
  · obtain ⟨found, -, before⟩ := List.find?_range_eq_some.1 h
    exact ⟨of_decide_eq_true found, fun j hj => by simpa using before j hj⟩
  · exact List.find?_range_eq_some.2 ⟨decide_eq_true here, List.mem_range.2 (Capture.lt_of_lineAt here),
      fun j hj => by simpa using first j hj⟩

/-- A line is found by where it stands. -/
theorem Capture.placeOf_congr (same : ∀ j, c'.lineAt j = some y ↔ c.lineAt j = some y) : c'.placeOf y = c.placeOf y := by
  cases found : c.placeOf y with
  | none => exact Capture.placeOf_eq_none.2 fun k here => Capture.placeOf_eq_none.1 found k ((same k).1 here)
  | some k =>
    obtain ⟨here, first⟩ := Capture.placeOf_eq_some.1 found
    exact Capture.placeOf_eq_some.2 ⟨(same k).2 here, fun j hj there => first j hj ((same j).1 there)⟩

theorem Capture.free_iff : c.places[k]? = some none ↔ k < c.places.length ∧ (c.places.getD k none).isNone = true := by
  rw [List.getD_eq_getElem?_getD]
  by_cases inside : k < c.places.length
  · rw [List.getElem?_eq_getElem inside]
    simp [inside]
  · rw [List.getElem?_eq_none (Nat.le_of_not_lt inside)]
    simp [inside]

theorem Capture.freePlace_eq_some :
    c.freePlace = some k ↔ c.places[k]? = some none ∧ ∀ j, j < k → c.places[j]? ≠ some none := by
  rw [Capture.freePlace, List.find?_range_eq_some, Capture.free_iff, List.mem_range]
  have taken (j : Nat) : (!(c.places.getD j none).isNone) = true ↔ ¬ (c.places.getD j none).isNone = true := by
    rw [Bool.not_eq_true', Bool.eq_false_iff]
  refine ⟨fun ⟨free, inside, first⟩ => ⟨⟨inside, free⟩, fun j hj h => (taken j).1 (first j hj) (Capture.free_iff.1 h).2⟩,
    fun ⟨⟨inside, free⟩, first⟩ => ⟨free, inside, fun j hj => (taken j).2 fun h => first j hj ?_⟩⟩
  exact Capture.free_iff.2 ⟨hj.trans inside, h⟩

theorem Capture.freePlace_eq_none : c.freePlace = none ↔ none ∉ c.places := by
  rw [List.mem_iff_getElem?, Capture.freePlace, List.find?_eq_none]
  simp only [Capture.free_iff, List.mem_range, not_exists, not_and]

theorem Capture.freePlace_isSome : c.freePlace.isSome = true ↔ none ∈ c.places := by
  rw [Option.isSome_iff_ne_none, ne_eq, Capture.freePlace_eq_none, not_not]

/-! ### What a write needs (R67) -/

theorem CapGeom.linesOf_eq (some : 0 < n) (short : n ≤ g.w) : g.linesOf off n =
    if off / g.w = (off + n - 1) / g.w then [off / g.w] else [off / g.w, (off + n - 1) / g.w] := by
  have low : off / g.w ≤ (off + n - 1) / g.w := Nat.div_le_div_right (by omega)
  have next : (off + g.w) / g.w = off / g.w + 1 := Nat.add_div_right off (by omega)
  have high : (off + n - 1) / g.w ≤ (off + g.w) / g.w := Nat.div_le_div_right (by omega)
  rw [CapGeom.linesOf, if_neg (by omega)]
  generalize off / g.w = a at low next high
  generalize (off + n - 1) / g.w = b at low high
  have drop (m : Nat) : (List.range (a + m)).drop a = (List.range m).map (a + ·) := by
    rw [List.range_add, List.drop_left' List.length_range]
  split
  next same =>
    subst same
    simpa using drop 1
  next apart =>
    obtain rfl : b = a + 1 := by omega
    exact drop 2

theorem Capture.acceptsLines_zero (g : CapGeom) (off : Nat) (c : Capture) : c.acceptsLines g off 0 = true := by
  simp [Capture.acceptsLines, CapGeom.linesOf]

theorem Capture.acceptsLines_iff (some : 0 < n) (short : n ≤ g.w) : c.acceptsLines g off n = true ↔
    (if c.placeOf (off / g.w) = none then 1 else 0)
        + (if off / g.w ≠ (off + n - 1) / g.w ∧ c.placeOf ((off + n - 1) / g.w) = none then 1 else 0)
      ≤ (c.places.filter fun p => decide (p = none)).length := by
  have free : c.freeCount = (c.places.filter fun p => decide (p = none)).length := by
    rw [Capture.freeCount, List.countP_eq_length_filter]
    congr 2
    funext p
    cases p <;> rfl
  rw [Capture.acceptsLines, decide_eq_true_iff, free, CapGeom.linesOf_eq some short]
  have one (y : Nat) (l : List Nat) : ((y :: l).filter fun y => (c.placeOf y).isNone).length =
      (if c.placeOf y = none then 1 else 0) + (l.filter fun y => (c.placeOf y).isNone).length := by
    rw [List.filter_cons]
    by_cases h : c.placeOf y = none
    · simp [h, Nat.add_comm]
    · simp [h]
  split
  next same => simp [one, same]
  next apart => simp [one, apart]

theorem State.acceptsWrite_iff : s.acceptsWrite g off data = true ↔ s.cap.dropped = true
    ∨ ((s.cap.broken = false ∧ off = s.cap.expected → s.cap.acceptsLines g off (g.lumaPart off data).length = true)
      ∧ (s.cap.broken = true ∨ off ≠ s.cap.expected → g.lumaPart off data = [] ∨ none ∈ s.cap.places)
      ∧ (g.chromaPart off data = [] ∨ s.hasRoom .write = true)) := by
  rw [State.acceptsWrite, Bool.or_eq_true, Bool.and_eq_true, Bool.or_eq_true, List.isEmpty_iff]
  by_cases ordered : s.cap.broken = false ∧ off = s.cap.expected
  · have whole : ¬ (s.cap.broken = true ∨ off ≠ s.cap.expected) := by simp [ordered.1, ordered.2]
    rw [if_pos ordered]
    exact or_congr_right ⟨fun ⟨lines, room⟩ => ⟨fun _ => lines, fun out => absurd out whole, room⟩,
      fun ⟨lines, _, room⟩ => ⟨lines ordered, room⟩⟩
  · have out : s.cap.broken = true ∨ off ≠ s.cap.expected := by
      by_cases broken : s.cap.broken = true
      · exact .inl broken
      · exact .inr fun h => ordered ⟨by simpa using broken, h⟩
    rw [if_neg ordered, Bool.or_eq_true, List.isEmpty_iff, Capture.freePlace_isSome]
    exact or_congr_right ⟨fun ⟨place, room⟩ => ⟨fun h => absurd h ordered, fun _ => place, room⟩,
      fun ⟨_, place, room⟩ => ⟨place out, room⟩⟩

end Sys2Proof.Machine
end

section
/-! Class C writes (R65, R66): the writes of a line, and what a grant leaves in the line buffer. -/

namespace Sys2Proof.Machine

variable {c : Capture} {s : State} {j k addr : Nat} {p : Place} {bytes : List Byte}

/-! ### The writes of a line (R66) -/

theorem splitSpan_inside : ∀ (fuel a limit : Nat), ∀ piece ∈ splitSpan fuel a limit,
    a ≤ piece.1 ∧ piece.1 + piece.2 ≤ limit
  | 0, _, _, _, mem => absurd mem List.not_mem_nil
  | fuel + 1, a, limit, piece, mem => by
    rw [splitSpan] at mem
    split at mem
    · exact absurd mem List.not_mem_nil
    next more =>
      obtain ⟨-, -, -, inside, -⟩ := pieceLen_spec (Nat.lt_of_not_le more)
      obtain rfl | mem := List.mem_cons.1 mem
      · exact ⟨le_refl _, inside⟩
      · obtain ⟨low, high⟩ := splitSpan_inside fuel _ limit piece mem
        exact ⟨by omega, high⟩

/-- The bytes of the pieces of a span, put together. -/
theorem splitSpan_flatten (addr : Nat) (bytes : List Byte) : ∀ (fuel a limit : Nat), addr ≤ a → limit - a ≤ fuel →
    ((splitSpan fuel a limit).map fun x => (bytes.drop (x.1 - addr)).take x.2).flatten =
      (bytes.drop (a - addr)).take (limit - a)
  | 0, a, limit, _, enough => by
    rw [Nat.le_zero.1 enough, List.take_zero]
    rfl
  | fuel + 1, a, limit, low, enough => by
    rw [splitSpan]
    split
    next past =>
      rw [Nat.sub_eq_zero_of_le past, List.take_zero]
      rfl
    next more =>
      obtain ⟨pos, -, -, inside, -⟩ := pieceLen_spec (Nat.lt_of_not_le more)
      rw [List.map_cons, List.flatten_cons, splitSpan_flatten addr bytes fuel _ limit (by omega) (by omega)]
      have whole : limit - a = pieceLen a limit + (limit - (a + pieceLen a limit)) := by omega
      rw [whole, List.take_add, List.drop_drop]
      congr 3
      omega

theorem lineWrites_spec (k addr : Nat) (bytes : List Byte) :
    SplitsSpan addr bytes.length ((lineWrites k addr bytes).map fun w => (w.addr, w.data.length))
      ∧ ((lineWrites k addr bytes).map (·.data)).flatten = bytes ∧ ∀ w ∈ lineWrites k addr bytes, w.place = k := by
  have pieces : ((lineWrites k addr bytes).map fun w => (w.addr, w.data.length)) = spanOf addr bytes.length := by
    rw [lineWrites, List.map_map]
    refine (List.map_congr_left fun piece mem => ?_).trans (List.map_id _)
    obtain ⟨low, high⟩ := splitSpan_inside _ _ _ piece mem
    refine Prod.ext rfl ?_
    simp only [Function.comp, List.length_take, List.length_drop, id]
    omega
  have joined := splitSpan_flatten addr bytes bytes.length addr (addr + bytes.length) (le_refl _) (by omega)
  rw [Nat.sub_self, List.drop_zero, Nat.add_sub_cancel_left, List.take_length] at joined
  refine ⟨pieces ▸ spanOf_splits addr bytes.length, ?_, fun w mem => ?_⟩
  · rw [lineWrites, List.map_map]
    exact joined
  · obtain ⟨piece, -, rfl⟩ := List.mem_map.1 mem
    rfl

/-! ### A write granted (R65, R69) -/

/-- R65, R69: the last write of a place granted frees it. -/
def Capture.FreesLast (c : Capture) (p : Place) : Prop :=
  p.unit = true ∨ c.broken = true ∨ c.frameKind = .plain ∨ p.line + 1 < c.nextEmit ∨ c.geom.map (·.h) = some (p.line + 1)

theorem Capture.lumaGranted_eq (place : c.placeAt k = some p) :
    (1 < p.unsent → c.lumaGranted k = c.setPlace k (some { p with unsent := p.unsent - 1 }))
      ∧ (p.unsent ≤ 1 → c.FreesLast p → c.lumaGranted k = c.setPlace k none)
      ∧ (p.unsent ≤ 1 → ¬ c.FreesLast p →
          c.lumaGranted k = c.setPlace k (some { p with unsent := 0, cond := .neighbour })) := by
  have place : c.places.getD k none = some p := place
  have last : (p.unit || c.broken || decide (c.frameKind = .plain) || decide (p.line + 1 < c.nextEmit)
      || decide (p.line + 1 = (c.geom.map (·.h)).getD 0)) = true ↔ c.FreesLast p := by
    have height : p.line + 1 = (c.geom.map (·.h)).getD 0 ↔ c.geom.map (·.h) = some (p.line + 1) := by
      cases c.geom with
      | none => simp
      | some g => simp [eq_comm]
    simp only [Bool.or_eq_true, decide_eq_true_eq, height, or_assoc, Capture.FreesLast]
  refine ⟨fun more => ?_, fun done free => ?_, fun done kept => ?_⟩
  · simp only [Capture.lumaGranted, place, if_pos more]
  · simp only [Capture.lumaGranted, place, if_neg (Nat.not_lt.2 done)]
    rw [if_pos (last.2 free)]
  · simp only [Capture.lumaGranted, place, if_neg (Nat.not_lt.2 done)]
    rw [if_neg (mt last.1 kept)]

theorem Capture.lumaGranted_other (other : j ≠ k) (c : Capture) : (c.lumaGranted k).placeAt j = c.placeAt j := by
  have set (v : Option Place) : (c.setPlace k v).placeAt j = c.placeAt j := by
    rw [Capture.placeAt_setPlace, if_neg fun h => other h.1]
  unfold Capture.lumaGranted
  repeat' split
  · rfl
  · exact set _
  · exact set _
  · exact set _

/-- R13, R65: a grant to class C issues its first write. -/
theorem exec_downstreamGrant_c {w : LumaWrite} {rest : List LumaWrite} (running : s.notice.halted = false)
    (chosen : s.chooseGrant = some .c) (waiting : s.cap.lumaWaiting = w :: rest) : ∃ t, exec .downstreamGrant s = .next t
      ∧ t.cap = ({ s.cap with lumaWaiting := rest, lumaFlight := s.cap.lumaFlight ++ [w] } : Capture).lumaGranted w.place := by
  refine ⟨s.grant .c, by simp only [exec, execDownstreamGrant, chosen], ?_⟩
  rw [State.grant_eq running, State.onPath_cap]
  simp [State.issue, Capture.grantLuma, waiting]

/-- R65, R69: what the grant of a class C write leaves of its place. -/
theorem lumaGrant_frees {w : LumaWrite} {rest : List LumaWrite} (running : s.notice.halted = false)
    (chosen : s.chooseGrant = some .c) (waiting : s.cap.lumaWaiting = w :: rest)
    (place : s.cap.places.getD w.place none = some p) : ∃ t, exec .downstreamGrant s = .next t ∧ t.cap.lumaWaiting = rest
      ∧ (1 < p.unsent → t.cap.places.getD w.place none = some { p with unsent := p.unsent - 1 })
      ∧ (p.unsent ≤ 1 → s.cap.FreesLast p → t.cap.places.getD w.place none = none)
      ∧ (p.unsent ≤ 1 → ¬ s.cap.FreesLast p →
          t.cap.places.getD w.place none = some { p with unsent := 0, cond := .neighbour })
      ∧ ∀ j, j ≠ w.place → t.cap.places.getD j none = s.cap.places.getD j none := by
  obtain ⟨t, row, cap⟩ := exec_downstreamGrant_c running chosen waiting
  have inside : w.place < s.cap.places.length := Capture.lt_of_placeAt place
  obtain ⟨more, freed, kept⟩ := Capture.lumaGranted_eq
    (c := { s.cap with lumaWaiting := rest, lumaFlight := s.cap.lumaFlight ++ [w] }) (k := w.place) (p := p) place
  have set (v : Option Place) :
      ((s.cap.places.set w.place v).getD w.place none) = v := by rw [getD_set, if_pos ⟨rfl, inside⟩]
  refine ⟨t, row, ?_, fun h => ?_, fun h f => ?_, fun h f => ?_, fun j other => ?_⟩
  · rw [cap, (Capture.lumaGranted_frame _ _).1]
  · rw [cap, more h]
    exact set _
  · rw [cap, freed h f]
    exact set _
  · rw [cap, kept h f]
    exact set _
  · rw [cap]
    exact Capture.lumaGranted_other other _

end Sys2Proof.Machine
end

section
/-! Capture writes (R59 to R64): the row, the write of the frame in progress, the order broken. -/

namespace Sys2Proof.Machine

variable {s u : State} {t : Txn} {g : CapGeom} {c : Capture} {die : Int} {k off : Nat}

/-! ### The row -/

theorem exec_captureWrite (legal : t.legal = true) (dir : t.dir = .write) (route : s.classify t = .enhancer off)
    (later : off ≠ 0) (geom : s.cap.geom = some g) :
    exec (.captureWrite t die) s = .next (s.captureWrite t g off die) := by
  simp only [exec, execCaptureWrite, legal, dir, decide_true, Bool.and_self, if_true, route, geom, if_neg later]

theorem State.captureWrite_of_stray (next : s.isNext t = true) (settled : s.cap.tearing = false)
    (idle : s.cap.tracker ≠ .receiving) : s.captureWrite t g off die = (s.leaveUntaken t).strayWrite t := by
  unfold State.captureWrite
  rw [if_neg (by simp [settled])]
  split
  next receiving => exact absurd receiving idle
  next => simp only [State.present, next, Bool.and_self, if_true]
  next => simp only [State.present, next, Bool.and_self, if_true]

theorem State.captureWrite_of_receiving (next : s.isNext t = true) (settled : s.cap.tearing = false)
    (receiving : s.cap.tracker = .receiving) : s.captureWrite t g off die =
      if s.acceptsWrite g off t.data then (s.leaveUntaken t).frameWrite t g off die else s.holdUntaken t := by
  simp only [State.captureWrite, settled, receiving, State.present, next, Bool.true_and, Bool.false_eq_true, if_false]

/-! ### The order breaks (R60, R69) -/

/-- R60: the enhancer with its order broken and its frame degraded. -/
def Capture.disordered (c : Capture) : Capture := { c with
  broken := true, degraded := true, degradedCount := if c.degraded then c.degradedCount else c.degradedCount + 1 }

theorem State.breakOrder_of_broken (broken : s.cap.broken = true) : s.breakOrder g = s := if_pos broken

/-- R60, R69: what the first break of a frame's order does. -/
theorem State.breakOrder_effect (whole : s.cap.broken = false) :
    let u := s.breakOrder g
    u.cap = (if s.cap.dropped then s.cap.disordered else s.cap.disordered.flush g.w s.frameBase)
      ∧ u.slots = (if s.cap.degraded then s.slots else s.slots.degrade)
      ∧ (s.cap.degraded = true → u.notice = s.notice ∧ u.recs = s.recs)
      ∧ (s.cap.degraded = false → u.notice.isPending .frameDegraded = true)
      ∧ s.changesOnly [.cap, .slots, .notice, .recs] u := by
  have form : s.breakOrder g = if s.cap.dropped then (s.onCap fun c => { c with broken := true }).degradeFrame
      else (s.onCap fun c => { c with broken := true }).degradeFrame.onCap (·.flush g.w s.frameBase) := by
    rw [State.breakOrder, if_neg (by simp [whole])]
  have cap : (s.onCap fun c => { c with broken := true }).degradeFrame.cap = s.cap.disordered := by
    rw [State.degradeFrame_cap]
    rfl
  have rest : ∀ (f : Capture → Capture), let v := (s.onCap fun c => { c with broken := true }).degradeFrame.onCap f
      v.slots = (if s.cap.degraded then s.slots else s.slots.degrade)
        ∧ (s.cap.degraded = true → v.notice = s.notice ∧ v.recs = s.recs)
        ∧ (s.cap.degraded = false → v.notice.isPending .frameDegraded = true)
        ∧ s.changesOnly [.cap, .slots, .notice, .recs] v := by
    intro f v
    refine ⟨?_, fun degraded => ?_, fun first => ?_, fun b hb => ?_⟩
    · exact State.degradeFrame_slots (s.onCap fun c => { c with broken := true })
    · have same : (s.onCap fun c => { c with broken := true }).degradeFrame = s.onCap fun c => { c with broken := true } :=
        if_pos degraded
      simp [v, same]
    · exact State.degradeFrame_raises (s := s.onCap fun c => { c with broken := true }) first
    · cases b with
      | cap | slots | notice | recs => simp at hb
      | _ => simp [Block.same, v]
  dsimp only
  rw [form]
  cases dropped : s.cap.dropped with
  | true => exact ⟨cap, rest id⟩
  | false =>
    refine ⟨?_, rest (·.flush g.w s.frameBase)⟩
    rw [if_neg Bool.false_ne_true, if_neg Bool.false_ne_true, State.onCap_cap, cap]

/-! ### The write of the frame in progress (R59, R60, R62, R64) -/

/-- R60: the state in which the write is taken: its order broken when it comes out of order. -/
def State.inOrder (g : CapGeom) (off : Nat) (s : State) : State := if off = s.cap.expected then s else s.breakOrder g

/-- The slot address of the frame depends on the slot filled and the slot region alone. -/
theorem State.frameBase_congr (slot : u.cap.slot = s.cap.slot) (geom : u.slots.geom = s.slots.geom) :
    u.frameBase = s.frameBase := by
  simp only [State.frameBase, slot, State.slotAddr, geom]

theorem State.frameBase_of_slot {sg : SlotGeom} (slot : s.cap.slot = some k) (geom : s.slots.geom = some sg) :
    s.frameBase = sg.base + k * sg.frameSize := by
  simp only [State.frameBase, slot, State.slotAddr_of_geom geom]

theorem SlotTable.degrade_geom (t : SlotTable) : t.degrade.geom = t.geom ∧ t.degrade.ready = t.ready := by
  unfold SlotTable.degrade
  split <;> exact ⟨rfl, rfl⟩

/-- Breaking the order changes the flags of the order, the line buffer and nothing else of the enhancer. -/
theorem State.inOrder_cap (g : CapGeom) (off : Nat) (s : State) :
    ∃ broken degraded n places next waiting, (s.inOrder g off).cap = { s.cap with
      broken := broken, degraded := degraded, degradedCount := n, places := places, nextEmit := next
      lumaWaiting := waiting } := by
  unfold State.inOrder
  split
  · exact ⟨_, _, _, _, _, _, rfl⟩
  · cases whole : s.cap.broken with
    | true => exact ⟨_, _, _, _, _, _, by rw [State.breakOrder_of_broken whole]⟩
    | false =>
      rw [(State.breakOrder_effect (g := g) whole).1]
      split
      · exact ⟨_, _, _, _, _, _, rfl⟩
      · obtain ⟨places, next, waiting, flushed⟩ := s.cap.disordered.flush_buffers g.w s.frameBase
        exact ⟨_, _, _, places, next, waiting, by rw [flushed]; rfl⟩

theorem State.inOrder_changesOnly (g : CapGeom) (off : Nat) (s : State) :
    s.changesOnly [.cap, .slots, .notice, .recs] (s.inOrder g off) := by
  have refl : s.changesOnly [.cap, .slots, .notice, .recs] s := fun b _ => by cases b <;> rfl
  unfold State.inOrder
  split
  · exact refl
  · cases whole : s.cap.broken with
    | true =>
      rw [State.breakOrder_of_broken whole]
      exact refl
    | false => exact (State.breakOrder_effect whole).2.2.2.2

theorem State.inOrder_geom (g : CapGeom) (off : Nat) (s : State) :
    (s.inOrder g off).slots.geom = s.slots.geom ∧ (s.inOrder g off).slots.ready = s.slots.ready := by
  unfold State.inOrder
  split
  · exact ⟨rfl, rfl⟩
  · cases whole : s.cap.broken with
    | true =>
      rw [State.breakOrder_of_broken whole]
      exact ⟨rfl, rfl⟩
    | false =>
      rw [(State.breakOrder_effect whole).2.1]
      split
      · exact ⟨rfl, rfl⟩
      · exact SlotTable.degrade_geom _

/-- The chroma write that a capture write becomes (R7, R59). -/
def State.chromaEntry (t : Txn) (g : CapGeom) (off : Nat) (s : State) : FwdEntry :=
  ⟨t.id, .write, s.frameBase + max off (g.w * g.h), (g.chromaPart off t.data).length, g.chromaPart off t.data, true, [],
    false, none⟩

/-- R59, R62: the write of a frame in progress, unless it ends a dropped frame. -/
theorem State.frameWrite_kept (stays : off + t.len ≠ g.w * g.h * 3 / 2 ∨ s.cap.dropped = false) :
    let u := s.inOrder g off
    let v := s.frameWrite t g off die
    v.cap = { u.cap.written g s.frameBase off t.len (g.lumaPart off t.data) with
        tracker := if off + t.len = g.w * g.h * 3 / 2 then .draining else s.cap.tracker }
      ∧ v.path = (if s.cap.dropped || (g.chromaPart off t.data).isEmpty then
          { s.path with upLog := s.path.upLog ++ [⟨t.id, .write, .okay, []⟩] }
        else { s.path with fwd := s.path.fwd ++ [s.chromaEntry t g off] })
      ∧ u.changesOnly [.path, .cap] v := by
  obtain ⟨broken, degraded, n, places, next, waiting, cap⟩ := s.inOrder_cap g off
  obtain ⟨sums, whites, places', next', waiting', written⟩ := Capture.written_eq g s.frameBase off t.len
    (g.lumaPart off t.data) (s.inOrder g off).cap
  have path : (s.inOrder g off).path = s.path := s.inOrder_changesOnly g off .path (by simp)
  let u0 := (s.inOrder g off).onCap (Capture.written g s.frameBase off t.len (g.lumaPart off t.data))
  have cap0 : u0.cap = (s.inOrder g off).cap.written g s.frameBase off t.len (g.lumaPart off t.data) := rfl
  have dropped : u0.cap.dropped = s.cap.dropped := by rw [cap0, written, cap]
  have tracker : u0.cap.tracker = s.cap.tracker := by rw [cap0, written, cap]
  have base : u0.frameBase = s.frameBase := State.frameBase_congr (by rw [cap0, written, cap]) (s.inOrder_geom g off).1
  have answered : (u0.answerWrite t g off).cap = u0.cap
      ∧ (u0.answerWrite t g off).path = (if s.cap.dropped || (g.chromaPart off t.data).isEmpty then
          { s.path with upLog := s.path.upLog ++ [⟨t.id, .write, .okay, []⟩] }
        else { s.path with fwd := s.path.fwd ++ [s.chromaEntry t g off] })
      ∧ u0.changesOnly [.path] (u0.answerWrite t g off) := by
    have onPath (f : PathUnit → PathUnit) : u0.changesOnly [.path] (u0.onPath f) := by
      intro b hb
      cases b with
      | path => simp at hb
      | _ => rfl
    have same : u0.path = s.path := path
    simp only [State.answerWrite, dropped]
    split
    · exact ⟨rfl, by rw [State.respond, State.onPath_path, same], onPath _⟩
    · refine ⟨rfl, ?_, onPath _⟩
      rw [State.redirectChroma, State.onPath_path, same, base]
      rfl
  obtain ⟨capA, pathA, frameA⟩ := answered
  have form : s.frameWrite t g off die = (u0.answerWrite t g off).receiptEnd g (off + t.len) die := rfl
  dsimp only
  rw [form, State.receiptEnd]
  by_cases ends : off + t.len = g.w * g.h * 3 / 2
  · rw [if_pos ends, if_pos (show off + t.len = frameBytes g.w g.h from ends), capA, dropped,
      stays.resolve_left (not_not.2 ends),
      if_neg Bool.false_ne_true]
    refine ⟨?_, ?_, fun b hb => ?_⟩
    · rw [State.onCap_cap, capA, cap0]
    · rw [State.onCap_path, pathA, stays.resolve_left (not_not.2 ends)]
    · cases b with
      | path | cap => simp at hb
      | _ => simp [Block.same, u0]
  · rw [if_neg ends, if_neg (show ¬ off + t.len = frameBytes g.w g.h from ends)]
    refine ⟨?_, pathA, fun b hb => ?_⟩
    · rw [capA, ← tracker]
      rfl
    · cases b with
      | path | cap => simp at hb
      | _ => simp [Block.same, u0]

end Sys2Proof.Machine
end

section
/-! Capture writes by the position tracker (R59 to R62, R64, R67). -/

namespace Sys2Proof.Machine

variable {s u : State} {t : Txn} {g : CapGeom} {c : Capture} {die : Int} {k off : Nat}

theorem State.changesOnly.refl (bs : List Block) (s : State) : s.changesOnly bs s := fun b _ => by cases b <;> rfl

/-! ### A write taken (R59, R60) -/

theorem exec_captureWrite_taken (legal : t.legal = true) (dir : t.dir = .write) (route : s.classify t = .enhancer off)
    (later : off ≠ 0) (geom : s.cap.geom = some g) (next : s.isNext t = true) (settled : s.cap.tearing = false)
    (receiving : s.cap.tracker = .receiving) (accepts : s.acceptsWrite g off t.data = true) :
    exec (.captureWrite t die) s = .next ((s.leaveUntaken t).frameWrite t g off die) := by
  rw [exec_captureWrite legal dir route later geom, State.captureWrite_of_receiving next settled receiving, if_pos accepts]

theorem exec_captureWrite_held (legal : t.legal = true) (dir : t.dir = .write) (route : s.classify t = .enhancer off)
    (later : off ≠ 0) (geom : s.cap.geom = some g) (next : s.isNext t = true) (settled : s.cap.tearing = false)
    (receiving : s.cap.tracker = .receiving) (refuses : s.acceptsWrite g off t.data = false) :
    exec (.captureWrite t die) s = .next (s.holdUntaken t) := by
  rw [exec_captureWrite legal dir route later geom, State.captureWrite_of_receiving next settled receiving, if_neg]
  rw [refuses]
  exact Bool.false_ne_true

/-- R59, R60: what a write taken leaves, unless it ends a dropped frame. -/
theorem State.taken_effect (stays : off + t.len ≠ g.w * g.h * 3 / 2 ∨ s.cap.dropped = false) :
    let u := (s.leaveUntaken t).inOrder g off
    let v := (s.leaveUntaken t).frameWrite t g off die
    let whole := s.cap.dropped || (g.chromaPart off t.data).isEmpty
    v.cap = { u.cap.written g s.frameBase off t.len (g.lumaPart off t.data) with
        tracker := if off + t.len = g.w * g.h * 3 / 2 then .draining else s.cap.tracker }
      ∧ v.path.upLog = s.path.upLog ++ (if whole then [⟨t.id, .write, .okay, []⟩] else [])
      ∧ v.path.fwd = s.path.fwd ++ (if whole then [] else [s.chromaEntry t g off])
      ∧ u.changesOnly [.path, .cap] v ∧ s.changesOnly [.path, .cap, .slots, .notice, .recs] v
      ∧ (off = s.cap.expected → s.changesOnly [.path, .cap] v) := by
  obtain ⟨cap, path, frame⟩ := State.frameWrite_kept (s := s.leaveUntaken t) (t := t) (g := g) (off := off) (die := die)
    (by rw [State.leaveUntaken_cap]; exact stays)
  obtain ⟨log, fwd⟩ := s.leaveUntaken_path t
  have base : (s.leaveUntaken t).frameBase = s.frameBase := State.frameBase_congr (by simp) (by simp)
  have entry : (s.leaveUntaken t).chromaEntry t g off = s.chromaEntry t g off := by
    rw [State.chromaEntry, base, State.chromaEntry]
  rw [base, State.leaveUntaken_cap] at cap
  rw [State.leaveUntaken_cap, log, fwd, entry] at path
  refine ⟨cap, ?_, ?_, frame, ?_, fun ordered => ?_⟩
  · rw [path]
    split
    · rfl
    · exact log.trans (List.append_nil _).symm
  · rw [path]
    split
    · exact fwd.trans (List.append_nil _).symm
    · rfl
  · refine State.changesOnly_leaveUntaken (t := t) ?_ (by simp)
    exact State.changesOnly.trans ((State.inOrder_changesOnly g off _).mono (by simp)) (frame.mono (by simp))
  · refine State.changesOnly_leaveUntaken (t := t) ?_ (by simp)
    have same : (s.leaveUntaken t).inOrder g off = s.leaveUntaken t := if_pos (by simpa using ordered)
    rwa [same] at frame

/-! ### By the tracker -/

/-- R61: a write with no frame receiving is discarded, answered and reported. -/
theorem State.strayWrite_effect (t : Txn) (s : State) :
    let u := (s.leaveUntaken t).strayWrite t
    u.path.upLog = s.path.upLog ++ [⟨t.id, .write, .okay, []⟩] ∧ u.notice.isPending .strayAccess = true
      ∧ s.changesOnly [.path, .notice, .recs] u := by
  refine ⟨?_, by simp [State.strayWrite], fun b hb => ?_⟩
  · rw [State.strayWrite, State.raise_path, State.respond, State.onPath_path]
    exact congrArg (· ++ _) (s.leaveUntaken_path t).1
  · cases b with
    | path | notice | recs => simp at hb
    | _ => simp [Block.same, State.strayWrite, State.respond]

/-- What a write in order leaves of the enhancer but for the accumulators. -/
theorem Capture.written_dropped {base len : Nat} {luma : List Byte} (dropped : c.dropped = true) :
    c.written g base off len luma = { c.feedTiles g off luma with expected := off + len } := by
  obtain ⟨sums, whites, fed⟩ := c.feedTiles_eq g off luma
  simp only [Capture.written, fed, dropped, if_true]

end Sys2Proof.Machine
end

section
/-! Capture writes by the position tracker (R59 to R62, R64, R67): what each leaves. -/

namespace Sys2Proof.Machine

variable {s u : State} {t : Txn} {g : CapGeom} {c : Capture} {die : Int} {k off : Nat}

/-! ### The end of a degraded frame that was dropped (R62, R64) -/

theorem State.isPending_sampleDie_of {kind : EventKind} (h : s.notice.isPending kind = true) :
    (s.sampleDie die).notice.isPending kind = true := by
  obtain ⟨-, eq⟩ | ⟨-, eq⟩ := State.sampleDie_cases die s
  · rwa [eq]
  · rw [eq]
    unfold State.thermalChange
    dsimp only
    rw [State.requestStatus_notice]
    split
    · rw [State.raise_isPending, Bool.or_eq_true]
      left
      split <;> exact h
    · split
      · rw [State.copyResume_notice, State.raise_isPending, Bool.or_eq_true]
        exact .inl h
      · exact h

theorem State.isPending_captureFrameEnd_of {kind : EventKind} (h : s.notice.isPending kind = true) :
    (s.captureFrameEnd die).notice.isPending kind = true := by
  have kept := State.isPending_sampleDie_of (die := die) h
  simpa [State.captureFrameEnd] using kept

/-- R62, R64: the end of a degraded frame is sampled and counted, and gives neither gains nor a signature. -/
theorem State.frameEnded_of_degraded (degraded : s.cap.degraded = true) :
    (s.frameEnded die).cap = { s.cap with tracker := .none, slot := none } ∧ (s.frameEnded die).mon = s.mon
      ∧ (∀ kind, s.notice.isPending kind = true → (s.frameEnded die).notice.isPending kind = true)
      ∧ s.changesOnly [.cap, .notice, .recs, .gov, .store] (s.frameEnded die) := by
  have map : s.updateWhiteMap = s := if_pos (by simp [degraded])
  have form : s.frameEnded die = (s.captureFrameEnd die).onCap fun c => { c with tracker := .none, slot := none } := by
    rw [State.frameEnded, map, State.giveSignature_of_degraded degraded]
  rw [form]
  refine ⟨by simp, by simp, fun kind h => ?_, fun b hb => ?_⟩
  · simpa using State.isPending_captureFrameEnd_of h
  · cases b with
    | cap | notice | recs | gov | store => simp at hb
    | _ => simp [Block.same]

/-! ### A capture write that is next in its direction -/

/-- The write that the row handles: next in its direction, inside the capture window away from its first byte, and no tear
in progress. -/
structure State.Captures (t : Txn) (g : CapGeom) (off : Nat) (s : State) : Prop where
  legal : t.legal = true
  dir : t.dir = .write
  route : s.classify t = .enhancer off
  later : off ≠ 0
  geom : s.cap.geom = some g
  next : s.isNext t = true
  settled : s.cap.tearing = false

namespace State.Captures

variable (h : s.Captures t g off)
include h

theorem stray (idle : s.cap.tracker ≠ .receiving) :
    exec (.captureWrite t die) s = .next ((s.leaveUntaken t).strayWrite t) := by
  rw [exec_captureWrite h.legal h.dir h.route h.later h.geom, State.captureWrite_of_stray h.next h.settled idle]

theorem taken (receiving : s.cap.tracker = .receiving) (accepts : s.acceptsWrite g off t.data = true) :
    exec (.captureWrite t die) s = .next ((s.leaveUntaken t).frameWrite t g off die) :=
  exec_captureWrite_taken h.legal h.dir h.route h.later h.geom h.next h.settled receiving accepts

theorem held (receiving : s.cap.tracker = .receiving) (refuses : s.acceptsWrite g off t.data = false) :
    exec (.captureWrite t die) s = .next (s.holdUntaken t) :=
  exec_captureWrite_held h.legal h.dir h.route h.later h.geom h.next h.settled receiving refuses

theorem data_length : t.data.length = t.len := (Txn.write_of_legal h.legal h.dir).2.2.2.2

end State.Captures

theorem State.acceptsWrite_of_dropped {data : List Byte} (dropped : s.cap.dropped = true) :
    s.acceptsWrite g off data = true := State.acceptsWrite_iff.2 (.inl dropped)

/-- R67: luma in order is accepted when the line buffer accepts it. -/
theorem State.acceptsWrite_luma {data : List Byte} (stored : s.cap.dropped = false) (whole : s.cap.broken = false)
    (ordered : off = s.cap.expected) (fits : off + data.length ≤ g.w * g.h) :
    s.acceptsWrite g off data = s.cap.acceptsLines g off data.length := by
  rw [Bool.eq_iff_iff, State.acceptsWrite_iff, CapGeom.lumaPart_of_le fits, CapGeom.chromaPart_of_le fits]
  simp [stored, whole, ordered]

theorem State.inOrder_of_ordered (ordered : off = s.cap.expected) : (s.leaveUntaken t).inOrder g off = s.leaveUntaken t :=
  if_pos (by rw [State.leaveUntaken_cap]; exact ordered)

/-- R59, R60: a write of a frame with its order, or of one whose order broke before, leaves the order as it is. -/
theorem State.inOrder_of_settled (settled : off = s.cap.expected ∨ s.cap.broken = true) :
    (s.leaveUntaken t).inOrder g off = s.leaveUntaken t := by
  by_cases ordered : off = s.cap.expected
  · exact State.inOrder_of_ordered ordered
  · rw [State.inOrder, if_neg (by rw [State.leaveUntaken_cap]; exact ordered)]
    exact State.breakOrder_of_broken (by simpa using settled.resolve_left ordered)

/-- A write with no luma leaves the line buffer and the accumulators. -/
theorem Capture.written_nil (base len : Nat) (c : Capture) :
    c.written g base off len [] = { c with expected := off + len } := by
  have fed : c.feedTiles g off [] = c := by
    unfold Capture.feedTiles
    split <;> rfl
  have stored : c.storeLuma g base off [] = c := by
    unfold Capture.storeLuma
    split
    · unfold Capture.addUnit
      split <;> rfl
    · rfl
  simp only [Capture.written, fed, stored, ite_self]

end Sys2Proof.Machine
end

section
/-! Capture writes by the position tracker (R59 to R62, R64, R67): the cases. -/

namespace Sys2Proof.Machine

variable {s u : State} {t : Txn} {g : CapGeom} {c : Capture} {die : Int} {k off : Nat}

/-- R39: degrading the slot table marks its FILLING slot, and no other. -/
theorem SlotTable.slot_degrade {tab : SlotTable} (inside : k < tab.slots.length) (fills : (tab.slot k).state = .filling)
    (first : ∀ j, j < k → (tab.slot j).state ≠ .filling) :
    tab.degrade.slot k = { tab.slot k with kind := .degraded } ∧ ∀ j, j ≠ k → tab.degrade.slot j = tab.slot j := by
  rw [SlotTable.degrade, SlotTable.filling_eq_some.2 ⟨inside, fills, first⟩]
  exact ⟨SlotTable.slot_onSlot_self inside _, fun j other => SlotTable.slot_onSlot_of_ne other _ _⟩

theorem Capture.disordered_again (broken : c.broken = true) (degraded : c.degraded = true) : c.disordered = c := by
  rw [Capture.disordered, if_pos degraded]
  obtain ⟨⟩ := c
  obtain rfl := broken
  obtain rfl := degraded
  rfl

namespace State.Captures

variable (h : s.Captures t g off)
include h

/-- R61. -/
theorem stray_effect (idle : s.cap.tracker ≠ .receiving) : ∃ u, exec (.captureWrite t die) s = .next u
    ∧ u.path.upLog = s.path.upLog ++ [⟨t.id, .write, .okay, []⟩] ∧ u.notice.isPending .strayAccess = true
    ∧ s.changesOnly [.path, .notice, .recs] u :=
  ⟨_, h.stray idle, s.strayWrite_effect t⟩

/-- R59, R64: a write of a dropped frame, in order and not its last. -/
theorem dropped_effect (receiving : s.cap.tracker = .receiving) (ordered : off = s.cap.expected)
    (dropped : s.cap.dropped = true) (unended : off + t.len ≠ g.w * g.h * 3 / 2) :
    ∃ u, exec (.captureWrite t die) s = .next u
      ∧ u.path.upLog = s.path.upLog ++ [⟨t.id, .write, .okay, []⟩] ∧ u.path.fwd = s.path.fwd
      ∧ u.cap = { s.cap with expected := off + t.len, sums := u.cap.sums, whites := u.cap.whites }
      ∧ s.changesOnly [.path, .cap] u := by
  obtain ⟨cap, log, fwd, -, -, frame⟩ := State.taken_effect (s := s) (t := t) (g := g) (off := off) (die := die)
    (.inl unended)
  rw [State.inOrder_of_ordered ordered, if_neg unended, State.leaveUntaken_cap, Capture.written_dropped dropped] at cap
  rw [dropped, Bool.true_or, if_pos rfl] at log fwd
  obtain ⟨sums, whites, fed⟩ := s.cap.feedTiles_eq g off (g.lumaPart off t.data)
  refine ⟨_, h.taken receiving (State.acceptsWrite_of_dropped dropped), log, by rw [fwd, List.append_nil], ?_,
    frame ordered⟩
  rw [cap, fed]

/-- R59, R65: luma in order that the line buffer accepts. -/
theorem luma_effect (receiving : s.cap.tracker = .receiving) (ordered : off = s.cap.expected)
    (stored : s.cap.dropped = false) (whole : s.cap.broken = false) (fits : off + t.len ≤ g.w * g.h)
    (accepts : s.cap.acceptsLines g off t.len = true) (unended : off + t.len ≠ g.w * g.h * 3 / 2) :
    ∃ u, exec (.captureWrite t die) s = .next u
      ∧ u.path.upLog = s.path.upLog ++ [⟨t.id, .write, .okay, []⟩] ∧ u.path.fwd = s.path.fwd
      ∧ u.cap = s.cap.written g s.frameBase off t.len t.data ∧ s.changesOnly [.path, .cap] u := by
  obtain ⟨cap, log, fwd, -, -, frame⟩ := State.taken_effect (s := s) (t := t) (g := g) (off := off) (die := die)
    (.inl unended)
  have fits : off + t.data.length ≤ g.w * g.h := by rw [h.data_length]; exact fits
  have taken : s.acceptsWrite g off t.data = true := by
    rw [State.acceptsWrite_luma stored whole ordered fits, h.data_length]
    exact accepts
  obtain ⟨sums, whites, places, next, waiting, written⟩ := Capture.written_eq g s.frameBase off t.len t.data s.cap
  rw [State.inOrder_of_ordered ordered, if_neg unended, State.leaveUntaken_cap, CapGeom.lumaPart_of_le fits] at cap
  rw [CapGeom.chromaPart_of_le fits, List.isEmpty_nil, Bool.or_true, if_pos rfl] at log fwd
  refine ⟨_, h.taken receiving taken, log, by rw [fwd, List.append_nil], ?_, frame ordered⟩
  rw [cap, written]

/-- R59, R67: luma in order that the line buffer does not accept waits untaken. -/
theorem luma_held (receiving : s.cap.tracker = .receiving) (ordered : off = s.cap.expected)
    (stored : s.cap.dropped = false) (whole : s.cap.broken = false) (fits : off + t.len ≤ g.w * g.h)
    (refuses : s.cap.acceptsLines g off t.len = false) : exec (.captureWrite t die) s = .next (s.holdUntaken t) := by
  refine h.held receiving ?_
  rw [State.acceptsWrite_luma stored whole ordered (by rw [h.data_length]; exact fits), h.data_length]
  exact refuses

/-- R7, R59: a write of chroma alone, in order or of a frame whose order broke before. -/
theorem chroma_effect {sg : SlotGeom} (receiving : s.cap.tracker = .receiving)
    (settled : off = s.cap.expected ∨ s.cap.broken = true) (stored : s.cap.dropped = false) (chroma : g.w * g.h ≤ off)
    (room : s.hasRoom .write = true) (slot : s.cap.slot = some k) (region : s.slots.geom = some sg) :
    ∃ u, exec (.captureWrite t die) s = .next u
      ∧ u.path.fwd = s.path.fwd ++
          [⟨t.id, .write, sg.base + k * sg.frameSize + off, t.len, t.data, true, [], false, none⟩]
      ∧ u.path.upLog = s.path.upLog ∧ u.cap.expected = off + t.len
      ∧ u.cap.tracker = (if off + t.len = g.w * g.h * 3 / 2 then .draining else .receiving)
      ∧ s.changesOnly [.path, .cap] u := by
  obtain ⟨cap, log, fwd, frame, -, -⟩ := State.taken_effect (s := s) (t := t) (g := g) (off := off) (die := die)
    (.inr stored)
  have noLuma : g.lumaPart off t.data = [] := by rw [CapGeom.lumaPart, Nat.sub_eq_zero_of_le chroma, List.take_zero]
  have allChroma : g.chromaPart off t.data = t.data := by
    rw [CapGeom.chromaPart, Nat.sub_eq_zero_of_le chroma, List.drop_zero]
  have length := h.data_length
  obtain ⟨low, -, -, -, -⟩ := Txn.write_of_legal h.legal h.dir
  have some : t.data.isEmpty = false := by
    rw [Bool.eq_false_iff, ne_eq, List.isEmpty_iff]
    rintro nil
    rw [nil, List.length_nil] at length
    omega
  have taken : s.acceptsWrite g off t.data = true :=
    State.acceptsWrite_iff.2 (.inr ⟨fun _ => by rw [noLuma]; exact s.cap.acceptsLines_zero g off, fun _ => .inl noLuma,
      .inr room⟩)
  rw [State.inOrder_of_settled settled] at cap frame
  rw [State.leaveUntaken_cap, noLuma, Capture.written_nil] at cap
  rw [stored, allChroma, some, Bool.or_self, if_neg Bool.false_ne_true] at log fwd
  refine ⟨_, h.taken receiving taken, ?_, by rw [log, List.append_nil], by rw [cap], by rw [cap, receiving],
    State.changesOnly_leaveUntaken frame (by simp)⟩
  rw [fwd, State.chromaEntry, allChroma, length, State.frameBase_of_slot slot region, Nat.max_eq_left chroma]

/-- R39, R60: a write out of order that is accepted breaks the frame's order, once. -/
theorem disorder_effect (receiving : s.cap.tracker = .receiving) (out : off ≠ s.cap.expected)
    (accepts : s.acceptsWrite g off t.data = true) (stays : off + t.len ≠ g.w * g.h * 3 / 2 ∨ s.cap.dropped = false) :
    ∃ u, exec (.captureWrite t die) s = .next u
      ∧ u.cap.broken = true ∧ u.cap.expected = off + t.len
      ∧ u.cap.tracker = (if off + t.len = g.w * g.h * 3 / 2 then .draining else .receiving)
      ∧ (s.cap.broken = false → u.cap.degraded = true)
      ∧ (s.cap.broken = false → s.cap.degraded = false → u.cap.degradedCount = s.cap.degradedCount + 1
          ∧ u.notice.isPending .frameDegraded = true)
      ∧ (s.cap.broken = true ∨ s.cap.degraded = true →
          u.cap.degradedCount = s.cap.degradedCount ∧ u.notice = s.notice ∧ u.slots = s.slots)
      ∧ (∀ k, s.cap.broken = false → s.cap.degraded = false → k < s.slots.slots.length →
          (s.slots.slot k).state = .filling → (∀ j, j < k → (s.slots.slot j).state ≠ .filling) →
          u.slots.slot k = { s.slots.slot k with kind := .degraded }
          ∧ ∀ j, j ≠ k → u.slots.slot j = s.slots.slot j)
      ∧ u.slots.ready = s.slots.ready ∧ s.changesOnly [.path, .cap, .slots, .notice, .recs] u := by
  obtain ⟨cap, -, -, frame, whole, -⟩ := State.taken_effect (s := s) (t := t) (g := g) (off := off) (die := die) stays
  obtain ⟨sums, whites, places, next, waiting, written⟩ := Capture.written_eq g s.frameBase off t.len
    (g.lumaPart off t.data) ((s.leaveUntaken t).inOrder g off).cap
  have notice : _ = ((s.leaveUntaken t).inOrder g off).notice := frame .notice (by simp)
  have slots : _ = ((s.leaveUntaken t).inOrder g off).slots := frame .slots (by simp)
  have ready : _ = (s.leaveUntaken t).slots.ready := ((s.leaveUntaken t).inOrder_geom g off).2
  refine ⟨_, h.taken receiving accepts, ?_⟩
  rw [cap, written, notice, slots, receiving, ready, State.leaveUntaken_slots]
  have breaks : (s.leaveUntaken t).inOrder g off = (s.leaveUntaken t).breakOrder g :=
    if_neg (by rw [State.leaveUntaken_cap]; exact out)
  rw [breaks]
  cases broken : s.cap.broken with
  | true =>
    rw [State.breakOrder_of_broken (by rw [State.leaveUntaken_cap]; exact broken), State.leaveUntaken_cap,
      State.leaveUntaken_notice, State.leaveUntaken_slots]
    exact ⟨broken, rfl, rfl, nofun, nofun, fun _ => ⟨rfl, rfl, rfl⟩, fun _ => nofun, rfl, whole⟩
  | false =>
    obtain ⟨capB, slotsB, kept, raised, -⟩ := State.breakOrder_effect (g := g) (s := s.leaveUntaken t)
      (by rw [State.leaveUntaken_cap]; exact broken)
    rw [State.leaveUntaken_cap] at capB slotsB kept raised
    rw [State.leaveUntaken_slots] at slotsB
    rw [State.leaveUntaken_notice] at kept
    obtain ⟨flagB, degradedB, countB⟩ : ((s.leaveUntaken t).breakOrder g).cap.broken = true
        ∧ ((s.leaveUntaken t).breakOrder g).cap.degraded = true
        ∧ ((s.leaveUntaken t).breakOrder g).cap.degradedCount
          = if s.cap.degraded then s.cap.degradedCount else s.cap.degradedCount + 1 := by
      rw [capB]
      split
      · exact ⟨rfl, rfl, rfl⟩
      · obtain ⟨_, _, _, flushed⟩ := s.cap.disordered.flush_buffers g.w (s.leaveUntaken t).frameBase
        rw [flushed]
        exact ⟨rfl, rfl, rfl⟩
    refine ⟨flagB, rfl, rfl, fun _ => degradedB, fun _ first => ⟨?_, raised first⟩, fun done => ?_,
      fun k _ first inside fills before => ?_, rfl, whole⟩
    · rw [countB, first, if_neg Bool.false_ne_true]
    · have done := done.resolve_left Bool.false_ne_true
      refine ⟨?_, (kept done).1, ?_⟩
      · rw [countB, if_pos done]
      · rw [slotsB, if_pos done]
    · rw [slotsB, first, if_neg Bool.false_ne_true]
      exact SlotTable.slot_degrade inside fills before

/-- R60, R62, R64: a dropped frame's last write, out of order, ends the frame, degraded. -/
theorem dropped_last_effect (receiving : s.cap.tracker = .receiving) (dropped : s.cap.dropped = true)
    (out : off ≠ s.cap.expected) (ends : off + t.len = g.w * g.h * 3 / 2)
    (degrades : s.cap.broken = false ∨ s.cap.degraded = true) :
    ∃ u, exec (.captureWrite t die) s = .next u
      ∧ u.cap.tracker = .none ∧ u.cap.broken = true ∧ u.cap.degraded = true
      ∧ u.cap.degradedCount = (if s.cap.degraded then s.cap.degradedCount else s.cap.degradedCount + 1)
      ∧ (s.cap.degraded = false → u.notice.isPending .frameDegraded = true)
      ∧ u.cap.whiteMap = s.cap.whiteMap ∧ u.mon = s.mon
      ∧ u.path.upLog = s.path.upLog ++ [⟨t.id, .write, .okay, []⟩] ∧ u.path.fwd = s.path.fwd
      ∧ u.gov.sample = some (max (-40) (min 150 die)) ∧ .record .status ∈ u.recs.waiting ∧ s.WaitCounted u
      ∧ s.changesOnly [.path, .cap, .slots, .notice, .recs, .gov, .store] u := by
  let s0 := s.leaveUntaken t
  let s1 := s0.breakOrder g
  have cap0 : s0.cap = s.cap := State.leaveUntaken_cap ..
  obtain ⟨cap1, pending1, frame1⟩ : s1.cap = s.cap.disordered
      ∧ (s.cap.degraded = false → s1.notice.isPending .frameDegraded = true)
      ∧ s0.changesOnly [.cap, .slots, .notice, .recs] s1 := by
    by_cases broken : s.cap.broken = true
    · have degraded := degrades.resolve_left (by simp [broken])
      have same : s1 = s0 := State.breakOrder_of_broken (by rw [cap0]; exact broken)
      refine ⟨?_, fun first => by simp [first] at degraded, ?_⟩
      · rw [same, cap0]
        exact (Capture.disordered_again broken degraded).symm
      · rw [same]
        exact State.changesOnly.refl _ _
    · obtain ⟨cap, -, -, raised, frame⟩ := State.breakOrder_effect (g := g) (s := s0) (by rw [cap0]; simpa using broken)
      rw [cap0, dropped, if_pos rfl] at cap
      rw [cap0] at raised
      exact ⟨cap, raised, frame⟩
  obtain ⟨sums, whites, places, next, waiting, written⟩ := Capture.written_eq g s0.frameBase off t.len
    (g.lumaPart off t.data) s1.cap
  let s2 := (s1.onCap (.written g s0.frameBase off t.len (g.lumaPart off t.data))).respond ⟨t.id, .write, .okay, []⟩
  have cap2 : s2.cap = s1.cap.written g s0.frameBase off t.len (g.lumaPart off t.data) := rfl
  have form : s0.frameWrite t g off die = s2.frameEnded die := by
    have inOrder : (if off = s0.cap.expected then s0 else s0.breakOrder g) = s1 := if_neg (by rw [cap0]; exact out)
    have answer : (s1.onCap (.written g s0.frameBase off t.len (g.lumaPart off t.data))).answerWrite t g off = s2 := by
      rw [State.answerWrite, State.onCap_cap, written, cap1]
      simp only [Capture.disordered, dropped, Bool.true_or, if_true]
      rfl
    rw [State.frameWrite_eq, inOrder, answer, State.receiptEnd, if_pos (show off + t.len = frameBytes g.w g.h from ends),
      cap2, written, cap1]
    exact if_pos dropped
  obtain ⟨cap, mon, pending, frame⟩ := State.frameEnded_of_degraded (s := s2) (die := die)
    (by rw [cap2, written, cap1]; rfl)
  have path1 : s1.path = s0.path := frame1 .path (by simp)
  have path : (s2.frameEnded die).path = { s0.path with upLog := s0.path.upLog ++ [⟨t.id, .write, .okay, []⟩] } := by
    have path : (s2.frameEnded die).path = s2.path := frame .path (by simp)
    rw [path, ← path1]
    rfl
  have mon1 : s1.mon = s0.mon := frame1 .mon (by simp)
  have store1 : s1.store = s0.store := frame1 .store (by simp)
  obtain ⟨log, fwd⟩ := s.leaveUntaken_path t
  have frame12 : s1.changesOnly [.path, .cap] s2 := fun b hb => by
    cases b with
    | path | cap => simp at hb
    | _ => rfl
  refine ⟨_, h.taken receiving (State.acceptsWrite_of_dropped dropped), ?_⟩
  rw [show (s.leaveUntaken t).frameWrite t g off die = s2.frameEnded die from form, cap, cap2, written, cap1, mon]
  refine ⟨rfl, rfl, rfl, rfl, fun first => pending _ (pending1 first), rfl, ?_, ?_, ?_, State.frameEnded_sample ..,
    State.frameEnded_status .., ?_, ?_⟩
  · exact mon1.trans (State.leaveUntaken_mon ..)
  · rw [path, log]
  · rw [path]
    exact fwd
  · have counted := State.frameEnded_waitCounted die s2
    have store2 : s2.store = s.store := store1.trans (State.leaveUntaken_store ..)
    simp only [State.WaitCounted, store2] at counted
    exact counted
  · refine State.changesOnly_leaveUntaken (t := t) ?_ (by simp)
    exact State.changesOnly.trans (frame1.mono (by simp))
      (State.changesOnly.trans (frame12.mono (by simp)) (frame.mono (by simp)))

end State.Captures

end Sys2Proof.Machine
end

section
/-! The tile statistics of a capture write (R76), and the last write of a dropped frame in order (R64, R78). -/

namespace Sys2Proof.Machine

variable {s u : State} {t : Txn} {g : CapGeom} {c : Capture} {die : Int} {n k off : Nat} {data : List Byte}

/-! ### Where a capture write stands in the window (R4) -/

theorem State.classifyOutput_ne_enhancer (x : OutId) (t : Txn) (s : State) : s.classifyOutput x t ≠ some (.enhancer off) := by
  intro found
  unfold State.classifyOutput at found
  repeat' split at found
  all_goals cases found

theorem State.classifyCapture_of_enhancer (route : s.classify t = .enhancer off) :
    s.classifyCapture t = some (.enhancer off) := by
  unfold State.classify at route
  split at route
  · cases route
  · split at route
    · cases route
    · split at route
      next found => rw [found, route]
      next =>
        split at route
        next found => exact absurd (route ▸ found) (State.classifyOutput_ne_enhancer .a t s)
        next =>
          cases found : s.classifyOutput .b t with
          | none => simp [found] at route
          | some treatment =>
            rw [found, Option.getD_some] at route
            exact absurd (route ▸ found) (State.classifyOutput_ne_enhancer .b t s)

theorem State.offset_of_classify (route : s.classify t = .enhancer off) (geom : s.cap.geom = some g) :
    t.addr = g.base + off := by
  have found := State.classifyCapture_of_enhancer route
  unfold State.classifyCapture at found
  split at found
  · cases found
  next entry present =>
    have window : entry = g.window := by
      unfold State.captureEntry? State.captureWindow? at present
      split at present
      · rw [geom] at present
        exact (Option.some.inj present).symm
      · cases present
    subst window
    split at found
    next inside =>
      have low : g.base ≤ t.addr := by
        simp only [Region.at, Bool.and_eq_true, decide_eq_true_eq] at inside
        exact inside.1
      split at found
      · split at found
        · cases found
        · obtain rfl := Treatment.enhancer.inj (Option.some.inj found)
          exact (Nat.add_sub_cancel' low).symm
      · cases found
    · cases found

/-! ### The accumulators of a write (R76) -/

theorem Capture.written_tiles (base len : Nat) (data : List Byte) (c : Capture) :
    (c.written g base off len data).sums = (c.feedTiles g off data).sums
      ∧ (c.written g base off len data).whites = (c.feedTiles g off data).whites := by
  obtain ⟨_, _, _, stored⟩ := Capture.storeLuma_buffers g base off data (c.feedTiles g off data)
  unfold Capture.written
  dsimp only
  split
  · exact ⟨rfl, rfl⟩
  · rw [stored]
    exact ⟨rfl, rfl⟩

theorem State.receiptEnd_tiles (endOff : Nat) (s : State) : (s.receiptEnd g endOff die).cap.sums = s.cap.sums
    ∧ (s.receiptEnd g endOff die).cap.whites = s.cap.whites := by
  unfold State.receiptEnd
  split
  · split
    · rw [State.frameEnded_cap, State.updateWhiteMap_cap]
      exact ⟨rfl, rfl⟩
    · exact ⟨rfl, rfl⟩
  · exact ⟨rfl, rfl⟩

/-- R76: the accumulators a write taken in order leaves. -/
theorem State.frameWrite_tiles (ordered : off = s.cap.expected) :
    ((s.leaveUntaken t).frameWrite t g off die).cap.sums = (s.cap.feedTiles g off (g.lumaPart off t.data)).sums
      ∧ ((s.leaveUntaken t).frameWrite t g off die).cap.whites
        = (s.cap.feedTiles g off (g.lumaPart off t.data)).whites := by
  have cap : (s.leaveUntaken t).cap = s.cap := State.leaveUntaken_cap ..
  obtain ⟨sums, whites⟩ := State.receiptEnd_tiles (g := g) (die := die) (off + t.len)
    (((s.leaveUntaken t).onCap (.written g (s.leaveUntaken t).frameBase off t.len (g.lumaPart off t.data))).answerWrite t g
      off)
  rw [State.answerWrite_cap, State.onCap_cap, cap] at sums whites
  rw [State.frameWrite_eq, if_pos (by rw [cap]; exact ordered), sums, whites]
  exact Capture.written_tiles ..

theorem lumaAt_take {i m : Nat} (inside : i < m) : lumaAt (data.take m) i = lumaAt data i := by
  simp [lumaAt, List.getD_eq_getElem?_getD, inside]

theorem groupSum_take {j m : Nat} (inside : 4 * j + 3 < m) : groupSum (data.take m) j = groupSum data j := by
  simp only [groupSum]
  rw [lumaAt_take (by omega), lumaAt_take (by omega), lumaAt_take (by omega), lumaAt_take inside]

/-- R76: what a write's luma, the part before the chroma, adds to the accumulators. -/
theorem Capture.feedTiles_luma (geom : g.Legal) (aligned : off % 4 = 0) (units : data.length % 4 = 0)
    (whole : c.broken = false) (sums : n < c.sums.length) (whites : n < c.whites.length) :
    let luma := min data.length (g.w * g.h - off)
    (c.feedTiles g off (g.lumaPart off data)).sums.getD n 0 = c.sums.getD n 0
        + (((List.range luma).filter fun i => decide (tileAt g.w g.h (off + i) = n)).map (lumaAt data)).sum
      ∧ (c.feedTiles g off (g.lumaPart off data)).whites.getD n 0
        = (((List.range (luma / 4)).filter fun j => decide (tileAt g.w g.h (off + 4 * j) = n)).map fun j =>
            groupSum data j / 4).foldl max (c.whites.getD n 0) := by
  intro luma
  obtain ⟨-, -, columns, -⟩ := geom
  have length : (g.lumaPart off data).length = luma := by rw [CapGeom.lumaPart, List.length_take, Nat.min_comm]
  have area : g.w * g.h % 4 = 0 := by
    have quarter : 4 ∣ g.w * g.h := Dvd.dvd.mul_right (Nat.dvd_of_mod_eq_zero (by omega)) g.h
    exact Nat.mod_eq_zero_of_dvd quarter
  have groups : luma % 4 = 0 := by
    have areaLess : (g.w * g.h - off) % 4 = 0 := by omega
    rcases Nat.le_total data.length (g.w * g.h - off) with short | long
    · rw [show luma = data.length from Nat.min_eq_left short]
      exact units
    · rw [show luma = g.w * g.h - off from Nat.min_eq_right long]
      exact areaLess
  obtain ⟨sum, white⟩ := Capture.feedTiles_getD (data := g.lumaPart off data) columns aligned (by rw [length]; exact groups)
    whole sums whites
  rw [length] at sum white
  have inside (i : Nat) (h : i < luma) : i < g.w * g.h - off := h.trans_le (Nat.min_le_right ..)
  rw [sum, white]
  constructor
  · congr 2
    refine List.map_congr_left fun i mem => lumaAt_take (inside i ?_)
    exact List.mem_range.1 (List.mem_of_mem_filter mem)
  · congr 1
    refine List.map_congr_left fun j mem => congrArg (· / 4) (groupSum_take (inside _ ?_))
    have := List.mem_range.1 (List.mem_of_mem_filter mem)
    omega

namespace State.Captures

variable (h : s.Captures t g off)
include h

/-- R76: each luma byte in order is added to its tile's sum, each group of four raises its tile's white. -/
theorem tiles_effect (geom : g.Legal) (receiving : s.cap.tracker = .receiving) (ordered : off = s.cap.expected)
    (sums : s.cap.sums.length = 192) (whites : s.cap.whites.length = 192) (whole : s.cap.broken = false)
    (accepts : s.cap.dropped = true ∨ (s.cap.acceptsLines g off (min t.len (g.w * g.h - off)) = true
      ∧ (off + t.len ≤ g.w * g.h ∨ s.hasRoom .write = true))) :
    ∃ u, exec (.captureWrite t die) s = .next u ∧ ∀ n, n < 192 →
      u.cap.sums.getD n 0 = s.cap.sums.getD n 0 + (((List.range (min t.len (g.w * g.h - off))).filter fun i =>
          decide (tileAt g.w g.h (off + i) = n)).map (lumaAt t.data)).sum
        ∧ u.cap.whites.getD n 0 = (((List.range (min t.len (g.w * g.h - off) / 4)).filter fun j =>
          decide (tileAt g.w g.h (off + 4 * j) = n)).map fun j => groupSum t.data j / 4).foldl max
            (s.cap.whites.getD n 0) := by
  obtain ⟨-, -, units, address, length⟩ := Txn.write_of_legal h.legal h.dir
  have aligned : off % 4 = 0 := by
    have place := State.offset_of_classify h.route h.geom
    obtain ⟨-, -, -, -, -, -, page⟩ := geom
    omega
  have taken : s.acceptsWrite g off t.data = true := by
    refine State.acceptsWrite_iff.2 (accepts.imp_right fun ⟨lines, room⟩ => ⟨fun _ => ?_, fun out => ?_, ?_⟩)
    · rw [CapGeom.lumaPart, List.length_take, length, Nat.min_comm]
      exact lines
    · simp [whole, ordered] at out
    · refine room.imp_left fun fits => CapGeom.chromaPart_of_le ?_
      rw [length]
      exact fits
  obtain ⟨sumsEq, whitesEq⟩ := State.frameWrite_tiles (t := t) (g := g) (die := die) ordered
  refine ⟨_, h.taken receiving taken, fun n inside => ?_⟩
  rw [sumsEq, whitesEq, ← length]
  exact Capture.feedTiles_luma geom aligned (by omega) whole (sums ▸ inside) (whites ▸ inside)

/-- R62, R64, R77, R78: a dropped frame's last write, in order, ends the frame. -/
theorem dropped_end_effect (receiving : s.cap.tracker = .receiving) (ordered : off = s.cap.expected)
    (dropped : s.cap.dropped = true) (chroma : g.w * g.h ≤ off) (ends : off + t.len = g.w * g.h * 3 / 2) :
    ∃ u, exec (.captureWrite t die) s = .next u
      ∧ u.cap.tracker = .none ∧ u.cap.sums = s.cap.sums ∧ u.cap.frameNo = s.cap.frameNo
      ∧ u.path.upLog = s.path.upLog ++ [⟨t.id, .write, .okay, []⟩] ∧ u.path.fwd = s.path.fwd
      ∧ (s.cap.degraded = true → u.mon = s.mon)
      ∧ (s.cap.degraded = false → u.mon = (s.receiveSignature
          ⟨s.cap.sums.map fun v => v / (g.w / 16 * (g.h / 12)), s.cap.frameNo, none⟩).mon)
      ∧ (s.cap.degraded = false → s.cap.frameLevelling ≠ .hold → u.cap.whiteMap =
          List.zipWith (fun old white => (3 * old + white + 2) / 4) s.cap.whiteMap s.cap.whites)
      ∧ u.gov.sample = some (max (-40) (min 150 die)) ∧ .record .status ∈ u.recs.waiting ∧ s.WaitCounted u := by
  let s0 := s.leaveUntaken t
  let s2 := (s0.onCap fun c => { c with expected := off + t.len }).respond ⟨t.id, .write, .okay, []⟩
  have cap0 : s0.cap = s.cap := State.leaveUntaken_cap ..
  have cap2 : s2.cap = { s.cap with expected := off + t.len } := by
    rw [State.respond_cap, State.onCap_cap, cap0]
  have noLuma : g.lumaPart off t.data = [] := by rw [CapGeom.lumaPart, Nat.sub_eq_zero_of_le chroma, List.take_zero]
  have form : s0.frameWrite t g off die = s2.frameEnded die := by
    have inOrder : (if off = s0.cap.expected then s0 else s0.breakOrder g) = s0 := if_pos (by rw [cap0]; exact ordered)
    have write : Capture.written g s0.frameBase off t.len [] = fun c => { c with expected := off + t.len } := by
      funext c
      exact Capture.written_nil ..
    have answer : (s0.onCap fun c => { c with expected := off + t.len }).answerWrite t g off = s2 := by
      rw [State.answerWrite, State.onCap_cap, cap0]
      simp only [dropped, Bool.true_or, if_true]
      rfl
    rw [State.frameWrite_eq, inOrder, noLuma, write, answer, State.receiptEnd,
      if_pos (show off + t.len = frameBytes g.w g.h from ends), cap2]
    exact if_pos dropped
  have same : s.SameMonitored s2 := ⟨State.leaveUntaken_mon .., fun x => by cases x <;> simp [State.out, s2, s0],
    State.leaveUntaken_store ..⟩
  obtain ⟨log, fwd⟩ := s.leaveUntaken_path t
  have path : (s2.frameEnded die).path = { s0.path with upLog := s0.path.upLog ++ [⟨t.id, .write, .okay, []⟩] } := by
    simp [State.frameEnded, s2, State.respond]
  refine ⟨_, h.taken receiving (State.acceptsWrite_of_dropped dropped), ?_⟩
  rw [show (s.leaveUntaken t).frameWrite t g off die = s2.frameEnded die from form]
  have ended := State.frameEnded_cap die s2
  rw [State.updateWhiteMap_cap, cap2] at ended
  refine ⟨by rw [ended], by rw [ended], by rw [ended], ?_, ?_, fun degraded => ?_, fun whole => ?_, fun whole level => ?_,
    State.frameEnded_sample .., State.frameEnded_status .., ?_⟩
  · rw [path, log]
  · rw [path]
    exact fwd
  · exact (State.frameEnded_of_degraded (s := s2) (by rw [cap2]; exact degraded)).2.1.trans same.mon
  · have signature : s2.cap.signature = ⟨s.cap.sums.map fun v => v / (g.w / 16 * (g.h / 12)), s.cap.frameNo, none⟩ := by
      rw [cap2]
      simp only [Capture.signature, Capture.size, h.geom, dropped, if_true, tileMeans]
    rw [State.frameEnded_mon_of_whole (s := s) (by rw [cap2]; exact whole) same, signature]
  · rw [ended]
    exact if_neg (by simp [whole, level])
  · have counted := State.frameEnded_waitCounted die s2
    simp only [State.WaitCounted, same.store] at counted
    exact counted

end State.Captures

end Sys2Proof.Machine
end

section
/-! Lines in the line buffer (R65): where a line stands, and what putting a place down does to the lines. -/

namespace Sys2Proof.Machine

variable {c c' : Capture} {g : CapGeom} {j k k' y z : Nat} {p q : Place} {bytes : List Byte}

/-- Line `y` stands in place `k`, which holds `p`. -/
structure Capture.Holds (c : Capture) (y k : Nat) (p : Place) : Prop where
  placeOf : c.placeOf y = some k
  place : c.placeAt k = some p

theorem Capture.exists_holds (found : c.placeOf y = some k) : ∃ p, c.Holds y k p := by
  obtain ⟨p, place, -, -⟩ := Capture.lineAt_eq_some.1 (Capture.placeOf_eq_some.1 found).1
  exact ⟨p, found, place⟩

namespace Capture.Holds

theorem lineAt (h : c.Holds y k p) : c.lineAt k = some y := (Capture.placeOf_eq_some.1 h.placeOf).1

theorem line_eq (h : c.Holds y k p) : p.unit = false ∧ p.line = y := by
  obtain ⟨q, place, unit, line⟩ := Capture.lineAt_eq_some.1 h.lineAt
  rw [h.place] at place
  cases place
  exact ⟨unit, line⟩

theorem inside (h : c.Holds y k p) : k < c.places.length := Capture.lt_of_placeAt h.place

/-- Two lines stand in two places. -/
theorem ne (h : c.Holds y k p) (h' : c.Holds z k' q) (apart : y ≠ z) : k ≠ k' := by
  rintro rfl
  exact apart (Option.some.inj (h.lineAt.symm.trans h'.lineAt))

theorem line? (h : c.Holds y k p) : c.line? y = some p := by
  rw [Capture.line?, h.placeOf]
  exact h.place

theorem isComplete (h : c.Holds y k p) : c.isComplete y = decide (p.cond = .complete) := by
  rw [Capture.isComplete, h.line?]

end Capture.Holds

theorem Capture.isComplete_of_absent (absent : c.placeOf y = none) : c.isComplete y = false := by
  rw [Capture.isComplete, Capture.line?, absent]
  rfl

/-- Lines that stand where they stood keep their places. -/
theorem Capture.Holds.congr (h : c.Holds y k p) (lines : ∀ j, c'.lineAt j = some y ↔ c.lineAt j = some y)
    (place : c'.placeAt k = c.placeAt k) : c'.Holds y k p :=
  ⟨(Capture.placeOf_congr lines).trans h.placeOf, place.trans h.place⟩

/-! ### A place put down -/

theorem Capture.lineAt_setPlace (k j : Nat) (v : Option Place) (c : Capture) :
    (c.setPlace k v).lineAt j = if j = k ∧ k < c.places.length then lineOf v else c.lineAt j := by
  unfold Capture.lineAt
  rw [Capture.placeAt_setPlace]
  split <;> rfl

/-- What stands in other places stays; the lines but `z` stand where they stood when `k` held none but `z` before and after. -/
theorem Capture.lineAt_setPlace_iff {v : Option Place} (before : c.lineAt k ≠ some y) (after : lineOf v ≠ some y) (j : Nat) :
    (c.setPlace k v).lineAt j = some y ↔ c.lineAt j = some y := by
  rw [Capture.lineAt_setPlace]
  split
  next same =>
    obtain ⟨rfl, -⟩ := same
    exact ⟨fun h => absurd h after, fun h => absurd h before⟩
  next => exact Iff.rfl

theorem Capture.placeOf_setPlace_other {v : Option Place} (before : c.lineAt k ≠ some y) (after : lineOf v ≠ some y) :
    (c.setPlace k v).placeOf y = c.placeOf y := Capture.placeOf_congr (Capture.lineAt_setPlace_iff before after)

theorem Capture.Holds.setPlace_other {v : Option Place} (h : c.Holds y k p) (other : k ≠ k') (after : lineOf v ≠ some y)
    (before : c.lineAt k' ≠ some y) : (c.setPlace k' v).Holds y k p := by
  refine h.congr (Capture.lineAt_setPlace_iff before after) ?_
  rw [Capture.placeAt_setPlace, if_neg fun both => other both.1]

/-- The place of a line, put down with the line in it, holds it. -/
theorem Capture.Holds.setPlace_self (h : c.Holds y k p) (unit : q.unit = false) (line : q.line = y) :
    (c.setPlace k (some q)).Holds y k q := by
  have lines (j : Nat) : (c.setPlace k (some q)).lineAt j = some y ↔ c.lineAt j = some y := by
    rw [Capture.lineAt_setPlace]
    split
    next same =>
      obtain ⟨rfl, -⟩ := same
      exact ⟨fun _ => h.lineAt, fun _ => lineOf_eq_some.2 ⟨q, rfl, unit, line⟩⟩
    next => exact Iff.rfl
  exact ⟨(Capture.placeOf_congr lines).trans h.placeOf, by rw [Capture.placeAt_setPlace, if_pos ⟨rfl, h.inside⟩]⟩

/-- A line in another place, when the place of line `z` is put down with line `z` or free. -/
theorem Capture.Holds.setPlace_of_ne {v : Option Place} (h : c.Holds y k p) (h' : c.Holds z k' q) (apart : y ≠ z)
    (after : lineOf v ≠ some y) : (c.setPlace k' v).Holds y k p :=
  h.setPlace_other (h.ne h' apart) after fun here => apart (Option.some.inj (here.symm.trans h'.lineAt))

theorem lineOf_ne (line : p.line = z) (apart : y ≠ z) : lineOf (some p) ≠ some y := by
  intro here
  obtain ⟨_, same, -, at_y⟩ := lineOf_eq_some.1 here
  cases same
  exact apart (at_y.symm.trans line)

/-! ### A line put in a free place -/

theorem Capture.placeAt_of_free (free : c.places[k]? = some none) : c.placeAt k = none := by
  rw [Capture.placeAt, List.getD_eq_getElem?_getD, free]
  rfl

theorem Capture.lineAt_of_free (free : c.places[k]? = some none) : c.lineAt k = none := by
  rw [Capture.lineAt, Capture.placeAt_of_free free]
  rfl

theorem Capture.lt_of_free (free : c.places[k]? = some none) : k < c.places.length :=
  (Capture.free_iff.1 free).1

theorem Capture.holds_setPlace_free (absent : c.placeOf y = none) (free : c.places[k]? = some none) (unit : p.unit = false)
    (line : p.line = y) : (c.setPlace k (some p)).Holds y k p := by
  have here : (c.setPlace k (some p)).placeAt k = some p := by
    rw [Capture.placeAt_setPlace, if_pos ⟨rfl, Capture.lt_of_free free⟩]
  refine ⟨Capture.placeOf_eq_some.2 ⟨Capture.lineAt_eq_some.2 ⟨p, here, unit, line⟩, fun j before there => ?_⟩, here⟩
  rw [Capture.lineAt_setPlace, if_neg fun both => Nat.ne_of_lt before both.1] at there
  exact Capture.placeOf_eq_none.1 absent j there

theorem Capture.Holds.setPlace_free {v : Option Place} (h : c.Holds y k p) (free : c.places[k']? = some none)
    (after : lineOf v ≠ some y) : (c.setPlace k' v).Holds y k p := by
  refine h.setPlace_other ?_ after (by rw [Capture.lineAt_of_free free]; nofun)
  rintro rfl
  have := h.place
  rw [Capture.placeAt_of_free free] at this
  cases this

/-! ### The buffer wanes: no line comes, no free place goes -/

/-- From `c` to `c'` no place takes a line it did not hold, and a free place stays free. -/
structure Capture.Wanes (c c' : Capture) : Prop where
  lines : ∀ j z : Nat, c'.lineAt j = some z → c.lineAt j = some z
  free : ∀ j : Nat, c.places[j]? = some none → c'.places[j]? = some none

namespace Capture.Wanes

theorem refl (c : Capture) : c.Wanes c := ⟨fun _ _ h => h, fun _ h => h⟩

theorem trans {c c' c'' : Capture} (h : c.Wanes c') (h' : c'.Wanes c'') : c.Wanes c'' :=
  ⟨fun j z here => h.lines j z (h'.lines j z here), fun j here => h'.free j (h.free j here)⟩

theorem absent (h : c.Wanes c') (none : c.placeOf y = none) : c'.placeOf y = .none :=
  Capture.placeOf_eq_none.2 fun j here => Capture.placeOf_eq_none.1 none j (h.lines j y here)

theorem mem_free (h : c.Wanes c') (some : none ∈ c.places) : none ∈ c'.places := by
  obtain ⟨j, free⟩ := List.mem_iff_getElem?.1 some
  exact List.mem_iff_getElem?.2 ⟨j, h.free j free⟩

/-- A place put down free, or with the line it held. -/
theorem setPlace {v : Option Place} (taken : c.placeAt k ≠ none) (line : ∀ z, lineOf v = some z → c.lineAt k = some z) :
    c.Wanes (c.setPlace k v) := by
  refine ⟨fun j z here => ?_, fun j free => ?_⟩
  · rw [Capture.lineAt_setPlace] at here
    split at here
    next same => exact same.1 ▸ line z here
    next => exact here
  · have other : k ≠ j := by
      rintro rfl
      exact taken (Capture.placeAt_of_free free)
    rw [← free]
    exact List.getElem?_set_ne other

end Capture.Wanes

end Sys2Proof.Machine
end

section
/-! Lines emitted (R65, R66): the writes raised, the place EMITTED, the NEIGHBOUR freed. -/

namespace Sys2Proof.Machine

variable {c c' : Capture} {g : CapGeom} {base j k k' y z : Nat} {p q : Place} {bytes : List Byte}

/-! ### The writes of a line -/

/-- A place whose writes are raised (R66). -/
def Place.raised (p : Place) (writes : List LumaWrite) : Place := { p with cond := .emitted, unsent := writes.length }

theorem Capture.raiseWrites_places (k addr : Nat) (bytes : List Byte) (p : Place) (c : Capture) :
    (c.raiseWrites k addr bytes p).places = (c.setPlace k (some (p.raised (lineWrites k addr bytes)))).places := rfl

/-- The lines and the places are those of the list of places. -/
theorem Capture.Holds.of_places (h : c.Holds y k p) (same : c'.places = c.places) : c'.Holds y k p := by
  have at_ (j : Nat) : c'.placeAt j = c.placeAt j := by rw [Capture.placeAt, same, Capture.placeAt]
  exact h.congr (fun j => by rw [Capture.lineAt, at_, Capture.lineAt]) (at_ k)

theorem Capture.Wanes.of_places (h : c.Wanes c') {d : Capture} (same : d.places = c'.places) : c.Wanes d := by
  have at_ (j : Nat) : d.lineAt j = c'.lineAt j := by
    rw [Capture.lineAt, Capture.placeAt, same, Capture.lineAt, Capture.placeAt]
  refine ⟨fun j z here => h.lines j z ?_, fun j free => ?_⟩
  · rw [← at_]
    exact here
  · rw [same]
    exact h.free j free

/-- A line's place put down with that line. -/
theorem Capture.Holds.wanes_self (h : c.Holds y k p) (line : q.line = y) : c.Wanes (c.setPlace k (some q)) := by
  refine .setPlace (by rw [h.place]; nofun) fun z here => ?_
  obtain ⟨_, same, -, at_z⟩ := lineOf_eq_some.1 here
  cases same
  rw [← at_z, line]
  exact h.lineAt

theorem Capture.Holds.wanes_free (h : c.Holds y k p) : c.Wanes (c.setPlace k none) :=
  .setPlace (by rw [h.place]; nofun) fun _ => nofun

/-- R66: raising the writes of a line. -/
theorem Capture.Holds.raiseWrites (h : c.Holds y k p) (addr : Nat) (bytes : List Byte) :
    (c.raiseWrites k addr bytes p).Holds y k (p.raised (lineWrites k addr bytes))
      ∧ c.Wanes (c.raiseWrites k addr bytes p)
      ∧ ∀ z k' q, c.Holds z k' q → z ≠ y → (c.raiseWrites k addr bytes p).Holds z k' q := by
  obtain ⟨unit, line⟩ := h.line_eq
  refine ⟨(h.setPlace_self (q := p.raised (lineWrites k addr bytes)) unit line).of_places rfl,
    (h.wanes_self (q := p.raised (lineWrites k addr bytes)) line).of_places rfl, fun z k' q other apart => ?_⟩
  exact (other.setPlace_of_ne h apart (lineOf_ne (p := p.raised (lineWrites k addr bytes)) line apart)).of_places rfl

/-! ### The NEIGHBOUR freed -/

theorem Capture.freeNeighbour_of_holds (h : c.Holds y k p) :
    c.freeNeighbour y = if p.cond = .neighbour then c.setPlace k none else c := by
  have place : c.places.getD k none = some p := h.place
  simp only [Capture.freeNeighbour, h.placeOf, place]

theorem Capture.freeNeighbour_of_absent (absent : c.placeOf y = none) : c.freeNeighbour y = c := by
  simp only [Capture.freeNeighbour, absent]

theorem Capture.freeNeighbour_effect (y : Nat) (c : Capture) : c.Wanes (c.freeNeighbour y)
    ∧ (∀ z k p, c.Holds z k p → z ≠ y ∨ p.cond ≠ .neighbour → (c.freeNeighbour y).Holds z k p)
    ∧ ∀ k p, c.Holds y k p → p.cond = .neighbour → (c.freeNeighbour y).places[k]? = some none := by
  cases found : c.placeOf y with
  | none =>
    rw [Capture.freeNeighbour_of_absent found]
    refine ⟨.refl c, fun _ _ _ h _ => h, fun k p h => ?_⟩
    have := h.placeOf
    rw [found] at this
    cases this
  | some k =>
    obtain ⟨p, h⟩ := Capture.exists_holds found
    rw [Capture.freeNeighbour_of_holds h]
    have same (k' : Nat) (p' : Place) (h' : c.Holds y k' p') : k' = k ∧ p' = p := by
      obtain rfl := Option.some.inj (h'.placeOf.symm.trans h.placeOf)
      exact ⟨rfl, Option.some.inj (h'.place.symm.trans h.place)⟩
    split
    next neighbour =>
      refine ⟨h.wanes_free, fun z k' p' h' other => ?_, fun k' p' h' _ => ?_⟩
      · have apart : z ≠ y := by
          rintro rfl
          obtain ⟨-, rfl⟩ := same k' p' h'
          exact other.elim (· rfl) (· neighbour)
        exact h'.setPlace_of_ne h apart nofun
      · rw [(same k' p' h').1]
        exact List.getElem?_set_self h.inside
    next not =>
      exact ⟨.refl c, fun _ _ _ h _ => h, fun k' p' h' neighbour => absurd ((same k' p' h').2 ▸ neighbour) not⟩

/-! ### A line emitted -/

theorem Capture.emit_of_absent (absent : c.placeOf y = none) : c.emit g base y = c := by
  simp only [Capture.emit, absent]

/-- The writes of line `y`, which stands in place `k` (R66, R69). -/
def Capture.writesOf (g : CapGeom) (base y k : Nat) (p : Place) (c : Capture) : List LumaWrite :=
  lineWrites k (base + y * g.w) (c.lineBytes g y p.raw)

/-- R65, R66: line `y` emitted. -/
theorem Capture.Holds.emit (h : c.Holds y k p) (g : CapGeom) (base : Nat) :
    let writes := c.writesOf g base y k p
    let d := c.emit g base y
    d.nextEmit = y + 1 ∧ d.lumaWaiting = c.lumaWaiting ++ writes ∧ d.Holds y k (p.raised writes) ∧ c.Wanes d
      ∧ (∀ z k' q, c.Holds z k' q → z ≠ y → z + 1 ≠ y ∨ q.cond ≠ .neighbour → d.Holds z k' q)
      ∧ ∀ z k' q, c.Holds z k' q → z + 1 = y → q.cond = .neighbour → d.places[k']? = some none := by
  intro writes d
  obtain ⟨raised, wanes, others⟩ := h.raiseWrites (base + y * g.w) (c.lineBytes g y p.raw)
  obtain ⟨wanes', kept, freed⟩ := Capture.freeNeighbour_effect (y - 1)
    (c.raiseWrites k (base + y * g.w) (c.lineBytes g y p.raw) p)
  have waiting : ((c.raiseWrites k (base + y * g.w) (c.lineBytes g y p.raw) p).freeNeighbour (y - 1)).lumaWaiting
      = c.lumaWaiting ++ writes := by
    unfold Capture.freeNeighbour
    repeat' split
    all_goals rfl
  have form : d = { (c.raiseWrites k (base + y * g.w) (c.lineBytes g y p.raw) p).freeNeighbour (y - 1) with
      nextEmit := y + 1 } := by
    have place : c.places.getD k none = some p := h.place
    simp only [d, Capture.emit, h.placeOf, place]
  have places : d.places = ((c.raiseWrites k (base + y * g.w) (c.lineBytes g y p.raw) p).freeNeighbour (y - 1)).places := by
    rw [form]
  refine ⟨by rw [form], by rw [form]; exact waiting, ?_, (wanes.trans wanes').of_places places,
    fun z k' q other apart stays => ?_, fun z k' q other above neighbour => ?_⟩
  · exact (kept y k _ raised (.inr nofun)).of_places places
  · refine (kept z k' q (others z k' q other apart) ?_).of_places places
    exact stays.imp_left fun far => by omega
  · rw [places]
    exact freed k' q ((Nat.sub_eq_of_eq_add above.symm).symm ▸ others z k' q other (by omega)) neighbour

/-! ### The lines that are due -/

/-- R65, R69: the line whose completeness makes the next line due. -/
def Capture.dueLine (h : Nat) (c : Capture) : Nat :=
  if c.frameKind = .plain ∨ c.nextEmit + 1 = h then c.nextEmit else c.nextEmit + 1

theorem Capture.emitDue_eq (h : Nat) (c : Capture) : c.emitDue h = c.isComplete (c.dueLine h) := by
  unfold Capture.emitDue Capture.dueLine
  split <;> rfl

theorem Capture.emitAll_of_waits (waits : c.isComplete (c.dueLine g.h) = false) : ∀ n, c.emitAll g base n = c
  | 0 => rfl
  | n + 1 => by
    rw [Capture.emitAll, Capture.emitDue_eq, waits]
    rfl

theorem Capture.emitAll_of_due (due : c.isComplete (c.dueLine g.h) = true) (n : Nat) :
    c.emitAll g base (n + 1) = (c.emit g base c.nextEmit).emitAll g base n := by
  rw [Capture.emitAll, Capture.emitDue_eq, due, if_pos rfl]

/-- The next line is not in the buffer: nothing is emitted. -/
theorem Capture.emitAll_of_absent (absent : c.placeOf c.nextEmit = none) : ∀ n, c.emitAll g base n = c
  | 0 => rfl
  | n + 1 => by
    rw [Capture.emitAll, Capture.emit_of_absent absent, Capture.emitAll_of_absent absent n, ite_self]

theorem Capture.emitAll_wanes (g : CapGeom) (base : Nat) : ∀ (n : Nat) (c : Capture), c.Wanes (c.emitAll g base n)
  | 0, c => .refl c
  | n + 1, c => by
    rw [Capture.emitAll]
    split
    · cases found : c.placeOf c.nextEmit with
      | none =>
        rw [Capture.emit_of_absent found]
        exact Capture.emitAll_wanes g base n c
      | some k =>
        obtain ⟨p, h⟩ := Capture.exists_holds found
        obtain ⟨-, -, -, wanes, -⟩ := h.emit g base
        exact wanes.trans (Capture.emitAll_wanes g base n _)
    · exact .refl c

end Sys2Proof.Machine
end

section
/-! A line completed (R65, R69): the lines that become due are emitted. -/

namespace Sys2Proof.Machine

variable {c c' : Capture} {g : CapGeom} {base j k k' k2 y z : Nat} {p q above p2 : Place} {raw up : List Byte}

/-- A place whose line is complete. -/
def Place.full (p : Place) (raw : List Byte) : Place := { p with raw := raw, cond := .complete }

/-! ### The bytes of a line (R65, R69) -/

/-- The gains of the columns of line `y`; none when levelling is OFF (R70). -/
def Capture.levels (g : CapGeom) (y : Nat) (c : Capture) : Option (List Nat) :=
  if c.frameLevelling = .off then none else some ((List.range 16).map (columnGain c.gains (g.h / 12) y))

/-- A line written enhanced. -/
def Capture.enhancedFrom (g : CapGeom) (y : Nat) (up mid down : List Byte) (c : Capture) : List Byte :=
  enhanceLine g.w c.gEff c.cEff (g.w / 16) (c.levels g y) up mid down

theorem Capture.lineBytes_of_plain (plain : c.frameKind = .plain) (mid : List Byte) : c.lineBytes g y mid = mid :=
  if_pos plain

/-- The captured line above line `y`, which holds `mid`: itself for the first line (R70). -/
def Capture.upper (y : Nat) (mid : List Byte) (c : Capture) : List Byte :=
  if y = 0 then mid else ((c.line? (y - 1)).map (·.raw)).getD mid

theorem Capture.upper_eq (low : 1 ≤ y)
    (top : if y = 1 then up = above.raw else ∃ k2 p2, c.Holds (y - 2) k2 p2 ∧ up = p2.raw) :
    c.upper (y - 1) above.raw = up := by
  unfold Capture.upper
  by_cases first : y = 1
  · rw [if_pos first] at top
    rw [if_pos (by omega), top]
  · rw [if_neg first] at top
    obtain ⟨k2, p2, h, same⟩ := top
    rw [if_neg (by omega), show y - 1 - 1 = y - 2 by omega, h.line?, same]
    rfl

/-- An enhanced line above the last one, from the lines around it. -/
theorem Capture.lineBytes_of_lower (enhanced : c.frameKind ≠ .plain) (inside : y + 1 ≠ g.h) (mid : List Byte)
    (lower : c.Holds (y + 1) k p) : c.lineBytes g y mid = c.enhancedFrom g y (c.upper y mid) mid p.raw := by
  unfold Capture.lineBytes Capture.enhanced
  rw [if_neg enhanced]
  dsimp only
  rw [if_neg inside, lower.line?]
  rfl

/-- The last line enhanced, from the line above it. -/
theorem Capture.lineBytes_of_last (enhanced : c.frameKind ≠ .plain) (last : y + 1 = g.h) (low : y ≠ 0) (mid : List Byte)
    (upper : c.Holds (y - 1) k p) : c.lineBytes g y mid = c.enhancedFrom g y p.raw mid mid := by
  unfold Capture.lineBytes Capture.enhanced
  rw [if_neg enhanced]
  dsimp only
  rw [if_pos last, if_neg low, upper.line?]
  rfl

theorem Capture.BuffersTo.enhancedFrom (h : c.BuffersTo c') (y : Nat) (up mid down : List Byte) :
    c'.enhancedFrom g y up mid down = c.enhancedFrom g y up mid down := by
  obtain ⟨_, _, _, rfl⟩ := h
  rfl

theorem Capture.BuffersTo.frameKind (h : c.BuffersTo c') : c'.frameKind = c.frameKind := by
  obtain ⟨_, _, _, rfl⟩ := h
  rfl

theorem Capture.writesOf_eq (bytes : c.lineBytes g y p.raw = raw) :
    c.writesOf g base y k p = lineWrites k (base + y * g.w) raw := by rw [Capture.writesOf, bytes]

/-! ### The line that is due -/

theorem Capture.dueLine_of_plain (plain : c.frameKind = .plain) (h : Nat) : c.dueLine h = c.nextEmit := if_pos (.inl plain)

theorem Capture.dueLine_of_last {h : Nat} (last : c.nextEmit + 1 = h) : c.dueLine h = c.nextEmit := if_pos (.inr last)

theorem Capture.dueLine_of_enhanced {h : Nat} (enhanced : c.frameKind ≠ .plain) (above : c.nextEmit + 1 ≠ h) :
    c.dueLine h = c.nextEmit + 1 := if_neg (not_or.2 ⟨enhanced, above⟩)

/-! ### A line completed -/

/-- The completed line in its place; the others stand where they stood. -/
theorem Capture.Holds.completed (h : c.Holds y k p) (raw : List Byte) :
    (c.setPlace k (some (p.full raw))).Holds y k (p.full raw)
      ∧ (∀ z k' q, c.Holds z k' q → z ≠ y → (c.setPlace k (some (p.full raw))).Holds z k' q)
      ∧ c.Wanes (c.setPlace k (some (p.full raw))) := by
  obtain ⟨unit, line⟩ := h.line_eq
  exact ⟨h.setPlace_self (q := p.full raw) unit line,
    fun z k' q other apart => other.setPlace_of_ne h apart (lineOf_ne (p := p.full raw) line apart),
    h.wanes_self (q := p.full raw) line⟩

theorem Capture.Holds.completed_line? (h : c.Holds y k p) (apart : z ≠ y) (raw : List Byte) :
    (c.setPlace k (some (p.full raw))).line? z = c.line? z := by
  obtain ⟨-, others, wanes⟩ := h.completed raw
  cases found : c.placeOf z with
  | none =>
    rw [Capture.line?, wanes.absent found, Capture.line?, found]
    rfl
  | some k' =>
    obtain ⟨q, other⟩ := Capture.exists_holds found
    rw [(others z k' q other apart).line?, other.line?]

/-- R69: a complete line of a PLAIN frame is written as captured. -/
theorem Capture.Holds.completes_plain (h : c.Holds y k p) (absent : c.placeOf (y + 1) = none)
    (plain : c.frameKind = .plain) (next : c.nextEmit = y) (raw : List Byte) (base : Nat) :
    let writes := lineWrites k (base + y * g.w) raw
    let d := (c.setPlace k (some (p.full raw))).emitAll g base 2
    d.lumaWaiting = c.lumaWaiting ++ writes ∧ d.nextEmit = y + 1 ∧ d.Holds y k ((p.full raw).raised writes) := by
  intro writes d
  let b := c.setPlace k (some (p.full raw))
  obtain ⟨here, -, wanes⟩ := h.completed raw
  have due : b.isComplete (b.dueLine g.h) = true := by
    have line : b.dueLine g.h = y := (Capture.dueLine_of_plain plain g.h).trans next
    rw [line, here.isComplete]
    rfl
  obtain ⟨nextEmit, waiting, holds, wanes', -⟩ := here.emit g base
  have kind : (b.emit g base y).frameKind = .plain := (b.emit_buffers g base y).frameKind.trans plain
  have done : d = b.emit g base y := by
    have waits : (b.emit g base y).isComplete ((b.emit g base y).dueLine g.h) = false := by
      have line : (b.emit g base y).dueLine g.h = y + 1 := (Capture.dueLine_of_plain kind g.h).trans nextEmit
      rw [line]
      exact Capture.isComplete_of_absent (wanes'.absent (wanes.absent absent))
    have first := Capture.emitAll_of_due (base := base) due 1
    rw [show b.nextEmit = y from next] at first
    exact first.trans (Capture.emitAll_of_waits waits 1)
  have bytes : b.writesOf g base y k (p.full raw) = writes := by
    have kindB : b.frameKind = .plain := plain
    rw [Capture.writesOf, Capture.lineBytes_of_plain kindB]
    rfl
  rw [bytes] at waiting holds
  rw [done]
  exact ⟨waiting, nextEmit, holds⟩

/-- R65: the first line of an enhanced frame waits for the second. -/
theorem Capture.Holds.completes_first (h : c.Holds 0 k p) (absent : c.placeOf 1 = none) (enhanced : c.frameKind ≠ .plain)
    (next : c.nextEmit = 0) (high : 1 < g.h) (raw : List Byte) (base n : Nat) :
    (c.setPlace k (some (p.full raw))).emitAll g base n = c.setPlace k (some (p.full raw)) := by
  obtain ⟨-, -, wanes⟩ := h.completed raw
  refine Capture.emitAll_of_waits ?_ n
  have line : (c.setPlace k (some (p.full raw))).dueLine g.h = 1 := by
    have next : (c.setPlace k (some (p.full raw))).nextEmit = 0 := next
    rw [Capture.dueLine_of_enhanced (c := c.setPlace k (some (p.full raw))) enhanced (by omega), next]
  rw [line]
  exact Capture.isComplete_of_absent (wanes.absent absent)

/-- R65: a complete line of an enhanced frame has the line above it written, and the last line is written with it. -/
theorem Capture.Holds.completes_next (h : c.Holds y k p) (absent : c.placeOf (y + 1) = none)
    (enhanced : c.frameKind ≠ .plain) (low : 1 ≤ y) (inside : y < g.h) (next : c.nextEmit + 1 = y)
    (upper : c.Holds (y - 1) k' above) (raw : List Byte) (base : Nat) :
    let writes := lineWrites k' (base + (y - 1) * g.w)
      (c.enhancedFrom g (y - 1) (c.upper (y - 1) above.raw) above.raw raw)
    let lastWrites := lineWrites k (base + y * g.w) (c.enhancedFrom g y above.raw raw raw)
    let d := (c.setPlace k (some (p.full raw))).emitAll g base 2
    d.lumaWaiting = c.lumaWaiting ++ writes ++ (if y + 1 = g.h then lastWrites else [])
      ∧ d.nextEmit = (if y + 1 = g.h then g.h else y) ∧ d.Holds (y - 1) k' (above.raised writes)
      ∧ d.Holds y k (if y + 1 = g.h then (p.full raw).raised lastWrites else p.full raw)
      ∧ ∀ k2 p2, 2 ≤ y → c.Holds (y - 2) k2 p2 → p2.cond = .neighbour → d.placeAt k2 = none := by
  intro writes lastWrites d
  let b := c.setPlace k (some (p.full raw))
  obtain ⟨here, others, wanes⟩ := h.completed raw
  have upperB : b.Holds (y - 1) k' above := others _ _ _ upper (by omega)
  have enhancedB : b.frameKind ≠ .plain := enhanced
  have due : b.isComplete (b.dueLine g.h) = true := by
    have nextB : b.nextEmit + 1 = y := next
    have line : b.dueLine g.h = y := by
      rw [Capture.dueLine_of_enhanced enhancedB (by omega), nextB]
    rw [line, here.isComplete]
    rfl
  have bytes : b.writesOf g base (y - 1) k' above = writes := by
    have hereB : b.Holds (y - 1 + 1) k (p.full raw) := by
      rw [Nat.sub_add_cancel low]
      exact here
    have top : b.upper (y - 1) above.raw = c.upper (y - 1) above.raw := by
      unfold Capture.upper
      split
      · rfl
      · rw [h.completed_line? (by omega)]
    refine Capture.writesOf_eq ?_
    rw [Capture.lineBytes_of_lower enhancedB (by omega) above.raw hereB, top]
    rfl
  let e := b.emit g base (y - 1)
  obtain ⟨nextE, waitingE, upperE, wanesE, keptE, freedE⟩ := upperB.emit g base
  rw [bytes] at waitingE upperE
  rw [Nat.sub_add_cancel low] at nextE
  have hereE : e.Holds y k (p.full raw) := keptE y k _ here (by omega) (.inr nofun)
  have buffersE : b.BuffersTo e := b.emit_buffers g base (y - 1)
  have absentE : e.placeOf (y + 1) = none := wanesE.absent (wanes.absent absent)
  have freed (k2 : Nat) (p2 : Place) (third : 2 ≤ y) (holds : c.Holds (y - 2) k2 p2) (neighbour : p2.cond = .neighbour) :
      e.places[k2]? = some none := freedE (y - 2) k2 p2 (others _ _ _ holds (by omega)) (by omega) neighbour
  have step : d = e.emitAll g base 1 := by
    have first := Capture.emitAll_of_due (base := base) due 1
    rw [show b.nextEmit = y - 1 from Nat.eq_sub_of_add_eq next] at first
    exact first
  by_cases last : y + 1 = g.h
  · have line : e.dueLine g.h = y := (Capture.dueLine_of_last (by rw [nextE]; exact last)).trans nextE
    have dueE : e.isComplete (e.dueLine g.h) = true := by
      rw [line, hereE.isComplete]
      rfl
    have lastBytes : e.writesOf g base y k (p.full raw) = lastWrites := by
      refine Capture.writesOf_eq ?_
      have enhancedE : e.frameKind ≠ .plain := by
        rw [buffersE.frameKind]
        exact enhancedB
      rw [Capture.lineBytes_of_last enhancedE last (by omega) _ upperE]
      exact buffersE.enhancedFrom y above.raw raw raw
    obtain ⟨nextD, waitingD, hereD, wanesD, keptD, -⟩ := hereE.emit g base
    rw [lastBytes] at waitingD hereD
    have done : d = e.emit g base y := by
      rw [step, Capture.emitAll_of_due dueE 0, nextE]
      rfl
    rw [done]
    simp only [if_pos last]
    refine ⟨?_, nextD.trans last, keptD _ _ _ upperE (by omega) (.inr nofun), hereD, fun k2 p2 third holds neighbour => ?_⟩
    · rw [waitingD, waitingE]
      rfl
    · exact Capture.placeAt_of_free (wanesD.free k2 (freed k2 p2 third holds neighbour))
  · have line : e.dueLine g.h = y + 1 := by
      have enhancedE : e.frameKind ≠ .plain := by
        rw [buffersE.frameKind]
        exact enhancedB
      have nextE : e.nextEmit = y := nextE
      rw [Capture.dueLine_of_enhanced enhancedE (by omega), nextE]
    have done : d = e := by
      rw [step]
      refine Capture.emitAll_of_waits ?_ 1
      rw [line]
      exact Capture.isComplete_of_absent absentE
    rw [done]
    simp only [if_neg last, List.append_nil]
    exact ⟨waitingE, nextE, upperE, hereE, fun k2 p2 third holds neighbour =>
      Capture.placeAt_of_free (freed k2 p2 third holds neighbour)⟩

end Sys2Proof.Machine
end

section
/-! Luma of a frame in order (R59, R65): a write within a line, and the cases of the statement. -/

namespace Sys2Proof.Machine

variable {s u : State} {t : Txn} {c c' : Capture} {g : CapGeom} {base n j k k' off y z : Nat} {p q above : Place}
  {data raw up : List Byte} {die : Int}

/-! ### Bytes that enter a line -/

theorem lineCond_of_lt {w : Nat} (short : n < w) : lineCond w n = .receiving := if_pos short

theorem lineCond_of_le {w : Nat} (whole : w ≤ n) : lineCond w n = .complete := if_neg (Nat.not_lt.2 whole)

theorem Capture.Holds.addToLine (h : c.Holds y k p) (w : Nat) (data : List Byte) : c.addToLine w y data =
    c.setPlace k (some { p with raw := p.raw ++ data, cond := lineCond w (p.raw ++ data).length }) := by
  have place : c.places.getD k none = some p := h.place
  simp only [Capture.addToLine, h.placeOf, place]

theorem Capture.addToLine_of_absent (absent : c.placeOf y = none) (free : c.freePlace = some k) (w : Nat)
    (data : List Byte) :
    c.addToLine w y data = c.setPlace k (some ⟨y, false, lineCond w data.length, data, 0⟩) := by
  simp only [Capture.addToLine, absent, free]

/-- Luma of one line. -/
theorem Capture.acceptLuma_line (some : data ≠ []) (within : off % g.w + data.length ≤ g.w) (fuel : Nat) :
    c.acceptLuma g base (fuel + 1) off data = (c.addToLine g.w (off / g.w) data).emitAll g base 2 := by
  have line : min data.length (g.w - off % g.w) = data.length := by omega
  have rest (c : Capture) (fuel off : Nat) : c.acceptLuma g base fuel off [] = c := by cases fuel <;> rfl
  rw [Capture.acceptLuma, if_neg (by simpa using some), line]
  dsimp only
  rw [List.take_length, List.drop_length, rest]

/-- Luma that crosses a line's end. -/
theorem Capture.acceptLuma_lines (wide : 0 < g.w) (crosses : g.w < off % g.w + data.length)
    (short : off % g.w + data.length ≤ 2 * g.w) :
    let m := g.w - off % g.w
    c.acceptLuma g base data.length off data =
      (((c.addToLine g.w (off / g.w) (data.take m)).emitAll g base 2).addToLine g.w (off / g.w + 1)
        (data.drop m)).emitAll g base 2 := by
  intro m
  have inside : off % g.w < g.w := Nat.mod_lt off wide
  obtain ⟨fuel, length⟩ : ∃ fuel, data.length = fuel + 1 + 1 := ⟨data.length - 2, by omega⟩
  have line : min data.length (g.w - off % g.w) = m := by omega
  have next : off + m = g.w * (off / g.w + 1) := by
    have := Nat.div_add_mod off g.w
    rw [Nat.mul_add, Nat.mul_one]
    omega
  have some : data ≠ [] := by
    rintro rfl
    cases length
  have more : data.drop m ≠ [] := by
    rw [ne_eq, List.drop_eq_nil_iff]
    omega
  rw [length, Capture.acceptLuma, if_neg (by simpa using some), line]
  dsimp only
  rw [Capture.acceptLuma_line more, next, Nat.mul_div_cancel_left _ wide]
  rw [next, Nat.mul_mod_right, List.length_drop]
  omega

/-! ### The line that follows those emitted -/

/-- The lines before `y` that may be emitted have been: the next to be emitted is `y` in a PLAIN frame, else the line
above it. -/
def Capture.Follows (y : Nat) (c : Capture) : Prop :=
  (c.frameKind = .plain ∧ c.nextEmit = y) ∨ (c.frameKind ≠ .plain ∧ c.nextEmit + 1 = max y 1)

/-- A line that is not complete has nothing emitted. -/
theorem Capture.Follows.emitAll (follows : c.Follows y) (inside : y < g.h) (high : 1 < g.h)
    (absent : y = 0 → c.placeOf (y + 1) = none) (open_ : c.isComplete y = false) (n : Nat) : c.emitAll g base n = c := by
  refine Capture.emitAll_of_waits ?_ n
  obtain ⟨plain, next⟩ | ⟨enhanced, next⟩ := follows
  · rw [Capture.dueLine_of_plain plain, next]
    exact open_
  · rw [Capture.dueLine_of_enhanced enhanced (by omega), next]
    rcases Nat.eq_zero_or_pos y with rfl | low
    · exact Capture.isComplete_of_absent (absent rfl)
    · rw [Nat.max_eq_left low]
      exact open_

/-- R65: a line's first byte takes a free place. -/
theorem Capture.Follows.opens (follows : c.Follows y) (inside : y < g.h) (high : 1 < g.h)
    (next : y = 0 → c.placeOf (y + 1) = none) (absent : c.placeOf y = none) (free : c.freePlace = some k)
    (short : data.length < g.w) (base : Nat) :
    (c.addToLine g.w y data).emitAll g base 2 = c.setPlace k (some ⟨y, false, .receiving, data, 0⟩) := by
  rw [Capture.addToLine_of_absent absent free, lineCond_of_lt short]
  have free := (Capture.freePlace_eq_some.1 free).1
  have here : (c.setPlace k (some ⟨y, false, .receiving, data, 0⟩)).Holds y k ⟨y, false, .receiving, data, 0⟩ :=
    Capture.holds_setPlace_free absent free rfl rfl
  have absent' (first : y = 0) : (c.setPlace k (some ⟨y, false, .receiving, data, 0⟩)).placeOf (y + 1) = none :=
    (Capture.placeOf_setPlace_other (by rw [Capture.lineAt_of_free free]; nofun)
      (lineOf_ne (z := y) rfl (Nat.succ_ne_self y))).trans (next first)
  exact Capture.Follows.emitAll (c := c.setPlace k (some ⟨y, false, .receiving, data, 0⟩)) follows inside high absent'
    here.isComplete 2

/-- R65: a line that is not complete yet gathers in its place. -/
theorem Capture.Follows.extends (follows : c.Follows y) (inside : y < g.h) (high : 1 < g.h)
    (next : c.placeOf (y + 1) = none) (h : c.Holds y k p) (short : (p.raw ++ data).length < g.w) (base : Nat) :
    (c.addToLine g.w y data).emitAll g base 2 =
      c.setPlace k (some { p with raw := p.raw ++ data, cond := .receiving }) := by
  rw [h.addToLine, lineCond_of_lt short]
  obtain ⟨unit, line⟩ := h.line_eq
  have here : (c.setPlace k (some { p with raw := p.raw ++ data, cond := .receiving })).Holds y k _ :=
    h.setPlace_self unit line
  have absent : (c.setPlace k (some { p with raw := p.raw ++ data, cond := .receiving })).placeOf (y + 1) = none :=
    (h.wanes_self (q := { p with raw := p.raw ++ data, cond := .receiving }) line).absent next
  exact Capture.Follows.emitAll (c := c.setPlace k (some { p with raw := p.raw ++ data, cond := .receiving })) follows
    inside high (fun _ => absent) here.isComplete 2

theorem Capture.Holds.addToLine_full (h : c.Holds y k p) (whole : (p.raw ++ data).length = g.w) :
    c.addToLine g.w y data = c.setPlace k (some (p.full (p.raw ++ data))) := by
  rw [h.addToLine, lineCond_of_le whole.ge]
  rfl

/-! ### A write in order, in the line buffer -/

/-- The enhancer with other accumulators. -/
def Capture.withTiles (c : Capture) (tiles : List Nat × List Nat) : Capture := { c with sums := tiles.1, whites := tiles.2 }

theorem Capture.written_stored (stored : c.dropped = false) (whole : c.broken = false) (base off len : Nat)
    (luma : List Byte) : ∃ tiles, c.written g base off len luma =
      { (c.withTiles tiles).acceptLuma g base luma.length off luma with expected := off + len } := by
  obtain ⟨sums, whites, fed⟩ := c.feedTiles_eq g off luma
  refine ⟨(sums, whites), ?_⟩
  unfold Capture.written
  rw [fed]
  dsimp only
  rw [if_neg (by simp [stored]), Capture.storeLuma, if_neg (by simp [whole])]
  rfl

end Sys2Proof.Machine
end

section
/-! A capture write within one line (R65, R69). -/

namespace Sys2Proof.Machine

variable {s u : State} {t : Txn} {c c' : Capture} {g : CapGeom} {sg : SlotGeom} {base n j k k' off slot y z : Nat}
  {p q above : Place} {data raw up : List Byte} {die : Int}

theorem Capture.Holds.withTiles (h : c.Holds y k p) (tiles : List Nat × List Nat) : (c.withTiles tiles).Holds y k p :=
  h.of_places rfl

theorem Capture.holds_iff : c.Holds y k p ↔ c.placeOf y = some k ∧ c.places.getD k none = some p :=
  ⟨fun h => ⟨h.placeOf, h.place⟩, fun h => ⟨h.1, h.2⟩⟩

/-- Where a line stands in the plane. -/
theorem line_of_offset {w : Nat} (low : y * w ≤ off) (high : off < (y + 1) * w) : off / w = y ∧ off % w = off - y * w := by
  have line : off / w = y := Nat.div_eq_of_lt_le low high
  refine ⟨line, ?_⟩
  have := Nat.div_add_mod off w
  rw [line, Nat.mul_comm] at this
  omega

/-- A line ends before the plane does. -/
theorem CapGeom.line_le_area (inside : y < g.h) : (y + 1) * g.w ≤ g.w * g.h := by
  rw [Nat.mul_comm g.w]
  exact Nat.mul_le_mul_right g.w inside

namespace State.Captures

variable (h : s.Captures t g off)
include h

/-- R59: luma in order is handed to the line buffer. -/
theorem luma_written (geom : g.Legal) (receiving : s.cap.tracker = .receiving) (ordered : off = s.cap.expected)
    (stored : s.cap.dropped = false) (whole : s.cap.broken = false) (fits : off + t.len ≤ g.w * g.h)
    (accepts : s.cap.acceptsLines g off t.len = true) : ∃ u tiles, exec (.captureWrite t die) s = .next u
      ∧ u.path.upLog = s.path.upLog ++ [⟨t.id, .write, .okay, []⟩] ∧ u.path.fwd = s.path.fwd
      ∧ u.cap = { (s.cap.withTiles tiles).acceptLuma g s.frameBase t.data.length off t.data with
          expected := off + t.len } := by
  have area := CapGeom.area_of_legal geom
  obtain ⟨u, row, log, fwd, cap, -⟩ := h.luma_effect (die := die) receiving ordered stored whole fits accepts (by omega)
  obtain ⟨tiles, written⟩ := Capture.written_stored stored whole s.frameBase off t.len t.data (g := g)
  exact ⟨u, tiles, row, log, fwd, cap.trans written⟩

/-- R65: luma of one line. -/
theorem line_written (geom : g.Legal) (receiving : s.cap.tracker = .receiving) (ordered : off = s.cap.expected)
    (stored : s.cap.dropped = false) (whole : s.cap.broken = false) (accepts : s.cap.acceptsLines g off t.len = true)
    (inside : y < g.h) (low : y * g.w ≤ off) (high : off + t.len ≤ (y + 1) * g.w) :
    ∃ u tiles, exec (.captureWrite t die) s = .next u
      ∧ u.cap = { ((s.cap.withTiles tiles).addToLine g.w y t.data).emitAll g s.frameBase 2 with
          expected := off + t.len } := by
  obtain ⟨some, -, -, -, length⟩ := Txn.write_of_legal h.legal h.dir
  obtain ⟨u, tiles, row, -, -, cap⟩ := h.luma_written (die := die) geom receiving ordered stored whole
    (high.trans (CapGeom.line_le_area inside)) accepts
  obtain ⟨line, column⟩ := line_of_offset (w := g.w) low (by omega)
  obtain ⟨fuel, fuelEq⟩ : ∃ fuel, t.data.length = fuel + 1 := ⟨t.data.length - 1, by omega⟩
  refine ⟨u, tiles, row, ?_⟩
  rw [Nat.add_mul, Nat.one_mul] at high
  rw [cap, fuelEq, Capture.acceptLuma_line (List.ne_nil_of_length_pos (by omega)) (by omega), line]

end State.Captures

/-- R65, R69: the write of a part of line `y`, the first part or a further one. -/
theorem State.Captures.line_effect (h : s.Captures t g off) (geom : g.Legal) (receiving : s.cap.tracker = .receiving)
    (ordered : off = s.cap.expected) (stored : s.cap.dropped = false) (whole : s.cap.broken = false)
    (accepts : s.cap.acceptsLines g off t.len = true) (filled : s.cap.slot = some slot) (region : s.slots.geom = some sg)
    (inside : y < g.h) (low : y * g.w ≤ off) (high : off + t.len ≤ (y + 1) * g.w) (next : s.cap.placeOf (y + 1) = none)
    (follows : s.cap.Follows y) :
    let c := s.cap
    let base := sg.base + slot * sg.frameSize
    let does := fun (P : Capture → Prop) => ∃ u, exec (.captureWrite t die) s = .next u ∧ P u.cap
    (c.placeOf y = none → c.freePlace = some k → off + t.len < (y + 1) * g.w → does fun d =>
        d.places = c.places.set k (some ⟨y, false, .receiving, t.data, 0⟩) ∧ d.lumaWaiting = c.lumaWaiting
        ∧ d.nextEmit = c.nextEmit)
    ∧ (∀ pl, c.placeOf y = some k → c.places.getD k none = some pl → pl.raw.length = off - y * g.w →
        let raw := pl.raw ++ t.data
        (off + t.len < (y + 1) * g.w → does fun d =>
            d.places = c.places.set k (some { pl with raw := raw, cond := .receiving })
            ∧ d.lumaWaiting = c.lumaWaiting ∧ d.nextEmit = c.nextEmit)
        ∧ (off + t.len = (y + 1) * g.w → c.frameKind = .plain → does fun d =>
            d.lumaWaiting = c.lumaWaiting ++ lineWrites k (base + y * g.w) raw ∧ d.nextEmit = y + 1
            ∧ d.places.getD k none = some ((pl.full raw).raised (lineWrites k (base + y * g.w) raw)))
        ∧ (off + t.len = (y + 1) * g.w → c.frameKind ≠ .plain → y = 0 → does fun d =>
            d.places = c.places.set k (some (pl.full raw)) ∧ d.lumaWaiting = c.lumaWaiting ∧ d.nextEmit = 0)
        ∧ (∀ (k' : Nat) (above : Place) (up : List Byte), off + t.len = (y + 1) * g.w → c.frameKind ≠ .plain → 1 ≤ y →
            c.Holds (y - 1) k' above →
            (if y = 1 then up = above.raw else ∃ k2 p2, c.Holds (y - 2) k2 p2 ∧ up = p2.raw) →
            let writes := lineWrites k' (base + (y - 1) * g.w) (c.enhancedFrom g (y - 1) up above.raw raw)
            let lastWrites := lineWrites k (base + y * g.w) (c.enhancedFrom g y above.raw raw raw)
            does fun d =>
              d.lumaWaiting = c.lumaWaiting ++ writes ++ (if y + 1 = g.h then lastWrites else [])
              ∧ d.nextEmit = (if y + 1 = g.h then g.h else y)
              ∧ d.places.getD k' none = some (above.raised writes)
              ∧ d.places.getD k none = some (if y + 1 = g.h then (pl.full raw).raised lastWrites else pl.full raw)
              ∧ ∀ k2 p2, 2 ≤ y → c.placeOf (y - 2) = some k2 → c.places.getD k2 none = some p2 →
                  p2.cond = .neighbour → d.places.getD k2 none = none)) := by
  intro c base does
  have geom' := geom
  obtain ⟨-, -, -, tall, -⟩ := geom'
  have length := h.data_length
  have frame : s.frameBase = base := State.frameBase_of_slot filled region
  obtain ⟨u, tiles, row, cap⟩ := h.line_written (die := die) geom receiving ordered stored whole accepts inside low high
  rw [frame] at cap
  have follows' : (c.withTiles tiles).Follows y := follows
  have next' : (c.withTiles tiles).placeOf (y + 1) = none := next
  have lineEnd : (y + 1) * g.w = y * g.w + g.w := by rw [Nat.add_mul, Nat.one_mul]
  refine ⟨fun absent free open_ => ⟨u, row, ?_⟩, fun pl placed place filledTo => ?_⟩
  · have absent' : (c.withTiles tiles).placeOf y = none := absent
    have free' : (c.withTiles tiles).freePlace = some k := free
    rw [cap, follows'.opens inside (by omega) (fun _ => next') absent' free' (by omega)]
    exact ⟨rfl, rfl, rfl⟩
  · intro raw
    have holds : (c.withTiles tiles).Holds y k pl := ⟨placed, place⟩
    have total : raw.length = off - y * g.w + t.len := by rw [List.length_append, filledTo, length]
    refine ⟨fun open_ => ⟨u, row, ?_⟩, fun ends plain => ⟨u, row, ?_⟩, fun ends enhanced first => ⟨u, row, ?_⟩,
      fun k' above up ends enhanced second upper top => ⟨u, row, ?_⟩⟩
    · rw [cap, follows'.extends inside (by omega) next' holds (show raw.length < g.w by omega)]
      exact ⟨rfl, rfl, rfl⟩
    · obtain ⟨waiting, nextEmit, placed⟩ := holds.completes_plain (g := g) next' plain
        (follows.elim (·.2) fun h => absurd plain h.1) raw base
      rw [cap, holds.addToLine_full (show raw.length = g.w by omega)]
      exact ⟨waiting, nextEmit, placed.place⟩
    · subst first
      have next0 : (c.withTiles tiles).nextEmit = 0 :=
        follows.elim (fun h => absurd h.1 enhanced) fun h => by have := h.2; exact Nat.succ_inj.1 this
      rw [cap, holds.addToLine_full (show raw.length = g.w by omega),
        holds.completes_first next' enhanced next0 (show 1 < g.h by omega)]
      exact ⟨rfl, rfl, next0⟩
    · have next1 : (c.withTiles tiles).nextEmit + 1 = y :=
        follows.elim (fun h => absurd h.1 enhanced) fun h => h.2.trans (Nat.max_eq_left second)
      have above_up : c.upper (y - 1) above.raw = up := Capture.upper_eq second top
      have top' : (c.withTiles tiles).upper (y - 1) above.raw = up := above_up
      obtain ⟨waiting, nextEmit, upperD, hereD, freed⟩ := holds.completes_next (g := g) next' enhanced second inside next1
        (upper.withTiles tiles) raw base
      rw [top'] at waiting upperD
      rw [cap, holds.addToLine_full (show raw.length = g.w by omega)]
      exact ⟨waiting, nextEmit, upperD.place, hereD.place, fun k2 p2 third placed2 place2 neighbour =>
        freed k2 p2 third ⟨placed2, place2⟩ neighbour⟩

end Sys2Proof.Machine
end

section
/-! A capture write that crosses a line's end (R59, R65, R69). -/

namespace Sys2Proof.Machine

variable {s u : State} {t : Txn} {c c' : Capture} {g : CapGeom} {sg : SlotGeom} {base n j k k' off slot y z : Nat}
  {p pl q above : Place} {data raw up : List Byte} {die : Int}

/-! ### The line buffer once a line is complete -/

/-- The next line to be emitted follows line `y`, or is missing from the buffer. -/
def Capture.Passed (y : Nat) (c : Capture) : Prop :=
  c.Follows (y + 1) ∨ (c.nextEmit + 1 = y ∧ c.placeOf c.nextEmit = none)

/-- The line completed stays in its place, and what is emitted follows it. -/
theorem Capture.Holds.completes (h : c.Holds y k p) (absent : c.placeOf (y + 1) = none) (follows : c.Follows y)
    (inside : y + 1 < g.h) (raw : List Byte) (base : Nat) :
    let d := (c.setPlace k (some (p.full raw))).emitAll g base 2
    d.Passed y ∧ (c.frameKind ≠ .plain → d.Holds y k (p.full raw)) ∧ ∃ q, d.Holds y k q := by
  intro d
  have buffers : c.BuffersTo d := (c.setPlace_buffers _ _).trans (Capture.emitAll_buffers _ _ _ _)
  have kind : d.frameKind = c.frameKind := buffers.frameKind
  obtain ⟨here, -, wanes⟩ := h.completed raw
  have enhancedKind (enhanced : c.frameKind ≠ .plain) : d.frameKind ≠ .plain := by
    rw [kind]
    exact enhanced
  obtain ⟨plain, next⟩ | ⟨enhanced, next⟩ := follows
  · obtain ⟨-, nextEmit, holds⟩ := h.completes_plain (g := g) absent plain next raw base
    exact ⟨.inl (.inl ⟨kind.trans plain, nextEmit⟩), fun enhanced => absurd plain enhanced, _, holds⟩
  · rcases Nat.eq_zero_or_pos y with rfl | low
    · have next0 : c.nextEmit = 0 := Nat.succ_inj.1 next
      have done : d = c.setPlace k (some (p.full raw)) :=
        h.completes_first absent enhanced next0 (by omega) raw base 2
      have holds : d.Holds 0 k (p.full raw) := done ▸ here
      refine ⟨.inl (.inr ⟨enhancedKind enhanced, ?_⟩), fun _ => holds, _, holds⟩
      rw [done]
      exact next
    · rw [Nat.max_eq_left low] at next
      cases found : c.placeOf (y - 1) with
      | none =>
        have none' : (c.setPlace k (some (p.full raw))).placeOf (c.setPlace k (some (p.full raw))).nextEmit = none := by
          have same : (c.setPlace k (some (p.full raw))).nextEmit = y - 1 := Nat.eq_sub_of_add_eq next
          rw [same]
          exact wanes.absent found
        have done : d = c.setPlace k (some (p.full raw)) := Capture.emitAll_of_absent none' 2
        have holds : d.Holds y k (p.full raw) := done ▸ here
        refine ⟨.inr ?_, fun _ => holds, _, holds⟩
        rw [done]
        exact ⟨next, none'⟩
      | some k' =>
        obtain ⟨above, upper⟩ := Capture.exists_holds found
        obtain ⟨-, nextEmit, -, holds, -⟩ := h.completes_next (g := g) absent enhanced low (by omega) next upper raw base
        rw [if_neg (by omega)] at nextEmit holds
        refine ⟨.inl (.inr ⟨enhancedKind enhanced, ?_⟩), fun _ => holds, _, holds⟩
        rw [Nat.max_eq_left (by omega)]
        exact congrArg (· + 1) nextEmit

/-- The bytes beyond a completed line open the next one, and nothing more is emitted. -/
theorem Capture.Passed.opens (passed : c.Passed y) (inside : y + 1 < g.h) (absent : c.placeOf (y + 1) = none)
    (free : c.freePlace = some k) (short : data.length < g.w) (base : Nat) :
    (c.addToLine g.w (y + 1) data).emitAll g base 2 = c.setPlace k (some ⟨y + 1, false, .receiving, data, 0⟩) := by
  obtain follows | ⟨next, missing⟩ := passed
  · exact follows.opens inside (by omega) nofun absent free short base
  · rw [Capture.addToLine_of_absent absent free, lineCond_of_lt short]
    refine Capture.emitAll_of_absent ?_ 2
    have free := (Capture.freePlace_eq_some.1 free).1
    have same : (c.setPlace k (some ⟨y + 1, false, .receiving, data, 0⟩)).nextEmit = c.nextEmit := rfl
    rw [same, Capture.placeOf_setPlace_other (by rw [Capture.lineAt_of_free free]; nofun)
      (lineOf_ne (z := y + 1) rfl (by omega))]
    exact missing

/-- A write that crosses the end of line `y`, which stands in place `k`. -/
theorem Capture.Holds.crosses (h : c.Holds y k p) (absent : c.placeOf (y + 1) = none) (follows : c.Follows y)
    (inside : y + 1 < g.h) (room : none ∈ c.places) (short : data.length < g.w) (raw : List Byte) (base : Nat) :
    let e := (c.setPlace k (some (p.full raw))).emitAll g base 2
    let d := (e.addToLine g.w (y + 1) data).emitAll g base 2
    d.lumaWaiting = e.lumaWaiting ∧ d.nextEmit = e.nextEmit
      ∧ (∃ k2, k2 ≠ k ∧ d.placeOf (y + 1) = some k2
        ∧ d.places.getD k2 none = some ⟨y + 1, false, .receiving, data, 0⟩)
      ∧ (∀ q, e.Holds y k q → d.places.getD k none = some q)
      ∧ (c.frameKind ≠ .plain → d.places.getD k none = some (p.full raw)) := by
  intro e d
  obtain ⟨passed, holds, q, held⟩ := h.completes absent follows inside raw base
  obtain ⟨-, -, wanes⟩ := h.completed raw
  have wanesE : c.Wanes e := wanes.trans (Capture.emitAll_wanes g base 2 _)
  obtain ⟨k2, free⟩ := Option.isSome_iff_exists.1 (Capture.freePlace_isSome.2 (wanesE.mem_free room))
  have opened : d = e.setPlace k2 (some ⟨y + 1, false, .receiving, data, 0⟩) :=
    passed.opens inside (wanesE.absent absent) free short base
  have free := (Capture.freePlace_eq_some.1 free).1
  have new := Capture.holds_setPlace_free (p := ⟨y + 1, false, .receiving, data, 0⟩) (wanesE.absent absent) free rfl rfl
  have kept {q : Place} (held : e.Holds y k q) : (e.setPlace k2 (some ⟨y + 1, false, .receiving, data, 0⟩)).Holds y k q :=
    held.setPlace_free free (lineOf_ne (z := y + 1) rfl (by omega))
  rw [opened]
  exact ⟨rfl, rfl, ⟨k2, new.ne (kept held) (by omega), new.placeOf, new.place⟩, fun q held => (kept held).place,
    fun enhanced => (kept (holds enhanced)).place⟩

end Sys2Proof.Machine
end

section
/-! Capture writes that cross a line's end, within the plane and into the chroma (R7, R59, R65). -/

namespace Sys2Proof.Machine

variable {s u : State} {t : Txn} {c c' : Capture} {g : CapGeom} {sg : SlotGeom} {base n j k k' off slot y z : Nat}
  {p pl q above : Place} {data raw up : List Byte} {die : Int}

/-- R67: a write that crosses into a line without a place needs a free one. -/
theorem Capture.room_of_acceptsLines (short : n ≤ g.w) (low : y * g.w ≤ off) (before : off < (y + 1) * g.w)
    (crosses : (y + 1) * g.w < off + n) (absent : c.placeOf (y + 1) = none) (accepts : c.acceptsLines g off n = true) :
    none ∈ c.places := by
  have ends : (off + n - 1) / g.w = y + 1 := by
    refine (line_of_offset (w := g.w) (y := y + 1) (by omega) ?_).1
    rw [Nat.add_mul (y + 1), Nat.one_mul]
    omega
  have needs := (Capture.acceptsLines_iff (by omega) short).1 accepts
  rw [ends, (line_of_offset low before).1, absent, if_pos (c := y ≠ y + 1 ∧ _) ⟨by omega, rfl⟩] at needs
  have some := List.length_pos_iff.1 (Nat.lt_of_lt_of_le Nat.one_pos ((Nat.le_add_left 1 _).trans needs))
  obtain ⟨p, mem⟩ := List.exists_mem_of_ne_nil _ some
  obtain ⟨mem, free⟩ := List.mem_filter.1 mem
  exact of_decide_eq_true free ▸ mem

namespace State.Captures

variable (h : s.Captures t g off)
include h

/-- R59, R65: a write that crosses the end of line `y` into the next. -/
theorem crossing_effect (geom : g.Legal) (receiving : s.cap.tracker = .receiving) (ordered : off = s.cap.expected)
    (stored : s.cap.dropped = false) (whole : s.cap.broken = false) (filled : s.cap.slot = some slot)
    (region : s.slots.geom = some sg) (low : y * g.w ≤ off) (before : off < (y + 1) * g.w)
    (crosses : (y + 1) * g.w < off + t.len) (holds : s.cap.Holds y k pl) (filledTo : pl.raw.length = off - y * g.w)
    (absent : s.cap.placeOf (y + 1) = none) (follows : s.cap.Follows y) (inside : y + 1 < g.h)
    (accepts : s.cap.acceptsLines g off t.len = true) :
    let c := s.cap
    let base := sg.base + slot * sg.frameSize
    let raw := pl.raw ++ t.data.take ((y + 1) * g.w - off)
    let beyond := t.data.drop ((y + 1) * g.w - off)
    let asCaptured := lineWrites k (base + y * g.w) raw
    ∃ u, exec (.captureWrite t die) s = .next u
      ∧ u.path.upLog = s.path.upLog ++ [⟨t.id, .write, .okay, []⟩] ∧ u.path.fwd = s.path.fwd
      ∧ u.cap.expected = off + t.len ∧ u.cap.tracker = .receiving
      ∧ (∃ k2, k2 ≠ k ∧ u.cap.placeOf (y + 1) = some k2
          ∧ u.cap.places.getD k2 none = some ⟨y + 1, false, .receiving, beyond, 0⟩)
      ∧ (c.frameKind = .plain → u.cap.lumaWaiting = c.lumaWaiting ++ asCaptured ∧ u.cap.nextEmit = y + 1
          ∧ u.cap.places.getD k none = some ((pl.full raw).raised asCaptured))
      ∧ (c.frameKind ≠ .plain → u.cap.places.getD k none = some (pl.full raw))
      ∧ (c.frameKind ≠ .plain → y = 0 → u.cap.lumaWaiting = c.lumaWaiting ∧ u.cap.nextEmit = 0)
      ∧ ∀ (k' : Nat) (above : Place) (up : List Byte), c.frameKind ≠ .plain → 1 ≤ y → c.Holds (y - 1) k' above →
          (if y = 1 then up = above.raw else ∃ k2 p2, c.Holds (y - 2) k2 p2 ∧ up = p2.raw) →
          u.cap.nextEmit = y ∧ u.cap.lumaWaiting = c.lumaWaiting ++ lineWrites k' (base + (y - 1) * g.w)
            (c.enhancedFrom g (y - 1) up above.raw raw) := by
  intro c base raw beyond asCaptured
  have geom' := geom
  obtain ⟨wide, -, -, tall, -⟩ := geom'
  obtain ⟨-, short, -, -, length⟩ := Txn.write_of_legal h.legal h.dir
  have lineEnd : (y + 1) * g.w = y * g.w + g.w := by rw [Nat.add_mul, Nat.one_mul]
  have nextEnd : (y + 1 + 1) * g.w = (y + 1) * g.w + g.w := by rw [Nat.add_mul (y + 1), Nat.one_mul]
  have fits : (y + 1 + 1) * g.w ≤ g.w * g.h := CapGeom.line_le_area inside
  have frame : s.frameBase = base := State.frameBase_of_slot filled region
  obtain ⟨line, column⟩ := line_of_offset low before
  obtain ⟨u, tiles, row, log, fwd, cap⟩ := h.luma_written (die := die) geom receiving ordered stored whole (by omega)
    accepts
  have m : g.w - off % g.w = (y + 1) * g.w - off := by omega
  have total : raw.length = g.w := by
    rw [List.length_append, List.length_take, filledTo]
    omega
  have holds' : (c.withTiles tiles).Holds y k pl := holds.withTiles tiles
  have absent' : (c.withTiles tiles).placeOf (y + 1) = none := absent
  have follows' : (c.withTiles tiles).Follows y := follows
  have room : none ∈ (c.withTiles tiles).places :=
    Capture.room_of_acceptsLines (c := c) (by omega) low before crosses absent accepts
  let e := ((c.withTiles tiles).setPlace k (some (pl.full raw))).emitAll g base 2
  have accepted : (c.withTiles tiles).acceptLuma g base t.data.length off t.data =
      (e.addToLine g.w (y + 1) beyond).emitAll g base 2 := by
    rw [Capture.acceptLuma_lines (by omega) (by omega) (by omega), line, m, holds'.addToLine_full total]
  obtain ⟨waiting, nextEmit, opened, kept, enhancedKept⟩ := holds'.crosses (g := g) (data := beyond) absent' follows' inside
    room (by rw [List.length_drop]; omega) raw base
  rw [frame, accepted] at cap
  have tracker : u.cap.tracker = .receiving := by
    obtain ⟨_, _, _, buffers⟩ := Capture.acceptLuma_buffers g base t.data.length off t.data (c.withTiles tiles)
    rw [cap, ← accepted, buffers]
    exact receiving
  refine ⟨u, row, log, fwd, by rw [cap], tracker, by rw [cap]; exact opened, fun plain => ?_,
    fun enhanced => by rw [cap]; exact enhancedKept enhanced, fun enhanced first => ?_,
    fun k' above up enhanced second upper top => ?_⟩
  · have next : (c.withTiles tiles).nextEmit = y := follows.elim (·.2) fun h => absurd plain h.1
    obtain ⟨waitingE, nextE, holdsE⟩ := holds'.completes_plain (g := g) absent' plain next raw base
    rw [cap]
    exact ⟨waiting.trans waitingE, nextEmit.trans nextE, kept _ holdsE⟩
  · subst first
    have next : (c.withTiles tiles).nextEmit = 0 :=
      follows.elim (fun h => absurd h.1 enhanced) fun h => by have := h.2; exact Nat.succ_inj.1 this
    have same : e = (c.withTiles tiles).setPlace k (some (pl.full raw)) :=
      holds'.completes_first absent' enhanced next (by omega) raw base 2
    rw [cap]
    have waitingE : e.lumaWaiting = c.lumaWaiting := by
      rw [same]
      rfl
    have nextE : e.nextEmit = 0 := by
      rw [same]
      exact next
    exact ⟨waiting.trans waitingE, nextEmit.trans nextE⟩
  · have next : (c.withTiles tiles).nextEmit + 1 = y :=
      follows.elim (fun h => absurd h.1 enhanced) fun h => h.2.trans (Nat.max_eq_left second)
    obtain ⟨waitingE, nextE, -⟩ := holds'.completes_next (g := g) absent' enhanced second (by omega) next
      (upper.withTiles tiles) raw base
    have above_up : c.upper (y - 1) above.raw = up := Capture.upper_eq second top
    rw [show (c.withTiles tiles).upper (y - 1) above.raw = up from above_up, if_neg (by omega), List.append_nil] at waitingE
    rw [if_neg (by omega)] at nextE
    rw [cap]
    exact ⟨nextEmit.trans nextE, waiting.trans waitingE⟩

/-- R7, R59, R65: a write that runs from the last line into the chroma. -/
theorem last_line_effect (geom : g.Legal) (receiving : s.cap.tracker = .receiving) (ordered : off = s.cap.expected)
    (stored : s.cap.dropped = false) (whole : s.cap.broken = false) (filled : s.cap.slot = some slot)
    (region : s.slots.geom = some sg) (low : y * g.w ≤ off) (before : off < (y + 1) * g.w)
    (crosses : (y + 1) * g.w < off + t.len) (holds : s.cap.Holds y k pl) (filledTo : pl.raw.length = off - y * g.w)
    (absent : s.cap.placeOf (y + 1) = none) (follows : s.cap.Follows y) (last : y + 1 = g.h)
    (accepts : s.cap.acceptsLines g off (g.w * g.h - off) = true) (room : s.hasRoom .write = true) :
    let c := s.cap
    let base := sg.base + slot * sg.frameSize
    let raw := pl.raw ++ t.data.take ((y + 1) * g.w - off)
    let beyond := t.data.drop ((y + 1) * g.w - off)
    ∃ u, exec (.captureWrite t die) s = .next u
      ∧ u.path.upLog = s.path.upLog ∧ u.path.fwd = s.path.fwd ++ [⟨t.id, .write, base + g.w * g.h,
          off + t.len - g.w * g.h, beyond, true, [], false, none⟩]
      ∧ u.cap.expected = off + t.len ∧ u.cap.tracker = .receiving
      ∧ (c.frameKind = .plain → u.cap.nextEmit = g.h
          ∧ u.cap.lumaWaiting = c.lumaWaiting ++ lineWrites k (base + y * g.w) raw)
      ∧ ∀ (k' k2 : Nat) (above p2 : Place), c.frameKind ≠ .plain → c.Holds (y - 1) k' above → c.Holds (y - 2) k2 p2 →
          u.cap.nextEmit = g.h ∧ u.cap.lumaWaiting = c.lumaWaiting
            ++ lineWrites k' (base + (y - 1) * g.w) (c.enhancedFrom g (y - 1) p2.raw above.raw raw)
            ++ lineWrites k (base + y * g.w) (c.enhancedFrom g y above.raw raw raw) := by
  intro c base raw beyond
  have geom' := geom
  obtain ⟨wide, -, -, tall, -⟩ := geom'
  obtain ⟨-, short, -, -, length⟩ := Txn.write_of_legal h.legal h.dir
  have area : (y + 1) * g.w = g.w * g.h := by rw [last, Nat.mul_comm]
  have lineEnd : (y + 1) * g.w = y * g.w + g.w := by rw [Nat.add_mul, Nat.one_mul]
  have large := CapGeom.area_of_legal geom
  have frame : s.frameBase = base := State.frameBase_of_slot filled region
  obtain ⟨line, column⟩ := line_of_offset low before
  obtain ⟨cap, log, fwd, -, -, -⟩ := State.taken_effect (s := s) (t := t) (g := g) (off := off) (die := die) (.inr stored)
  have lumaEq : g.lumaPart off t.data = t.data.take ((y + 1) * g.w - off) := by rw [CapGeom.lumaPart, area]
  have chromaEq : g.chromaPart off t.data = beyond := by rw [CapGeom.chromaPart, ← area]
  have lumaLength : (t.data.take ((y + 1) * g.w - off)).length = (y + 1) * g.w - off := by
    rw [List.length_take]
    omega
  have total : raw.length = g.w := by
    rw [List.length_append, lumaLength, filledTo]
    omega
  have beyondLength : beyond.length = off + t.len - g.w * g.h := by
    rw [List.length_drop, length]
    omega
  have chroma : beyond.isEmpty = false := by
    rw [Bool.eq_false_iff, ne_eq, List.isEmpty_iff]
    intro nil
    rw [nil, List.length_nil] at beyondLength
    omega
  have taken : s.acceptsWrite g off t.data = true := by
    refine State.acceptsWrite_iff.2 (.inr ⟨fun _ => ?_, fun out => ?_, .inr room⟩)
    · rw [lumaEq, lumaLength, area]
      exact accepts
    · simp [whole, ordered] at out
  obtain ⟨tiles, written⟩ := Capture.written_stored (g := g) (off := off) stored whole base t.len
    (t.data.take ((y + 1) * g.w - off))
  have holds' : (c.withTiles tiles).Holds y k pl := holds.withTiles tiles
  have absent' : (c.withTiles tiles).placeOf (y + 1) = none := absent
  obtain ⟨fuel, fuelEq⟩ : ∃ fuel, (t.data.take ((y + 1) * g.w - off)).length = fuel + 1 :=
    ⟨(y + 1) * g.w - off - 1, by omega⟩
  rw [fuelEq, Capture.acceptLuma_line (List.ne_nil_of_length_pos (by omega)) (by omega), line,
    holds'.addToLine_full total] at written
  rw [State.inOrder_of_ordered ordered, State.leaveUntaken_cap, frame, lumaEq, written,
    if_neg (show off + t.len ≠ g.w * g.h * 3 / 2 by omega), receiving] at cap
  rw [stored, chromaEq, chroma, Bool.or_self, if_neg Bool.false_ne_true] at log fwd
  refine ⟨_, h.taken receiving taken, by rw [log, List.append_nil], ?_, by rw [cap], by rw [cap], fun plain => ?_,
    fun k' k2 above p2 enhanced upper upper2 => ?_⟩
  · rw [fwd, State.chromaEntry, chromaEq, beyondLength, frame, Nat.max_eq_right (by omega)]
  · have next : (c.withTiles tiles).nextEmit = y := follows.elim (·.2) fun h => absurd plain h.1
    obtain ⟨waiting, nextEmit, -⟩ := holds'.completes_plain (g := g) absent' plain next raw base
    rw [cap]
    exact ⟨nextEmit.trans last, waiting⟩
  · have next : (c.withTiles tiles).nextEmit + 1 = y :=
      follows.elim (fun h => absurd h.1 enhanced) fun h => h.2.trans (Nat.max_eq_left (by omega))
    obtain ⟨waiting, nextEmit, -⟩ := holds'.completes_next (g := g) absent' enhanced (by omega) (by omega) next
      (upper.withTiles tiles) raw base
    have above_up : c.upper (y - 1) above.raw = p2.raw := by
      refine Capture.upper_eq (by omega) ?_
      rw [if_neg (by omega)]
      exact ⟨k2, p2, upper2, rfl⟩
    rw [show (c.withTiles tiles).upper (y - 1) above.raw = p2.raw from above_up, if_pos last] at waiting
    rw [if_pos last] at nextEmit
    rw [cap]
    exact ⟨nextEmit, waiting⟩

end State.Captures

end Sys2Proof.Machine
end

section
/-! The line buffer of a frame whose order broke (R69). -/

namespace Sys2Proof.Machine

variable {s u : State} {t : Txn} {c c' : Capture} {g : CapGeom} {sg : SlotGeom} {base n j k off slot y z : Nat}
  {p q : Place} {data : List Byte} {die : Int}

/-! ### What a flush and a unit leave -/

/-- From `c` to `c'` writes have been raised: none is lost, no place becomes a NEIGHBOUR, and a place EMITTED stays. -/
structure Capture.Raises (c c' : Capture) : Prop where
  waiting : ∃ more, c'.lumaWaiting = c.lumaWaiting ++ more
  neighbours : (∀ k p, c.placeAt k = some p → p.cond ≠ .neighbour) → ∀ k p, c'.placeAt k = some p → p.cond ≠ .neighbour
  emitted : ∀ k p, c.placeAt k = some p → p.cond = .emitted → c'.placeAt k = some p

namespace Capture.Raises

theorem refl (c : Capture) : c.Raises c := ⟨⟨[], (List.append_nil _).symm⟩, fun h => h, fun _ _ h _ => h⟩

theorem trans {c c' c'' : Capture} (h : c.Raises c') (h' : c'.Raises c'') : c.Raises c'' := by
  obtain ⟨⟨more, waiting⟩, neighbours, emitted⟩ := h
  obtain ⟨⟨more', waiting'⟩, neighbours', emitted'⟩ := h'
  exact ⟨⟨more ++ more', by rw [waiting', waiting, List.append_assoc]⟩, fun none => neighbours' (neighbours none),
    fun k p place done => emitted' k p (emitted k p place done) done⟩

theorem mem {w : LumaWrite} (h : c.Raises c') (mem : w ∈ c.lumaWaiting) : w ∈ c'.lumaWaiting := by
  obtain ⟨⟨more, waiting⟩, -, -⟩ := h
  rw [waiting]
  exact List.mem_append_left _ mem

/-- A place that was not EMITTED is put down EMITTED, and its writes are raised. -/
theorem setPlace (before : ∀ p, c.placeAt k = some p → p.cond ≠ .emitted) (done : q.cond = .emitted)
    (writes : List LumaWrite) :
    c.Raises { c.setPlace k (some q) with lumaWaiting := c.lumaWaiting ++ writes } := by
  have places (j : Nat) : ({ c.setPlace k (some q) with lumaWaiting := c.lumaWaiting ++ writes } : Capture).placeAt j =
      if j = k ∧ k < c.places.length then some q else c.placeAt j := c.placeAt_setPlace k j (some q)
  refine ⟨⟨writes, rfl⟩, fun none j p place => ?_, fun j p place emitted => ?_⟩
  · rw [places] at place
    split at place
    · cases place
      rw [done]
      nofun
    · exact none j p place
  · rw [places, if_neg]
    · exact place
    · rintro ⟨rfl, -⟩
      exact before p place emitted

theorem foldl {α : Type} {f : Capture → α → Capture} (h : ∀ (c : Capture) (a : α), c.Raises (f c a)) :
    ∀ (l : List α) (c : Capture), c.Raises (l.foldl f c)
  | [], c => .refl c
  | a :: l, c => .trans (h c a) (foldl h l _)

end Capture.Raises

/-! ### A line flushed -/

theorem Capture.flushLine_of_absent (w : Nat) (absent : c.placeOf y = none) : c.flushLine w base y = c := by
  simp only [Capture.flushLine, absent]

theorem Capture.Holds.flushLine (h : c.Holds y k p) (w base : Nat) : c.flushLine w base y =
    if p.cond = .receiving ∨ p.cond = .complete then c.raiseWrites k (base + y * w) p.raw p else c := by
  have place : c.places.getD k none = some p := h.place
  simp only [Capture.flushLine, h.placeOf, place]

theorem Capture.flushLine_effect (w base y : Nat) (c : Capture) : c.Raises (c.flushLine w base y)
    ∧ c.Wanes (c.flushLine w base y)
    ∧ ∀ z k p, c.Holds z k p → z ≠ y → (c.flushLine w base y).Holds z k p := by
  cases found : c.placeOf y with
  | none =>
    rw [Capture.flushLine_of_absent w found]
    exact ⟨.refl c, .refl c, fun _ _ _ h _ => h⟩
  | some k =>
    obtain ⟨p, h⟩ := Capture.exists_holds found
    rw [h.flushLine]
    split
    next pending =>
      obtain ⟨-, wanes, others⟩ := h.raiseWrites (base + y * w) p.raw
      refine ⟨.setPlace (q := p.raised (lineWrites k (base + y * w) p.raw)) (fun q place emitted => ?_) rfl _, wanes, others⟩
      rw [h.place] at place
      cases place
      rw [emitted] at pending
      exact pending.elim nofun nofun
    next => exact ⟨.refl c, .refl c, fun _ _ _ h _ => h⟩

/-- R69: a line that gathers or is complete, among those flushed, is written as captured. -/
theorem Capture.Holds.flushLines {w : Nat} (pending : p.cond = .receiving ∨ p.cond = .complete) (lines : List Nat)
    (mem : y ∈ lines) (h : c.Holds y k p) :
    (lines.foldl (fun c y => c.flushLine w base y) c).placeAt k
        = some (p.raised (lineWrites k (base + y * w) p.raw))
      ∧ ∀ x ∈ lineWrites k (base + y * w) p.raw,
        x ∈ (lines.foldl (fun c y => c.flushLine w base y) c).lumaWaiting := by
  induction lines generalizing c with
  | nil => cases mem
  | cons z lines ih =>
    rw [List.foldl_cons]
    by_cases here : y = z
    · subst here
      have rest := Capture.Raises.foldl (fun c z => (Capture.flushLine_effect w base z c).1) lines (c.flushLine w base y)
      have raised : c.flushLine w base y = c.raiseWrites k (base + y * w) p.raw p := by rw [h.flushLine, if_pos pending]
      obtain ⟨holds, -, -⟩ := h.raiseWrites (base + y * w) p.raw
      refine ⟨rest.emitted k _ (by rw [raised]; exact holds.place) rfl, fun x memX => rest.mem ?_⟩
      rw [raised]
      exact List.mem_append_right _ memX
    · exact ih ((List.mem_cons.1 mem).resolve_left here) ((c.flushLine_effect w base z).2.2 y k p h here)

/-! ### The flush (R69, log 32) -/

/-- The line buffer with its NEIGHBOUR places freed. -/
def Capture.unneighboured (c : Capture) : Capture := { c with places := c.places.map fun
    | some p => if p.cond = .neighbour then none else some p
    | none => none }

theorem Capture.unneighboured_placeAt (k : Nat) (c : Capture) : c.unneighboured.placeAt k =
    match c.placeAt k with
    | some p => if p.cond = .neighbour then none else some p
    | none => none := by
  unfold Capture.placeAt Capture.unneighboured
  rw [List.getD_eq_getElem?_getD, List.getD_eq_getElem?_getD, List.getElem?_map]
  cases c.places[k]? with
  | none => rfl
  | some o => rfl

theorem Capture.flush_eq (w base : Nat) (c : Capture) : c.flush w base =
    [c.nextEmit, c.nextEmit + 1, c.nextEmit + 2, c.nextEmit + 3].foldl (fun c y => c.flushLine w base y) c.unneighboured :=
  rfl

theorem Capture.placeAt_unneighboured_eq_some :
    c.unneighboured.placeAt k = some p ↔ c.placeAt k = some p ∧ p.cond ≠ .neighbour := by
  rw [Capture.unneighboured_placeAt]
  cases c.placeAt k with
  | none => exact ⟨nofun, fun h => absurd h.1 nofun⟩
  | some q =>
    dsimp only
    by_cases neighbour : q.cond = .neighbour
    · rw [if_pos neighbour]
      refine ⟨nofun, fun ⟨same, not⟩ => ?_⟩
      cases same
      exact absurd neighbour not
    · rw [if_neg neighbour]
      refine ⟨fun same => ⟨same, ?_⟩, fun h => h.1⟩
      cases same
      exact neighbour

theorem Capture.Holds.unneighboured (h : c.Holds y k p) (stays : p.cond ≠ .neighbour) : c.unneighboured.Holds y k p := by
  have place := Capture.placeAt_unneighboured_eq_some.2 ⟨h.place, stays⟩
  obtain ⟨unit, line⟩ := h.line_eq
  refine ⟨Capture.placeOf_eq_some.2 ⟨Capture.lineAt_eq_some.2 ⟨p, place, unit, line⟩, fun j before there => ?_⟩, place⟩
  obtain ⟨q, placeQ, unitQ, lineQ⟩ := Capture.lineAt_eq_some.1 there
  exact (Capture.placeOf_eq_some.1 h.placeOf).2 j before
    (Capture.lineAt_eq_some.2 ⟨q, (Capture.placeAt_unneighboured_eq_some.1 placeQ).1, unitQ, lineQ⟩)

/-- R69: the buffer of a frame whose order breaks. -/
theorem Capture.flush_effect (w base : Nat) (c : Capture) :
    (∃ more, (c.flush w base).lumaWaiting = c.lumaWaiting ++ more)
      ∧ (∀ k p, (c.flush w base).placeAt k = some p → p.cond ≠ .neighbour)
      ∧ (none ∈ c.places → none ∈ (c.flush w base).places)
      ∧ ∀ y k p, c.nextEmit ≤ y → y < c.nextEmit + 4 → c.Holds y k p → p.cond = .receiving ∨ p.cond = .complete →
        (c.flush w base).placeAt k = some (p.raised (lineWrites k (base + y * w) p.raw))
          ∧ ∀ x ∈ lineWrites k (base + y * w) p.raw, x ∈ (c.flush w base).lumaWaiting := by
  rw [Capture.flush_eq]
  have raises := Capture.Raises.foldl (fun c z => (Capture.flushLine_effect w base z c).1)
    [c.nextEmit, c.nextEmit + 1, c.nextEmit + 2, c.nextEmit + 3] c.unneighboured
  have wanes (lines : List Nat) : ∀ c : Capture, c.Wanes (lines.foldl (fun c y => c.flushLine w base y) c) := by
    induction lines with
    | nil => exact fun c => .refl c
    | cons z lines ih => exact fun c => (c.flushLine_effect w base z).2.1.trans (ih _)
  refine ⟨raises.waiting, raises.neighbours fun k p place => (Capture.placeAt_unneighboured_eq_some.1 place).2,
    fun free => (wanes _ _).mem_free (List.mem_map.2 ⟨none, free, rfl⟩), fun y k p low high h pending => ?_⟩
  refine Capture.Holds.flushLines pending _ ?_ (h.unneighboured ?_)
  · simp only [List.mem_cons, List.not_mem_nil, or_false]
    omega
  · rintro neighbour
    rw [neighbour] at pending
    exact pending.elim nofun nofun

/-! ### A write of a frame whose order broke -/

theorem Capture.addUnit_of_free (free : c.freePlace = some k) (some : data ≠ []) (w base off : Nat) :
    c.addUnit w base off data = { c.setPlace k (.some ⟨off / w, true, .emitted, data, 1⟩) with
      lumaWaiting := c.lumaWaiting ++ [⟨base + off, data, k⟩] } := by
  simp only [Capture.addUnit, free]
  rw [if_neg (by simpa using some)]

theorem Capture.addUnit_nil (w base off : Nat) (c : Capture) : c.addUnit w base off [] = c := by
  unfold Capture.addUnit
  split <;> rfl

theorem Capture.addUnit_raises (w base off : Nat) (data : List Byte) (c : Capture) : c.Raises (c.addUnit w base off data) := by
  by_cases nil : data = []
  · rw [nil, Capture.addUnit_nil]
    exact .refl c
  · cases free : c.freePlace with
    | none =>
      simp only [Capture.addUnit, free]
      exact .refl c
    | some k =>
      rw [Capture.addUnit_of_free free nil]
      refine .setPlace (fun p place => ?_) rfl _
      rw [Capture.placeAt_of_free (Capture.freePlace_eq_some.1 free).1] at place
      cases place

theorem Capture.written_broken (stored : c.dropped = false) (broken : c.broken = true) (base off len : Nat)
    (luma : List Byte) : c.written g base off len luma = { c.addUnit g.w base off luma with expected := off + len } := by
  have fed : c.feedTiles g off luma = c := if_pos broken
  unfold Capture.written
  rw [fed]
  dsimp only
  rw [if_neg (by simp [stored]), Capture.storeLuma, if_pos broken]

end Sys2Proof.Machine
end

section
/-! Capture writes of a frame whose order broke, and the write that breaks it (R7, R60, R69). -/

namespace Sys2Proof.Machine

variable {s u : State} {t : Txn} {c c' : Capture} {g : CapGeom} {sg : SlotGeom} {base n j k off slot y z : Nat}
  {p q : Place} {data : List Byte} {die : Int}

/-- R59: whether a write has no chroma. -/
theorem CapGeom.chroma_isEmpty (length : data.length = n) (some : 0 < n) :
    (g.chromaPart off data).isEmpty = true ↔ ¬ g.w * g.h < off + n := by
  rw [List.isEmpty_iff, CapGeom.chromaPart, List.drop_eq_nil_iff]
  omega

theorem CapGeom.lumaPart_ne_nil (some : data ≠ []) (luma : off < g.w * g.h) : g.lumaPart off data ≠ [] := by
  rw [CapGeom.lumaPart, ne_eq, List.take_eq_nil_iff]
  exact not_or.2 ⟨by omega, some⟩

/-- R69: a write that finds the buffer flushed takes a free place and is written as it came. -/
theorem Capture.written_flushed (stored : c.dropped = false) (len : Nat) (data : List Byte) :
    let d := (c.disordered.flush g.w base).written g base off len data
    (data ≠ [] → none ∈ c.places → ∃ k, d.placeAt k = some ⟨off / g.w, true, .emitted, data, 1⟩
        ∧ ⟨base + off, data, k⟩ ∈ d.lumaWaiting)
      ∧ (∀ y k p, c.nextEmit ≤ y → y < c.nextEmit + 4 → c.Holds y k p → p.cond = .receiving ∨ p.cond = .complete →
          d.placeAt k = some (p.raised (lineWrites k (base + y * g.w) p.raw))
          ∧ ∀ w ∈ lineWrites k (base + y * g.w) p.raw, w ∈ d.lumaWaiting)
      ∧ (∀ k p, d.placeAt k = some p → p.cond ≠ .neighbour)
      ∧ ∃ more, d.lumaWaiting = c.lumaWaiting ++ more := by
  obtain ⟨_, _, _, flushed⟩ := c.disordered.flush_buffers g.w base
  have storedF : (c.disordered.flush g.w base).dropped = false := by
    rw [flushed]
    exact stored
  have brokenF : (c.disordered.flush g.w base).broken = true := by
    rw [flushed]
    rfl
  obtain ⟨⟨more, waiting⟩, neighbours, free, lines⟩ := c.disordered.flush_effect g.w base
  have holdsF (y k : Nat) (p : Place) (h : c.Holds y k p) : c.disordered.Holds y k p := h.of_places rfl
  rw [Capture.written_broken storedF brokenF]
  clear flushed storedF brokenF
  generalize c.disordered.flush g.w base = f at *
  have places (j : Nat) : ({ f.addUnit g.w base off data with expected := off + len } : Capture).placeAt j =
      (f.addUnit g.w base off data).placeAt j := rfl
  have raises := f.addUnit_raises g.w base off data
  simp only [places]
  refine ⟨fun some room => ?_, fun y k p low high holds pending => ?_, raises.neighbours neighbours, ?_⟩
  · obtain ⟨k, freeK⟩ := Option.isSome_iff_exists.1 (Capture.freePlace_isSome.2 (free room))
    have inside := Capture.lt_of_free (Capture.freePlace_eq_some.1 freeK).1
    rw [Capture.addUnit_of_free freeK some]
    exact ⟨k, (f.placeAt_setPlace k k _).trans (if_pos ⟨rfl, inside⟩), List.mem_append_right _ (List.mem_singleton_self _)⟩
  · obtain ⟨place, mem⟩ := lines y k p low high (holdsF y k p holds) pending
    exact ⟨raises.emitted k _ place rfl, fun w memW => raises.mem (mem w memW)⟩
  · obtain ⟨more', waiting'⟩ := raises.waiting
    exact ⟨more ++ more', by rw [waiting', waiting, List.append_assoc]; rfl⟩

namespace State.Captures

variable (h : s.Captures t g off)
include h

theorem data_ne_nil : t.data ≠ [] := by
  obtain ⟨low, -, -, -, length⟩ := Txn.write_of_legal h.legal h.dir
  exact List.ne_nil_of_length_pos (by omega)

/-- R7, R59: where a stored frame's write is answered and what is redirected. -/
theorem answered (stored : s.cap.dropped = false) (filled : s.cap.slot = some slot) (region : s.slots.geom = some sg) :
    let base := sg.base + slot * sg.frameSize
    let redirected : FwdEntry := ⟨t.id, .write, base + max off (g.w * g.h), off + t.len - max off (g.w * g.h),
      t.data.drop (g.w * g.h - off), true, [], false, none⟩
    let v := (s.leaveUntaken t).frameWrite t g off die
    v.path.upLog = s.path.upLog ++ (if g.w * g.h < off + t.len then [] else [⟨t.id, .write, .okay, []⟩])
      ∧ v.path.fwd = s.path.fwd ++ (if g.w * g.h < off + t.len then [redirected] else []) := by
  intro base redirected
  have length := h.data_length
  obtain ⟨-, log, fwd, -⟩ := State.taken_effect (s := s) (t := t) (g := g) (off := off) (die := die) (.inr stored)
  have entry : s.chromaEntry t g off = redirected := by
    have rest : (g.chromaPart off t.data).length = off + t.len - max off (g.w * g.h) := by
      rw [CapGeom.chromaPart, List.length_drop, length]
      omega
    rw [State.chromaEntry, rest, State.frameBase_of_slot filled region]
    rfl
  have none := CapGeom.chroma_isEmpty (g := g) (off := off) length (length ▸ List.length_pos_iff.2 h.data_ne_nil)
  rw [stored, Bool.false_or] at log fwd
  by_cases chroma : g.w * g.h < off + t.len
  · rw [if_neg (by rw [none]; exact not_not.2 chroma)] at log fwd
    rw [if_pos chroma, if_pos chroma, ← entry]
    exact ⟨log, fwd⟩
  · rw [if_pos (none.2 chroma)] at log fwd
    rw [if_neg chroma, if_neg chroma]
    exact ⟨log, fwd⟩

/-- R67, R69: once the order has broken, luma needs a free place. -/
theorem broken_held (receiving : s.cap.tracker = .receiving) (stored : s.cap.dropped = false)
    (broken : s.cap.broken = true) (luma : off < g.w * g.h) (full : s.cap.freePlace = none) :
    exec (.captureWrite t die) s = .next (s.holdUntaken t) := by
  refine h.held receiving (Bool.eq_false_iff.2 fun accepts => ?_)
  obtain dropped | ⟨-, place, -⟩ := State.acceptsWrite_iff.1 accepts
  · simp [stored] at dropped
  · exact (place (.inl broken)).elim (CapGeom.lumaPart_ne_nil h.data_ne_nil luma) (Capture.freePlace_eq_none.1 full)

/-- R69: once the order has broken, each write takes a place and is written as it came. -/
theorem broken_effect (receiving : s.cap.tracker = .receiving) (stored : s.cap.dropped = false)
    (filled : s.cap.slot = some slot) (region : s.slots.geom = some sg) (broken : s.cap.broken = true)
    (luma : off < g.w * g.h) (free : s.cap.freePlace = some k) (room : off + t.len ≤ g.w * g.h ∨ s.hasRoom .write = true) :
    let base := sg.base + slot * sg.frameSize
    let luma := t.data.take (g.w * g.h - off)
    let redirected : FwdEntry := ⟨t.id, .write, base + max off (g.w * g.h), off + t.len - max off (g.w * g.h),
      t.data.drop (g.w * g.h - off), true, [], false, none⟩
    ∃ u, exec (.captureWrite t die) s = .next u
      ∧ u.cap.places = s.cap.places.set k (some ⟨off / g.w, true, .emitted, luma, 1⟩)
      ∧ u.cap.lumaWaiting = s.cap.lumaWaiting ++ [⟨base + off, luma, k⟩] ∧ u.cap.expected = off + t.len
      ∧ u.path.upLog = s.path.upLog ++ (if g.w * g.h < off + t.len then [] else [⟨t.id, .write, .okay, []⟩])
      ∧ u.path.fwd = s.path.fwd ++ (if g.w * g.h < off + t.len then [redirected] else []) := by
  intro base lumaBytes redirected
  have taken : s.acceptsWrite g off t.data = true := by
    refine State.acceptsWrite_iff.2 (.inr ⟨fun whole => ?_, fun _ => .inr ?_, room.imp_left fun fits => ?_⟩)
    · simp [broken] at whole
    · exact Capture.freePlace_isSome.1 (by rw [free]; rfl)
    · exact CapGeom.chromaPart_of_le (by rw [h.data_length]; exact fits)
  obtain ⟨log, fwd⟩ := h.answered (die := die) stored filled region
  obtain ⟨cap, -⟩ := State.taken_effect (s := s) (t := t) (g := g) (off := off) (die := die) (.inr stored)
  rw [State.inOrder_of_settled (.inr broken), State.leaveUntaken_cap, State.frameBase_of_slot filled region,
    Capture.written_broken stored broken, Capture.addUnit_of_free free (CapGeom.lumaPart_ne_nil h.data_ne_nil luma)] at cap
  refine ⟨_, h.taken receiving taken, ?_, ?_, ?_, log, fwd⟩
  · rw [cap]
    rfl
  · rw [cap]
    rfl
  · rw [cap]

/-- R60, R69: the write that breaks the order has the lines in the buffer written as captured, and is written as it
came. -/
theorem breaking_effect (receiving : s.cap.tracker = .receiving) (stored : s.cap.dropped = false)
    (filled : s.cap.slot = some slot) (region : s.slots.geom = some sg) (whole : s.cap.broken = false)
    (out : off ≠ s.cap.expected) (accepts : s.acceptsWrite g off t.data = true) :
    let c := s.cap
    let base := sg.base + slot * sg.frameSize
    let luma := t.data.take (g.w * g.h - off)
    let redirected : FwdEntry := ⟨t.id, .write, base + max off (g.w * g.h), off + t.len - max off (g.w * g.h),
      t.data.drop (g.w * g.h - off), true, [], false, none⟩
    ∃ u, exec (.captureWrite t die) s = .next u
      ∧ u.path.fwd = s.path.fwd ++ (if g.w * g.h < off + t.len then [redirected] else [])
      ∧ (off < g.w * g.h → ∃ k, u.cap.places.getD k none = some ⟨off / g.w, true, .emitted, luma, 1⟩
          ∧ ⟨base + off, luma, k⟩ ∈ u.cap.lumaWaiting)
      ∧ (∀ y k p, c.nextEmit ≤ y → y < c.nextEmit + 4 → c.Holds y k p → p.cond = .receiving ∨ p.cond = .complete →
          let writes := lineWrites k (base + y * g.w) p.raw
          u.cap.places.getD k none = some (p.raised writes) ∧ ∀ w ∈ writes, w ∈ u.cap.lumaWaiting)
      ∧ (∀ k p, u.cap.places.getD k none = some p → p.cond ≠ .neighbour)
      ∧ ∃ more, u.cap.lumaWaiting = c.lumaWaiting ++ more := by
  intro c base luma redirected
  obtain ⟨-, fwd⟩ := h.answered (die := die) stored filled region
  obtain ⟨cap, -⟩ := State.taken_effect (s := s) (t := t) (g := g) (off := off) (die := die) (.inr stored)
  have cap0 : (s.leaveUntaken t).cap = c := State.leaveUntaken_cap ..
  have base0 : (s.leaveUntaken t).frameBase = base :=
    State.frameBase_of_slot (by rw [cap0]; exact filled) (by rw [State.leaveUntaken_slots]; exact region)
  have broken : ((s.leaveUntaken t).inOrder g off).cap = s.cap.disordered.flush g.w (sg.base + slot * sg.frameSize) := by
    have breaks : (s.leaveUntaken t).inOrder g off = (s.leaveUntaken t).breakOrder g :=
      if_neg (by rw [cap0]; exact out)
    rw [breaks, (State.breakOrder_effect (by rw [cap0]; exact whole)).1, cap0, base0, stored, if_neg Bool.false_ne_true]
  obtain ⟨unit, lines, neighbours, more⟩ := Capture.written_flushed (c := s.cap) (g := g)
    (base := sg.base + slot * sg.frameSize) (off := off) stored t.len (g.lumaPart off t.data)
  rw [broken, State.frameBase_of_slot filled region] at cap
  generalize (s.cap.disordered.flush g.w (sg.base + slot * sg.frameSize)).written g (sg.base + slot * sg.frameSize) off
    t.len (g.lumaPart off t.data) = d at cap unit lines neighbours more
  refine ⟨_, h.taken receiving accepts, fwd, ?_⟩
  rw [cap]
  refine ⟨fun inLuma => ?_, lines, neighbours, more⟩
  have some := CapGeom.lumaPart_ne_nil (g := g) h.data_ne_nil inLuma
  obtain dropped | ⟨-, place, -⟩ := State.acceptsWrite_iff.1 accepts
  · simp [stored] at dropped
  · exact unit some ((place (.inr out)).resolve_left some)

end State.Captures

end Sys2Proof.Machine
end

section
/-! Capture writes: the obligation (R39, R59 to R62, R64 to R67, R69, R76, R78, R152). -/

namespace Sys2Proof.Machine

variable {s : State} {t : Txn} {c : Capture} {g : CapGeom} {sg : SlotGeom} {n j k k' off slot y z : Nat}
  {p pl above : Place} {data up : List Byte} {die : Int}

/-- The first part of the obligation: by the position tracker. -/
theorem State.Captures.tracked (h : s.Captures t g off) :
    let okay : UpResponse := ⟨t.id, .write, .okay, []⟩
    let last := g.w * g.h * 3 / 2
    s.cap.tracker = .receiving → off = s.cap.expected → s.cap.dropped = false → s.cap.broken = false →
        off + t.len ≤ g.w * g.h →
        (s.cap.acceptsLines g off t.len = true → off + t.len ≠ last → ∃ u, exec (.captureWrite t die) s = .next u
          ∧ u.path.upLog = s.path.upLog ++ [okay] ∧ u.path.fwd = s.path.fwd
          ∧ u.cap.expected = off + t.len ∧ u.cap.tracker = .receiving ∧ u.cap.broken = false
          ∧ u.cap.degraded = s.cap.degraded ∧ u.cap.lumaFlight = s.cap.lumaFlight
          ∧ s.changesOnly [.path, .cap] u)
        ∧ (s.cap.acceptsLines g off t.len = false → exec (.captureWrite t die) s = .next (s.holdUntaken t)) := by
  intro okay last receiving ordered stored whole fits
  refine ⟨fun accepts unended => ?_, h.luma_held receiving ordered stored whole fits⟩
  obtain ⟨u, row, log, fwd, cap, frame⟩ := h.luma_effect (die := die) receiving ordered stored whole fits accepts unended
  obtain ⟨_, _, _, _, _, written⟩ := Capture.written_eq g s.frameBase off t.len t.data s.cap
  rw [written] at cap
  exact ⟨u, row, log, fwd, by rw [cap], by rw [cap]; exact receiving, by rw [cap]; exact whole, by rw [cap], by rw [cap],
    frame⟩

/-- R65, R67: where lines stand, and what a write needs. -/
theorem lineBuffer_reads (y : Nat) (s : State) :
    let c := s.cap
    let holds := fun (y k : Nat) => ∃ p, c.places[k]? = some (some p) ∧ p.unit = false ∧ p.line = y
    (c.placeOf y = none ↔ ∀ k, ¬ holds y k) ∧ (∀ k, c.placeOf y = some k → holds y k ∧ ∀ j, j < k → ¬ holds y j) := by
  intro c holds
  have iff (y k : Nat) : c.lineAt k = some y ↔ holds y k := by
    rw [Capture.lineAt_eq_some]
    simp only [Capture.placeAt_eq_some, holds]
  refine ⟨?_, fun k found => ?_⟩
  · rw [Capture.placeOf_eq_none]
    exact forall_congr' fun k => not_congr (iff y k)
  · obtain ⟨here, first⟩ := Capture.placeOf_eq_some.1 found
    exact ⟨(iff y k).1 here, fun j before there => first j before ((iff y j).2 there)⟩

/-- The captured line two above line `y`, or the line above itself when that is the first. -/
theorem Capture.top_holds (top : if y = 1 then up = above.raw
    else ∃ k2 p2, c.placeOf (y - 2) = some k2 ∧ c.places.getD k2 none = some p2 ∧ up = p2.raw) :
    if y = 1 then up = above.raw else ∃ k2 p2, c.Holds (y - 2) k2 p2 ∧ up = p2.raw := by
  by_cases first : y = 1
  · rw [if_pos first] at top ⊢
    exact top
  · rw [if_neg first] at top ⊢
    obtain ⟨k2, p2, placed, place, same⟩ := top
    exact ⟨k2, p2, ⟨placed, place⟩, same⟩

/-- Settles O34, conjunct by conjunct: by the tracker, the line buffer's readings, the tile statistics, the writes within a
line, across a line's end and out of order, the class C writes of a line and what their grants leave. -/
theorem captureWriteFollowsTheTracker : Obligations.CaptureWriteFollowsTheTracker := by
  unfold Obligations.CaptureWriteFollowsTheTracker
  refine ⟨?_, ?_, ?_, ?_, ?_, ?_, lineWrites_spec, ?_⟩
  · intro t g off die s legal dir route later geom next settled okay last
    have h : s.Captures t g off := ⟨legal, dir, route, later, geom, next, settled⟩
    exact ⟨h.stray_effect, h.dropped_effect, h.tracked, h.held,
      fun k sg receiving order stored chroma room filled region =>
        h.chroma_effect receiving order stored chroma room filled region,
      h.disorder_effect, h.dropped_last_effect⟩
  · intro off n y data g s c holds first final luma chroma
    obtain ⟨absent, found⟩ := lineBuffer_reads y s
    exact ⟨absent, found, Capture.freePlace_eq_none, fun k => Capture.freePlace_eq_some.1, c.acceptsLines_zero g off,
      Capture.acceptsLines_iff, State.acceptsWrite_iff⟩
  · intro t g off die s legal dir route later geom whole next settled receiving ordered sums whites tile byte luma
    have h : s.Captures t g off := ⟨legal, dir, route, later, geom, next, settled⟩
    exact ⟨h.tiles_effect whole receiving ordered sums whites, h.dropped_end_effect receiving ordered⟩
  · intro t g sg off slot y k die s legal dir route later geom whole next settled receiving ordered stored unbroken accepts
      filled region inside low high absent c base does follows
    have h : s.Captures t g off := ⟨legal, dir, route, later, geom, next, settled⟩
    obtain ⟨opens, extends_⟩ := h.line_effect (die := die) (k := k) whole receiving ordered stored unbroken accepts filled
      region inside low high absent follows
    refine ⟨opens, fun pl placed place filledTo => ?_⟩
    obtain ⟨gathers, plain, first, enhanced⟩ := extends_ pl placed place filledTo
    refine ⟨gathers, plain, first, fun k' above up ends kind second placed' place' top => ?_⟩
    exact enhanced k' above up ends kind second ⟨placed', place'⟩ (Capture.top_holds top)
  · intro t g sg off slot y k pl die s legal dir route later geom whole next settled receiving ordered stored unbroken
      filled region inside low before crosses placed place filledTo absent c base raw beyond levels asCaptured follows
    have h : s.Captures t g off := ⟨legal, dir, route, later, geom, next, settled⟩
    refine ⟨fun inner accepts => ?_, fun last accepts room => ?_⟩
    · obtain ⟨u, row, log, fwd, expected, tracker, opened, plain, enhanced, first, above⟩ :=
        h.crossing_effect (die := die) whole receiving ordered stored unbroken filled region low before crosses
          ⟨placed, place⟩ filledTo absent follows inner accepts
      exact ⟨u, row, log, fwd, expected, tracker, opened, plain, enhanced, first,
        fun k' above' up kind second placed' place' top =>
          above k' above' up kind second ⟨placed', place'⟩ (Capture.top_holds top)⟩
    · obtain ⟨u, row, log, fwd, expected, tracker, plain, enhanced⟩ :=
        h.last_line_effect (die := die) whole receiving ordered stored unbroken filled region low before crosses
          ⟨placed, place⟩ filledTo absent follows last accepts room
      exact ⟨u, row, log, fwd, expected, tracker, plain, fun k' k2 above p2 kind placed' place' placed2 place2 =>
        enhanced k' k2 above p2 kind ⟨placed', place'⟩ ⟨placed2, place2⟩⟩
  · intro t g sg off slot die s legal dir route later geom whole next settled receiving stored filled region c base luma
      redirected
    have h : s.Captures t g off := ⟨legal, dir, route, later, geom, next, settled⟩
    refine ⟨fun broken inLuma => ⟨h.broken_held receiving stored broken inLuma, fun k free room => ?_⟩,
      fun unbroken out accepts => ?_⟩
    · exact h.broken_effect receiving stored filled region broken inLuma free room
    · obtain ⟨u, row, fwd, unit, lines, neighbours, more⟩ :=
        h.breaking_effect (die := die) receiving stored filled region unbroken out accepts
      exact ⟨u, row, fwd, unit, fun y k p low high placed place pending => lines y k p low high ⟨placed, place⟩ pending,
        neighbours, more⟩
  · intro w rest pl s running chosen waiting place free
    exact lumaGrant_frees running chosen waiting place

end Sys2Proof.Machine
end
